-- ==== Sys2Proof/Word.lean ====
section
/-! DEFINITION. The word types of the KF-208: bytes of a frame, web positions and repeat numbers. -/

namespace Sys2Proof

/-- One byte of a frame (10_frame_layouts.md). -/
abbrev Byte := BitVec 8

/-- A web position: an unsigned 32-bit count of 10 µm that wraps (R1). -/
abbrev Pos := BitVec 32

/-- A repeat number: unsigned, 32 bits, wraps (R2, R20). -/
abbrev Rep := BitVec 32

end Sys2Proof
end

