-- ==== Sys2Proof/Syntax.lean ====
section
/-! DEFINITION. The commands of the KF-208: one constructor for each row of spec/opcode_table.json.
A frame arrival carries the frame's header fields and its payload bytes (section 10.1); the payload length field and the
check of such a frame are the right ones, and a frame whose check or length may be wrong comes as the raw bytes of
FRAME_ARRIVAL (log 9). -/

namespace Sys2Proof

/-- The header fields of an arriving frame besides its kind and its payload length (section 10.1). `flags` holds BOUNCED
in bit 0; the part does not read the other bits nor the two reserved bytes (R180). -/
structure Header where
  dest : Byte
  src : Byte
  flags : Byte
  tag : Byte
  rsvHi : Byte
  rsvLo : Byte
deriving DecidableEq, Repr

/-- The fields of an MGQ payload after its request code (section 10.2): bank selector, table, index and data. -/
structure Req where
  bank : Byte
  table : Byte
  index : Byte
  data : List Byte
deriving DecidableEq, Repr

/-- A block that takes its part of a valid cycle frame as an event of its own (R75, R120, R136, R163): the planner with
its release, late and contact tests, one cassette of the cassette monitor, one drive of the drive links. -/
inductive CycUnit where
  | planner
  | cassette (c : Fin 8)
  | drive (d : Fin 12)
deriving DecidableEq, Repr

/-- The order in which blocks take one event, where the manual says that either may be taken first (log 1). Every
statement about a command is about every such order. -/
structure TakeOrder where
  /-- On a cycle frame: the units taken at the successive points between the acts of tracker and planner. -/
  points : List (List CycUnit) := []
  /-- On a cycle frame: the units whose part is left to a step of its own (log 2). -/
  own : List CycUnit := []
  /-- On a temperature report: the cassettes served first, in this order (R111). -/
  cassettes : List (Fin 8) := []
  /-- On a drive status frame: the drives served first, in this order (R127, R136). On a ring silence and a soft reset:
  the drives whose silence the planner hears before its flush, in this order (R85, R86). -/
  drives : List (Fin 12) := []
  /-- On a ring silence: the attention unit takes the raising of RING_SILENT before the discard of the waiting ATN
  (R178). -/
  raiseFirst : Bool := false
deriving DecidableEq, Repr

/-- The commands, one constructor for each row of spec/opcode_table.json. -/
inductive Instr where
  | powerOnReset (straps : BitVec 6)
  | cycArrival (h : Header) (payload : List Byte) (o : TakeOrder)
  | mrkArrival (h : Header) (payload : List Byte)
  | tmpArrival (h : Header) (payload : List Byte) (o : TakeOrder)
  | dstArrival (h : Header) (payload : List Byte) (o : TakeOrder)
  | frameArrival (raw : List Byte) (o : TakeOrder)
  | injectionSlot
  | ringSilence (o : TakeOrder)
  | tmpTimeout (c : Fin 8)
  | soakComplete (c : Fin 8)
  | driftExpiry (c : Fin 8)
  | answerTimeout (d : Fin 12)
  | dstTimeout (d : Fin 12)
  | writeDesign (h : Header) (q : Req)
  | writeLane (h : Header) (q : Req)
  | writeSequence (h : Header) (q : Req)
  | writeFoilMap (h : Header) (q : Req)
  | writeJob (h : Header) (q : Req)
  | read (h : Header) (q : Req)
  | writeStation (h : Header) (q : Req)
  | armChangeover (h : Header) (q : Req)
  | cancelChangeover (h : Header) (q : Req)
  | copyActiveToStandby (h : Header) (q : Req)
  | clearStandby (h : Header) (q : Req)
  | start (h : Header) (q : Req)
  | stop (h : Header) (q : Req)
  | holdLane (h : Header) (q : Req)
  | releaseLane (h : Header) (q : Req)
  | setTrim (h : Header) (q : Req)
  | setPitch (h : Header) (q : Req)
  | loadFoil (h : Header) (q : Req)
  | eventEnable (h : Header) (q : Req)
  | eventDisable (h : Header) (q : Req)
  | setLevel (h : Header) (q : Req)
  | ackEvent (h : Header) (q : Req)
  | pollEvents (h : Header) (q : Req)
  | fetchLog (h : Header) (q : Req)
  | setWatch (h : Header) (q : Req)
  | snapshot (h : Header) (q : Req)
  | identify (h : Header) (q : Req)
  | softReset (h : Header) (q : Req) (o : TakeOrder)
  | unknownRequestCode (h : Header) (code : Byte) (q : Req)
  | powerOnResetRelease
deriving DecidableEq, Repr

end Sys2Proof
end

