-- ==== Sys2Proof/Config.lean ====
section
/-! DEFINITION. What the part fixes once for all (its list depths and ranges), and the values the manual leaves
open: free values, constants without a body, so that no proof can see what they are. -/

namespace Sys2Proof.Config

/-- The top of the speed range, in counts/s (00_scope.md section 4.2, R4). -/
def maxSpeed : Nat := 500000
/-- The plan queue holds at most 32 plans (R56). -/
def queueDepth : Nat := 32
/-- A repeat plan holds at most four foil moves (R57, R93). -/
def movesPerPlan : Nat := 4
/-- A drive has at most four setpoints outstanding (R132). -/
def outstandingDepth : Nat := 4
/-- The answer waiting list holds at most four answers (R147, R160). -/
def answerDepth : Nat := 4
/-- The RPT waiting list holds at most eight reports (R167). -/
def reportDepth : Nat := 8
/-- The impression log holds at most 256 records (R169). -/
def logDepth : Nat := 256
/-- An injection window has six slots (R150). -/
def windowSlots : Nat := 6
/-- A foil roll holds at most this many counts (R88, R104). -/
def maxFoil : Nat := 2147483648
/-- The top of the 32-bit counters and of the saved total (R81, R88). -/
def maxCount32 : Nat := 4294967295
/-- The top of the 16-bit counts: stray marks (R19) and damaged frames (R143). -/
def maxCount16 : Nat := 65535
/-- The top of the 8-bit counts: ages and cycles of a drive (R126), occurrences of an event (R173). -/
def maxCount8 : Nat := 255
/-- The top of the count of ring cycles since the last TMP (R110, R115). -/
def maxSinceTmp : Nat := 4000
/-- Missing marks of one cycle frame are repeated at most this often. The coast count reaches Ncoast, which WRITE JOB
bounds by 8 (R33), in at most eight repetitions, so the bound is never what ends them. -/
def maxSynth : Nat := 255

/-- FREE VALUE (logs 11, 12): bytes of an answer that the manual says are sent and whose value it does not state, one
for each value of the free-value counter of State. -/
opaque freeByte : Nat → Byte

/-- FREE VALUE (log 13): which member of a set is answered next where the manual gives the set no order. -/
opaque freeIndex : Nat → Nat

/-- FREE VALUE (log 14): the code by which SNAPSHOT PART 2 names its lane group; the argument says whether the group is
HIGH. -/
opaque groupCode : Bool → Byte

end Sys2Proof.Config
end

