-- ==== Sys2Proof/Machine/State.lean ====
section
/-! DEFINITION. The state of the KF-208, block by block as section 2.1 of 00_scope.md names them, and its reset.
Plain data throughout. -/

namespace Sys2Proof.Machine

/-! ## Web tracker (chapter 1) -/

/-- The line state of a cycle frame (R4). -/
inductive LineState where
  | stop | crawl | run
deriving DecidableEq, Repr

/-- The tracker states (section 1.3). -/
inductive TrackMode where
  | unlocked | locking | locked | coasting
deriving DecidableEq, Repr

/-- The web tracker's items (R4, R5, R8). The prediction is computed from `mtPrev` and Lr of the active bank (R9). -/
structure Tracker where
  pos : Pos
  speed : Nat
  line : LineState
  cycleNo : BitVec 16
  firstCycle : Bool
  mode : TrackMode
  mtPrev : Pos
  lock : Nat
  coast : Nat
  stray : Nat
  repeatNo : Rep
  staged : Option Nat
deriving DecidableEq, Repr

/-- What the tracker hands to the planner for each numbered mark (R21). -/
structure HandOver where
  repeatNo : Rep
  mt : Pos
  residual : Int
  mode : TrackMode
  synth : Bool
deriving DecidableEq, Repr

/-! ## Job banks (chapter 2) -/

/-- The kind of impression a design makes (00_scope.md section 5). -/
inductive Kind where
  | foil | foilEmboss | embossWarm | embossCold
deriving DecidableEq, Repr

/-- A design record (section 2.1.1). `web` is absent for the emboss kinds (R30). -/
structure Design where
  kind : Kind
  segment : Fin 4
  web : Option (Fin 4)
  offset : Nat
  length : Nat
  pressure : Fin 16
  inhibit : Bool
deriving DecidableEq, Repr

/-- How a lane chooses its design (section 2.1.2). -/
inductive LaneMode where
  | off | fixed | alternate | sequence
deriving DecidableEq, Repr

/-- A lane entry (section 2.1.2). `onB` is the selector of an ALTERNATE lane, `index` that of a SEQUENCE lane. -/
structure Lane where
  mode : LaneMode
  slotA : Fin 64
  slotB : Fin 64
  seqStart : Fin 128
  seqLen : Nat
  onB : Bool
  index : Nat
  trim : Int
  hold : Bool
  lo : Int
  hi : Int
  nsoak : Nat
  ndrift : Nat
deriving DecidableEq, Repr

/-- A present foil map entry (section 2.1.4). -/
structure FoilWeb where
  first : Fin 8
  last : Fin 8
  fm : Nat
  gmin : Nat
  low : Nat
deriving DecidableEq, Repr

/-- The job parameters (section 2.1.5). -/
structure Job where
  lr : Nat
  w : Nat
  cmax : Nat
  tol : Nat
  ncoast : Nat
  vmin : Nat
deriving DecidableEq, Repr

/-- The five tables of a bank (section 2.1). -/
structure Bank where
  designs : Vector (Option Design) 64
  lanes : Vector Lane 8
  seq : Vector (Option (Fin 64)) 128
  foil : Vector (Option FoilWeb) 4
  job : Job
deriving DecidableEq, Repr

/-- The target of an armed changeover (R41). -/
inductive Target where
  | atRepeat (n : Rep)
  | next
deriving DecidableEq, Repr

/-- The station configuration (section 2.4). An unassigned station is none; drives 0 to 7 are the cassette drives and 8
to 11 the foil drives (R125). -/
structure StationCfg where
  sensor : Option Byte
  heaters : Vector (Option Byte) 8
  driveStations : Vector (Option Byte) 12
  d : Nat
  lc : Nat
  lf : Nat
  lmin : Nat
  nack : Nat
  ntmp : Nat
  jump : Nat
  masks : Vector Byte 12
deriving DecidableEq, Repr

/-- The job banks' items: both banks, the active-bank pointer, the changeover arm, the station configuration (R27). -/
structure Jobs where
  banks : Vector Bank 2
  active : Fin 2
  arm : Option Target
  cfg : StationCfg
deriving DecidableEq, Repr

/-! ## Impression planner (chapter 3) -/

/-- Reasons of an outcome (R79, coded in section 10.3). -/
inductive Reason where
  | held | inhibited | unlocked | register | speed | heat | drive | foilDrive | foilOut | overflow
  | late | noAck | foilNoAck | driveFault | flushed
deriving DecidableEq, Repr

/-- An outcome once decided (R79). An entry that is UNDECIDED holds none of these, and a lane that is OFF has no entry. -/
inductive Decision where
  | stamped
  | suppressed (r : Reason)
  | reject (r : Reason)
deriving DecidableEq, Repr

/-- The state of a PHS or FMV setpoint (R58, R59). -/
inductive SetState where
  | unsent | due | sent (seq : Byte) | acked | withdrawn
deriving DecidableEq, Repr

/-- An impression entry (R58); `outcome` is none while it is UNDECIDED. -/
structure Entry where
  lane : Fin 8
  design : Fin 64
  kind : Kind
  segment : Fin 4
  web : Option (Fin 4)
  length : Nat
  pressure : Fin 16
  contact : Pos
  release : Pos
  late : Pos
  phs : SetState
  move : Option Nat
  outcome : Option Decision
deriving DecidableEq, Repr

/-- A foil move of a repeat plan (R59, R57). -/
structure Move where
  web : Fin 4
  start : Pos
  stop : Pos
  length : Nat
  reserved : Nat
  st : SetState
  chain : Bool
  lanes : List (Fin 8)
  fm : Nat
  gmin : Nat
deriving DecidableEq, Repr

/-- A repeat plan (R57). -/
structure Plan where
  repeatNo : Rep
  mt : Pos
  residual : Int
  synth : Bool
  first : Bool
  nip : Pos
  vmin : Nat
  entries : List Entry
  moves : List Move
deriving DecidableEq, Repr

/-- The planner states (section 3.1). -/
inductive PlannerState where
  | idle | ready | stamping | draining
deriving DecidableEq, Repr

/-- The planner's items (R52, R56, R81); the queue's oldest plan stands first. -/
structure Planner where
  st : PlannerState
  queue : List Plan
  stamped : Vector Nat 8
  rejected : Vector Nat 8
deriving DecidableEq, Repr

/-! ## Foil allocator (chapter 4), cassette monitor (chapter 5), drive links (chapter 6) -/

/-- The account of one foil web (R88). -/
structure FoilAccount where
  remaining : Nat
  reserved : Nat
  low : Bool
  saved : Nat
deriving DecidableEq, Repr

/-- The heat states (section 5.2). -/
inductive Heat where
  | lost | cold | soak | ready | drift
deriving DecidableEq, Repr

/-- What the cassette monitor keeps of one cassette (R110). -/
structure Cassette where
  heat : Heat
  soak : Nat
  drift : Nat
  since : Nat
deriving DecidableEq, Repr

/-- The link states (section 6.1). -/
inductive Link where
  | silent | answering | faulted
deriving DecidableEq, Repr

/-- The plan item a setpoint belongs to, which also says its kind (R126). -/
inductive PlanItem where
  | phs (repeatNo : Rep) (lane : Fin 8)
  | fmv (repeatNo : Rep) (index : Nat)
deriving DecidableEq, Repr

/-- A record of an outstanding list (R126). -/
structure Outstanding where
  seq : Byte
  age : Nat
  item : PlanItem
deriving DecidableEq, Repr

/-- What the drive links keep of one drive (R126); the list's oldest record stands first. `lastEcho` is the last echo of
section 2.1 of 00_scope.md, which no rule reads (log 30). -/
structure Drive where
  link : Link
  next : Byte
  out : List Outstanding
  sent : Bool
  cycles : Nat
  last : Byte
  lastEcho : Byte
deriving DecidableEq, Repr

/-! ## Management engine (chapter 8) -/

/-- The statuses of an answer (section 8.2). -/
inductive Status where
  | done | clamped | busy | armed | notArmed | noJob | invalid | badIndex | badValue | badRequest | notPending
deriving DecidableEq, Repr

/-- A waiting answer (R159); for INVALID the data are the check number and the index (section 10.3). -/
structure Answer where
  dest : Byte
  tag : Byte
  code : Byte
  status : Status
  data : List Byte
deriving DecidableEq, Repr

/-! ## Report unit (chapter 9) -/

/-- A repeat report (R82, R167); a lane that is OFF has no outcome. -/
structure RepeatReport where
  repeatNo : Rep
  nip : Pos
  lanes : Vector (Option Decision) 8
  synth : Bool
  first : Bool
  gap : Bool
deriving DecidableEq, Repr

/-- A record of the impression log (R169); design and contact start are absent for an entry suppressed OVERFLOW. -/
structure LogRecord where
  seq : BitVec 16
  repeatNo : Rep
  lane : Fin 8
  design : Option (Fin 64)
  decision : Decision
  residual : Int
  contact : Option Pos
  synth : Bool
  first : Bool
  gap : Bool
deriving DecidableEq, Repr

/-- The outcome classes a watch entry names (R172). -/
inductive OutcomeClass where
  | stamped | suppressed | reject
deriving DecidableEq, Repr

/-- A watch entry (R172). -/
structure Watch where
  enabled : Bool
  lane : Fin 8
  laneOn : Bool
  design : Fin 64
  designOn : Bool
  cls : OutcomeClass
  clsOn : Bool
  once : Bool
deriving DecidableEq, Repr

/-- The report lists, the log and the watch unit (R167, R169, R172). -/
structure Report where
  rpts : List RepeatReport
  ringSilent : Bool
  log : List LogRecord
  nextLog : BitVec 16
  watch : Vector Watch 4
deriving DecidableEq, Repr

/-- What the attention unit keeps of one event kind (R173). -/
structure EventCell where
  pending : Bool
  detail : BitVec 32
  count : Nat
  enabled : Bool
  level : Fin 8
deriving DecidableEq, Repr

/-- The attention unit (R173): the kinds by number, the in-service set with the service levels in the order of entry,
and the kind whose ATN waits. -/
structure Attention where
  kinds : Vector EventCell 18
  service : List (Fin 18 × Fin 8)
  waiting : Option (Fin 18)
deriving DecidableEq, Repr

/-! ## Ring port (chapter 7) -/

/-- The ring port's items (R149, R153, R156, R158). `station` is none in through-only state; `window` counts the slots
of the open window that have not been taken; `down` records the frames that have left downstream (log 8). -/
structure Port where
  resetIn : Bool
  station : Option Byte
  damaged : Nat
  order : List (Fin 8)
  timerOn : Bool
  window : Nat
  down : List (List Byte)
deriving DecidableEq, Repr

/-! ## The whole part -/

/-- The state of the part. `pending` is the queue of commands, `cycDue` the units that have still to take their part of
the last cycle frame (log 2), `freeCount` the number of free values drawn (log 15). -/
structure State where
  pending : List Instr
  port : Port
  tracker : Tracker
  jobs : Jobs
  planner : Planner
  foil : Vector FoilAccount 4
  cassettes : Vector Cassette 8
  drives : Vector Drive 12
  answers : List Answer
  report : Report
  attention : Attention
  cycDue : List CycUnit
  freeCount : Nat
deriving DecidableEq, Repr

/-- Why a command stops the part: never. "Faults of the line do not stop the part" (00_scope.md section 1.2), and no
rule of the spec does (log 27). -/
inductive Fault where
deriving DecidableEq, Repr

/-- Why a command is refused. -/
inductive Refusal where
  /-- Raised by exec for a command without a meaning; no arm of this model uses it. Safe. -/
  | notModelled (mnemonic : String)
deriving DecidableEq, Repr

/-! ## Values after power-on reset -/

/-- The web tracker after power-on reset (R25); `mtPrev` is the model's choice (log 7). -/
def Tracker.powerOn : Tracker :=
  { pos := 0, speed := 0, line := .stop, cycleNo := 0, firstCycle := true, mode := .unlocked, mtPrev := 0,
    lock := 0, coast := 0, stray := 0, repeatNo := 0, staged := none }

/-- The cleared lane entry (R27). -/
def Lane.cleared : Lane :=
  { mode := .off, slotA := 0, slotB := 0, seqStart := 0, seqLen := 1, onB := false, index := 0, trim := 0,
    hold := false, lo := 0, hi := 0, nsoak := 0, ndrift := 0 }

/-- The cleared contents of a bank (R27). -/
def Bank.cleared : Bank :=
  { designs := Vector.replicate 64 none, lanes := Vector.replicate 8 Lane.cleared,
    seq := Vector.replicate 128 none, foil := Vector.replicate 4 none,
    job := { lr := 0, w := 0, cmax := 0, tol := 0, ncoast := 0, vmin := 0 } }

/-- The station configuration's power-on values (section 2.4). -/
def StationCfg.powerOn : StationCfg :=
  { sensor := none, heaters := Vector.replicate 8 none, driveStations := Vector.replicate 12 none,
    d := 1000, lc := 3000, lf := 4000, lmin := 500, nack := 8, ntmp := 40, jump := 2000,
    masks := Vector.replicate 12 0xFF }

/-- The job banks after power-on reset (R27, R49). -/
def Jobs.powerOn : Jobs :=
  { banks := Vector.replicate 2 Bank.cleared, active := 0, arm := none, cfg := StationCfg.powerOn }

/-- The planner after power-on reset (R87). -/
def Planner.powerOn : Planner :=
  { st := .idle, queue := [], stamped := Vector.replicate 8 0, rejected := Vector.replicate 8 0 }

/-- A foil account after power-on reset (R88). -/
def FoilAccount.powerOn : FoilAccount := { remaining := 0, reserved := 0, low := false, saved := 0 }

/-- A cassette after power-on reset, soft reset and ring silence (R124). -/
def Cassette.afterReset : Cassette := { heat := .lost, soak := 0, drift := 0, since := 0 }

/-- A drive after power-on reset (R126, R142); `lastEcho` is the model's choice (log 30). -/
def Drive.powerOn : Drive :=
  { link := .silent, next := 0, out := [], sent := false, cycles := 0, last := 0, lastEcho := 0 }

/-- A watch entry after power-on reset: disabled, its fields cleared (R172, log 23). -/
def Watch.cleared : Watch :=
  { enabled := false, lane := 0, laneOn := false, design := 0, designOn := false, cls := .stamped,
    clsOn := false, once := false }

/-- The report unit after power-on reset (R168, R171, R172). -/
def Report.powerOn : Report :=
  { rpts := [], ringSilent := false, log := [], nextLog := 0, watch := Vector.replicate 4 Watch.cleared }

/-- The levels of the 18 event kinds after power-on reset (section 9.4). -/
def powerOnLevels : Vector (Fin 8) 18 := #v[0, 1, 1, 1, 1, 2, 2, 2, 3, 4, 5, 5, 5, 6, 6, 4, 6, 7]

/-- The attention unit after power-on reset (R173). -/
def Attention.powerOn : Attention :=
  { kinds := powerOnLevels.map fun l => { pending := false, detail := 0, count := 0, enabled := false, level := l },
    service := [], waiting := none }

/-- The ring port after power-on reset with the given station number (R149, R158), the reset input as given. -/
def Port.powerOn (resetIn : Bool) (station : Option Byte) (down : List (List Byte)) : Port :=
  { resetIn, station, damaged := 0, order := [0, 1, 2, 3, 4, 5, 6, 7], timerOn := false, window := 0, down }

/-- The machine right after power-on reset, the reset input released. The straps read 1: the model's choice (log 6). -/
def State.reset : State :=
  { pending := [], port := Port.powerOn false (some 1) [], tracker := Tracker.powerOn, jobs := Jobs.powerOn,
    planner := Planner.powerOn, foil := Vector.replicate 4 FoilAccount.powerOn,
    cassettes := Vector.replicate 8 Cassette.afterReset, drives := Vector.replicate 12 Drive.powerOn,
    answers := [], report := Report.powerOn, attention := Attention.powerOn, cycDue := [], freeCount := 0 }

end Sys2Proof.Machine
end

