-- ==== Sys2Proof/Machine/Operands.lean ====
section
/-! DEFINITION. The byte forms of chapter 10: big-endian fields, codes, the payloads and records that requests carry,
and the bytes by which answers and frames give them. Also the modular arithmetic of positions (R1). -/

namespace Sys2Proof.Machine

/-! ## Positions (R1, R2) -/

/-- The distance from `b` to `a`: (a - b) modulo 2^32, read as signed (R1). -/
def dist (b a : Pos) : Int := (a - b).toInt

/-- "a is at or past b" (R1, R2). -/
def atOrPast (a b : Pos) : Bool := 0 ≤ dist b a

/-- A length or offset as a summand of a position (R1). -/
def len (n : Nat) : Pos := BitVec.ofNat 32 n

/-- A value brought into a range: the nearer end when it lies outside (R3). -/
def clampInt (lo hi x : Int) : Int := if x < lo then lo else if hi < x then hi else x

/-- A counter counted up by one, saturating at its top (R3). -/
def countUp (top n : Nat) : Nat := if n < top then n + 1 else top

/-! ## Numbered items -/

/-- The eight lanes and cassettes, in increasing number. -/
def lanes8 : List (Fin 8) := [0, 1, 2, 3, 4, 5, 6, 7]

/-- The four foil webs, in increasing number. -/
def webs4 : List (Fin 4) := [0, 1, 2, 3]

/-- The twelve drives, in increasing number. -/
def drives12 : List (Fin 12) := [0, 1, 2, 3, 4, 5, 6, 7, 8, 9, 10, 11]

/-- The eighteen event kinds, in increasing number. -/
def kinds18 : List (Fin 18) := [0, 1, 2, 3, 4, 5, 6, 7, 8, 9, 10, 11, 12, 13, 14, 15, 16, 17]

/-- Cassette drive n is drive n (R125). -/
def cassetteDrive (l : Fin 8) : Fin 12 := ⟨l.val, by omega⟩

/-- Foil drive f is drive 8 + f (R125). -/
def foilDrive (f : Fin 4) : Fin 12 := ⟨8 + f.val, by omega⟩

/-- Whose drive a drive number names: a lane's cassette drive or a foil web's foil drive (R125). -/
def driveRole (d : Fin 12) : Fin 8 ⊕ Fin 4 :=
  if h : d.val < 8 then .inl ⟨d.val, h⟩ else .inr ⟨d.val - 8, by omega⟩

/-- A number as a member of 0 to n - 1. -/
def finOf (n v : Nat) : Option (Fin n) := if h : v < n then some ⟨v, h⟩ else none

/-! ## Fields of bytes, most significant byte first -/

/-- The number that bytes give, most significant first. -/
def beNat (bs : List Byte) : Nat := bs.foldl (fun acc b => acc * 256 + b.toNat) 0

/-- The unsigned field of `n` bytes at an offset. -/
def field (bs : List Byte) (off n : Nat) : Nat := beNat ((bs.drop off).take n)

/-- The two's complement field of `n` bytes at an offset. -/
def sfield (bs : List Byte) (off n : Nat) : Int :=
  let v := field bs off n
  if v < 2 ^ (8 * n - 1) then (v : Int) else (v : Int) - (2 ^ (8 * n) : Nat)

/-- The byte at an offset. -/
def byteAt (bs : List Byte) (off : Nat) : Byte := bs.getD off 0

/-- A one-byte flag field of a request: set unless it holds 0 (R181). -/
def flagAt (bs : List Byte) (off : Nat) : Bool := byteAt bs off != 0

/-- A number in `n` bytes, most significant first. -/
def be : Nat → Nat → List Byte
  | 0, _ => []
  | n + 1, v => BitVec.ofNat 8 (v / 256 ^ n) :: be n v

/-- A signed number in `n` bytes of two's complement. -/
def beInt (n : Nat) (v : Int) : List Byte := be n (v % (256 ^ n : Nat)).toNat

/-- A number in one byte. -/
def byte (v : Nat) : Byte := BitVec.ofNat 8 v

/-- A flag as a byte: 0 clear, 1 set. READ answers a set inhibit or hold flag so, whatever nonzero byte the request that
set it carried: the model's choice (R39, R181, log 33). -/
def flagByte (b : Bool) : Byte := if b then 1 else 0

/-- The form of an absent or unassigned value in a one-byte field (section 10.4). -/
def absent : Byte := 0xFF

/-! ## Codes (sections 10.2 to 10.4) -/

/-- Line state codes; any other code is taken as STOP (R4). -/
def LineState.ofByte (b : Byte) : LineState := if b = 1 then .crawl else if b = 2 then .run else .stop

def LineState.code : LineState → Byte
  | .stop => 0 | .crawl => 1 | .run => 2

def TrackMode.code : TrackMode → Byte
  | .unlocked => 0 | .locking => 1 | .locked => 2 | .coasting => 3

def PlannerState.code : PlannerState → Byte
  | .idle => 0 | .ready => 1 | .stamping => 2 | .draining => 3

def Heat.code : Heat → Nat
  | .lost => 0 | .cold => 1 | .soak => 2 | .ready => 3 | .drift => 4

def Link.code : Link → Nat
  | .silent => 0 | .answering => 1 | .faulted => 2

def Kind.code : Kind → Byte
  | .foil => 0 | .foilEmboss => 1 | .embossWarm => 2 | .embossCold => 3

def Kind.ofByte (b : Byte) : Option Kind :=
  if b = 0 then some .foil else if b = 1 then some .foilEmboss else if b = 2 then some .embossWarm
  else if b = 3 then some .embossCold else none

/-- FOIL and FOIL_EMBOSS are the foil kinds (00_scope.md section 5). -/
def Kind.isFoil : Kind → Bool
  | .foil => true | .foilEmboss => true | .embossWarm => false | .embossCold => false

def LaneMode.code : LaneMode → Byte
  | .off => 0 | .fixed => 1 | .alternate => 2 | .sequence => 3

def LaneMode.ofByte (b : Byte) : Option LaneMode :=
  if b = 0 then some .off else if b = 1 then some .fixed else if b = 2 then some .alternate
  else if b = 3 then some .sequence else none

/-- Reason codes of section 10.3. -/
def Reason.code : Reason → Nat
  | .held => 1 | .inhibited => 2 | .unlocked => 3 | .register => 4 | .speed => 5 | .heat => 6 | .drive => 7
  | .foilDrive => 8 | .foilOut => 9 | .overflow => 10 | .late => 11 | .noAck => 12 | .foilNoAck => 13
  | .driveFault => 14 | .flushed => 15

/-- Outcome and reason code of a decision; STAMPED carries reason 0 (section 10.3). -/
def Decision.codes : Decision → Nat × Nat
  | .stamped => (1, 0)
  | .suppressed r => (2, r.code)
  | .reject r => (3, r.code)

/-- Outcome and reason code of a lane of a repeat report; OFF is 0 with reason 0 (section 10.3). -/
def laneCodes : Option Decision → Nat × Nat
  | none => (0, 0)
  | some d => d.codes

def Decision.cls : Decision → OutcomeClass
  | .stamped => .stamped
  | .suppressed _ => .suppressed
  | .reject _ => .reject

def OutcomeClass.ofByte (b : Byte) : Option OutcomeClass :=
  if b = 0 then some .stamped else if b = 1 then some .suppressed else if b = 2 then some .reject else none

def Status.code : Status → Byte
  | .done => 0 | .clamped => 1 | .busy => 2 | .armed => 3 | .notArmed => 4 | .noJob => 5 | .invalid => 6
  | .badIndex => 7 | .badValue => 8 | .badRequest => 9 | .notPending => 10

/-- An optional number in a one-byte field, 0xFF when it is absent (section 10.4). -/
def optByte {n : Nat} : Option (Fin n) → Byte
  | none => absent
  | some i => byte i.val

/-! ## Records as requests carry them (section 10.4) -/

/-- The design record of WRITE DESIGN after its leading 0 (R30): none when a field lies outside its range. -/
def decodeDesignRecord (d : List Byte) : Option Design := do
  let kind ← Kind.ofByte (byteAt d 1)
  let segment ← finOf 4 (byteAt d 2).toNat
  let web ← if kind.isFoil then (finOf 4 (byteAt d 3).toNat).map some else some none
  let offset := field d 4 4
  let length := field d 8 2
  let pressure ← finOf 16 (byteAt d 10).toNat
  if offset ≤ 200000 ∧ 100 ≤ length ∧ length ≤ 60000 then
    some { kind, segment, web, offset, length, pressure, inhibit := flagAt d 11 }
  else none

/-- The data of WRITE DESIGN (R181): none refuses, some none is UNDEFINED. -/
def decodeDesign (d : List Byte) : Option (Option Design) :=
  if byteAt d 0 = absent then some none
  else if byteAt d 0 = 0 then (decodeDesignRecord d).map some
  else none

/-- How many data bytes WRITE DESIGN and WRITE FOIL MAP read, by their leading byte (R181). -/
def recordNeed (full : Nat) (d : List Byte) : Nat := if d.head? = some 0 then full else 1

/-- A design library entry as written; UNDEFINED is the one byte 0xFF (log 16). -/
def encodeDesign : Option Design → List Byte
  | none => [absent]
  | some d => [0, d.kind.code, byte d.segment.val, optByte d.web] ++ be 4 d.offset ++ be 2 d.length
      ++ [byte d.pressure.val, flagByte d.inhibit]

/-- The lane entry of WRITE LANE with its trim clamped and its progress reset (R31): none when another field lies
outside its range. -/
def decodeLane (d : List Byte) : Option Lane := do
  let mode ← LaneMode.ofByte (byteAt d 0)
  let slotA ← finOf 64 (byteAt d 1).toNat
  let slotB ← finOf 64 (byteAt d 2).toNat
  let seqStart ← finOf 128 (byteAt d 3).toNat
  let seqLen := (byteAt d 4).toNat
  let lo := sfield d 8 2
  let hi := sfield d 10 2
  let ndrift := field d 14 2
  if 1 ≤ seqLen ∧ seqLen ≤ 16 ∧ -400 ≤ lo ∧ lo ≤ 3000 ∧ -400 ≤ hi ∧ hi ≤ 3000 ∧ ndrift ≤ 4000 then
    some { mode, slotA, slotB, seqStart, seqLen, onB := false, index := 0,
           trim := clampInt (-1000) 1000 (sfield d 5 2), hold := flagAt d 7, lo, hi,
           nsoak := field d 12 2, ndrift }
  else none

/-- A lane entry as written, followed by its progress (section 10.4, READ). -/
def encodeLane (l : Lane) : List Byte :=
  [l.mode.code, byte l.slotA.val, byte l.slotB.val, byte l.seqStart.val, byte l.seqLen] ++ beInt 2 l.trim
    ++ [flagByte l.hold] ++ beInt 2 l.lo ++ beInt 2 l.hi ++ be 2 l.nsoak ++ be 2 l.ndrift
    ++ [flagByte l.onB, byte l.index]

/-- The data of WRITE SEQUENCE (R32): none refuses, some none is UNDEFINED. -/
def decodeSequence (d : List Byte) : Option (Option (Fin 64)) :=
  if byteAt d 0 = absent then some none else (finOf 64 (byteAt d 0).toNat).map some

/-- The foil map entry of WRITE FOIL MAP after its leading 0 (R32). -/
def decodeFoilRecord (d : List Byte) : Option FoilWeb := do
  let first ← finOf 8 (byteAt d 1).toNat
  let last ← finOf 8 (byteAt d 2).toNat
  let fm := field d 3 2
  let gmin := field d 5 2
  let low := field d 7 4
  if first ≤ last ∧ fm ≤ 2000 ∧ gmin ≤ 20000 ∧ low ≤ Config.maxFoil then some { first, last, fm, gmin, low } else none

/-- The data of WRITE FOIL MAP (R181): none refuses, some none is ABSENT. -/
def decodeFoil (d : List Byte) : Option (Option FoilWeb) :=
  if byteAt d 0 = absent then some none
  else if byteAt d 0 = 0 then (decodeFoilRecord d).map some
  else none

/-- A foil map entry as written; ABSENT is the one byte 0xFF (log 16). -/
def encodeFoil : Option FoilWeb → List Byte
  | none => [absent]
  | some f => [0, byte f.first.val, byte f.last.val] ++ be 2 f.fm ++ be 2 f.gmin ++ be 4 f.low

/-- The ranges of the job parameters (section 2.1.5). -/
def Job.inRange (j : Job) : Bool :=
  decide (2000 ≤ j.lr ∧ j.lr ≤ 200000 ∧ 50 ≤ j.w ∧ j.w ≤ 5000 ∧ 1 ≤ j.cmax ∧ j.cmax ≤ 2000 ∧ j.tol ≤ 1000
    ∧ 1 ≤ j.ncoast ∧ j.ncoast ≤ 8 ∧ j.vmin ≤ Config.maxSpeed)

/-- The data of WRITE JOB (R33): all six, or none. -/
def decodeJob (d : List Byte) : Option Job :=
  let j : Job := { lr := field d 0 4, w := field d 4 2, cmax := field d 6 2, tol := field d 8 2,
                   ncoast := (byteAt d 10).toNat, vmin := field d 11 4 }
  if j.inRange then some j else none

/-- The job parameters as written. -/
def encodeJob (j : Job) : List Byte :=
  be 4 j.lr ++ be 2 j.w ++ be 2 j.cmax ++ be 2 j.tol ++ [byte j.ncoast] ++ be 4 j.vmin

/-- The watch entry of SET WATCH (R172): none when the lane, the design or the class lies outside its range. -/
def decodeWatch (d : List Byte) : Option Watch := do
  let lane ← finOf 8 (byteAt d 1).toNat
  let design ← finOf 64 (byteAt d 3).toNat
  let cls ← OutcomeClass.ofByte (byteAt d 5)
  some { enabled := flagAt d 0, lane, laneOn := flagAt d 2, design, designOn := flagAt d 4, cls,
         clsOn := flagAt d 6, once := flagAt d 7 }

/-! ## The station configuration, item by item (section 10.4, WRITE STATION) -/

/-- An item of the station configuration, by its number 0 to 37. -/
inductive Item where
  | sensor | heater (c : Fin 8) | driveStation (d : Fin 12) | d | leads | nack | ntmp | jump | mask (d : Fin 12)
deriving DecidableEq, Repr

def Item.ofNat (n : Nat) : Option Item :=
  if n = 0 then some .sensor
  else if n ≤ 8 then (finOf 8 (n - 1)).map .heater
  else if n ≤ 20 then (finOf 12 (n - 9)).map .driveStation
  else if n = 21 then some .d
  else if n = 22 then some .leads
  else if n = 23 then some .nack
  else if n = 24 then some .ntmp
  else if n = 25 then some .jump
  else if n ≤ 37 then (finOf 12 (n - 26)).map .mask
  else none

/-- The data bytes each item reads. -/
def Item.need : Item → Nat
  | .sensor => 1 | .heater _ => 1 | .driveStation _ => 1 | .d => 4 | .leads => 6 | .nack => 1 | .ntmp => 2
  | .jump => 2 | .mask _ => 1

/-- A station field: 0xFF is unassigned, otherwise 1 to 62 (R37). -/
def decodeStation (b : Byte) : Option (Option Byte) :=
  if b = absent then some none else if 1 ≤ b.toNat ∧ b.toNat ≤ 62 then some (some b) else none

def encodeStation : Option Byte → Byte
  | none => absent
  | some b => b

/-- The station configuration with one item written from the data of WRITE STATION: none when a value lies outside its
range (R37, section 2.4). -/
def StationCfg.write (c : StationCfg) (i : Item) (d : List Byte) : Option StationCfg :=
  match i with
  | .sensor => (decodeStation (byteAt d 0)).map fun v => { c with sensor := v }
  | .heater k => (decodeStation (byteAt d 0)).map fun v => { c with heaters := c.heaters.set k v }
  | .driveStation k => (decodeStation (byteAt d 0)).map fun v => { c with driveStations := c.driveStations.set k v }
  | .d => let v := field d 0 4; if 1000 ≤ v ∧ v ≤ 2000000 then some { c with d := v } else none
  | .leads =>
    let lc := field d 0 2
    let lf := field d 2 2
    let lmin := field d 4 2
    if lc ≤ 50000 ∧ lf ≤ 50000 ∧ lmin ≤ 10000 ∧ lmin < lc ∧ lmin < lf then some { c with lc, lf, lmin } else none
  | .nack => let v := field d 0 1; if 2 ≤ v ∧ v ≤ 32 then some { c with nack := v } else none
  | .ntmp => let v := field d 0 2; if 4 ≤ v ∧ v ≤ 4000 then some { c with ntmp := v } else none
  | .jump => let v := field d 0 2; if 100 ≤ v ∧ v ≤ 50000 then some { c with jump := v } else none
  | .mask k => some { c with masks := c.masks.set k (byteAt d 0) }

/-- An item of the station configuration as written (R39). -/
def StationCfg.encode (c : StationCfg) : Item → List Byte
  | .sensor => [encodeStation c.sensor]
  | .heater k => [encodeStation c.heaters[k]]
  | .driveStation k => [encodeStation c.driveStations[k]]
  | .d => be 4 c.d
  | .leads => be 2 c.lc ++ be 2 c.lf ++ be 2 c.lmin
  | .nack => be 1 c.nack
  | .ntmp => be 2 c.ntmp
  | .jump => be 2 c.jump
  | .mask k => [c.masks[k]]

/-! ## The log record as fetched (R182) -/

/-- The 15 bytes of a record. Bits 3 and 7 of the lane byte and bits 6 and 7 of the outcome byte, to which the layout
gives no value, are 0: the model's choice (log 36). -/
def LogRecord.encode (r : LogRecord) : List Byte :=
  be 2 r.seq.toNat ++ be 4 r.repeatNo.toNat
    ++ [byte (r.lane.val + (if r.synth then 16 else 0) + (if r.first then 32 else 0) + (if r.gap then 64 else 0)),
        optByte r.design, byte (r.decision.codes.2 + 16 * r.decision.codes.1)]
    ++ beInt 2 r.residual ++ be 4 (r.contact.getD 0).toNat

end Sys2Proof.Machine
end

