-- ==== Sys2Proof/Machine/Update.lean ====
section
/-! DEFINITION. One update for each block of the state; Laws/State.lean says what each leaves alone. -/

namespace Sys2Proof.Machine.State

def setPending (s : State) (v : List Instr) : State := { s with pending := v }
def setPort (s : State) (v : Port) : State := { s with port := v }
def setTracker (s : State) (v : Tracker) : State := { s with tracker := v }
def setJobs (s : State) (v : Jobs) : State := { s with jobs := v }
def setPlanner (s : State) (v : Planner) : State := { s with planner := v }
def setFoil (s : State) (v : Vector FoilAccount 4) : State := { s with foil := v }
def setCassettes (s : State) (v : Vector Cassette 8) : State := { s with cassettes := v }
def setDrives (s : State) (v : Vector Drive 12) : State := { s with drives := v }
def setAnswers (s : State) (v : List Answer) : State := { s with answers := v }
def setReport (s : State) (v : Report) : State := { s with report := v }
def setAttention (s : State) (v : Attention) : State := { s with attention := v }
def setCycDue (s : State) (v : List CycUnit) : State := { s with cycDue := v }
def setFreeCount (s : State) (v : Nat) : State := { s with freeCount := v }

end Sys2Proof.Machine.State
end

