-- ==== Sys2Proof/Machine/Flags.lean ====
section
/-! DEFINITION. The attention unit (section 9.4): the pending flags, details and counts of the event kinds, the
in-service set, the selection. -/

namespace Sys2Proof.Machine

/-! ## Event kinds (section 9.4) -/

def Event.ringSilent : Fin 18 := 0
def Event.planFlushed : Fin 18 := 1
def Event.driveSilent : Fin 18 := 2
def Event.driveFault : Fin 18 := 3
def Event.foilOut : Fin 18 := 4
def Event.registerLost : Fin 18 := 5
def Event.cassetteCold : Fin 18 := 6
def Event.planOverflow : Fin 18 := 7
def Event.foilLow : Fin 18 := 8
def Event.markMissed : Fin 18 := 9
def Event.registerLocked : Fin 18 := 10
def Event.driveWarn : Fin 18 := 11
def Event.changeoverTaken : Fin 18 := 12
def Event.sequenceWrap : Fin 18 := 13
def Event.logHalf : Fin 18 := 14
def Event.logOverwrite : Fin 18 := 15
def Event.watchHit : Fin 18 := 16
def Event.frameError : Fin 18 := 17

/-- The details of PLAN_FLUSHED (section 10.3). -/
inductive FlushCause where
  | disturbance | ringSilence | softReset
deriving DecidableEq, Repr

def FlushCause.code : FlushCause → BitVec 32
  | .disturbance => 1 | .ringSilence => 2 | .softReset => 3

/-- A number as the detail of an event. -/
def detail (n : Nat) : BitVec 32 := BitVec.ofNat 32 n

namespace Attention

/-- Whether a kind is in the in-service set. -/
def inService (a : Attention) (k : Fin 18) : Bool := a.service.any fun m => m.1 == k

/-- A candidate is pending, enabled and not in service (R175). -/
def candidate (a : Attention) (k : Fin 18) : Bool :=
  a.kinds[k].pending && a.kinds[k].enabled && !a.inService k

/-- The better of the best candidate so far and the next kind: the lower level, the earlier kind among equal levels. -/
def better (a : Attention) (best : Option (Fin 18)) (k : Fin 18) : Option (Fin 18) :=
  if a.candidate k then
    match best with
    | none => some k
    | some j => if a.kinds[k].level < a.kinds[j].level then some k else some j
  else best

/-- The winner: the candidate of lowest level, the lower kind number among equal levels (R175). -/
def winner (a : Attention) : Option (Fin 18) := kinds18.foldl a.better none

/-- The in-service set without the kind whose ATN waits, which is discarded unsent (R175, R178). -/
def serviceWithoutWaiting (a : Attention) : List (Fin 18 × Fin 8) :=
  a.service.filter fun m => a.waiting != some m.1

/-- The winner is queued: its ATN waits in place of one that waited, and it enters service (R175). -/
def queue (a : Attention) (k : Fin 18) : Attention :=
  { a with service := a.serviceWithoutWaiting ++ [(k, a.kinds[k].level)], waiting := some k }

/-- A selection: the winner is queued when its level is lower than every service level (R175). -/
def select (a : Attention) : Attention :=
  match a.winner with
  | none => a
  | some k => if a.service.all fun m => a.kinds[k].level < m.2 then a.queue k else a

/-- One kind's cell changed. -/
def modCell (a : Attention) (k : Fin 18) (f : EventCell → EventCell) : Attention :=
  { a with kinds := a.kinds.set k (f a.kinds[k]) }

/-- A raising sets pending, replaces the detail and counts the occurrence, and a selection follows (R173, R175). It
follows also the raising of a kind already in service, which "queues nothing" of that kind: where a displaced kind, its
level lowered by SET LEVEL, is the winner, that one is queued, the model's choice (log 37). -/
def raise (a : Attention) (k : Fin 18) (det : BitVec 32) : Attention :=
  (a.modCell k fun c => { c with pending := true, detail := det, count := countUp Config.maxCount8 c.count }).select

/-- The waiting ATN is discarded unsent and its kind leaves service, its pending flag, detail and count kept (R178). -/
def discardWaiting (a : Attention) : Attention :=
  { a with service := a.serviceWithoutWaiting, waiting := none }

/-- What a soft reset clears: pending flags, details, counts, the in-service set, the waiting ATN (R178). -/
def softCleared (a : Attention) : Attention :=
  { kinds := a.kinds.map fun c => { c with pending := false, detail := 0, count := 0 }, service := [], waiting := none }

/-- A kind leaves service, and an ATN of it that still waits is discarded (R176). -/
def leaveService (a : Attention) (k : Fin 18) : Attention :=
  { a with service := a.service.filter (fun m => m.1 != k),
           waiting := if a.waiting = some k then none else a.waiting }

/-- ACK EVENT's effect on a kind that is pending or in service: pending flag and count cleared, the detail kept; a
selection follows (R176). -/
def acknowledge (a : Attention) (k : Fin 18) : Attention :=
  ((a.leaveService k).modCell k fun c => { c with pending := false, count := 0 }).select

/-- The enable flags of the kinds named by a set of bits, written; a selection follows (R174). -/
def setEnables (a : Attention) (set : Nat) (on : Bool) : Attention :=
  { a with kinds := Vector.ofFn fun k =>
      if set.testBit k.val then { a.kinds[k] with enabled := on } else a.kinds[k] }.select

/-- The enable flags of all kinds as a set of bits (R174). Bits 18 to 23 of the answered set, for which there is no kind,
are 0: the model's choice (log 36). -/
def enableSet (a : Attention) : Nat :=
  kinds18.foldl (fun acc k => if a.kinds[k].enabled then acc + 2 ^ k.val else acc) 0

end Attention

/-! ## Events raised by the blocks -/

/-- A block raises an event (R173). -/
def State.raise (s : State) (k : Fin 18) (det : BitVec 32) : State :=
  s.setAttention (s.attention.raise k det)

end Sys2Proof.Machine
end

