-- ==== Sys2Proof/Machine/Banks.lean ====
section
/-! DEFINITION. The job banks (chapter 2): the two banks by role, the designs a lane references, the validation checks
and the taking of a changeover. -/

namespace Sys2Proof.Machine

/-! ## Active and standby bank (R27) -/

/-- The number of the standby bank. -/
def Jobs.standbyNo (j : Jobs) : Fin 2 := if j.active = 0 then 1 else 0

def Jobs.activeBank (j : Jobs) : Bank := j.banks[j.active]

def Jobs.standbyBank (j : Jobs) : Bank := j.banks[j.standbyNo]

def Jobs.setActiveBank (j : Jobs) (b : Bank) : Jobs := { j with banks := j.banks.set j.active b }

def Jobs.setStandbyBank (j : Jobs) (b : Bank) : Jobs := { j with banks := j.banks.set j.standbyNo b }

/-- A bank is empty when every entry of its lane table has mode OFF (R27). -/
def Bank.isEmpty (b : Bank) : Bool := lanes8.all fun l => b.lanes[l].mode == .off

def State.active (s : State) : Bank := s.jobs.activeBank

def State.standby (s : State) : Bank := s.jobs.standbyBank

/-- The active bank written. -/
def State.setActive (s : State) (b : Bank) : State := s.setJobs (s.jobs.setActiveBank b)

/-- The standby bank written. -/
def State.setStandby (s : State) (b : Bank) : State := s.setJobs (s.jobs.setStandbyBank b)

/-- One lane entry of a bank changed. -/
def Bank.modLane (b : Bank) (l : Fin 8) (f : Lane → Lane) : Bank := { b with lanes := b.lanes.set l (f b.lanes[l]) }

/-! ## The design of a lane (R28) -/

/-- The sequence table entry at an index past a lane's sequence start; none past the table's end. -/
def Bank.sequenceAt (b : Bank) (l : Lane) (i : Nat) : Option (Fin 64) :=
  (finOf 128 (l.seqStart.val + i)).bind fun k => b.seq[k]

/-- The design number a lane chooses, by its mode and progress (R28). -/
def Bank.choice (b : Bank) (l : Lane) : Option (Fin 64) :=
  match l.mode with
  | .off => none
  | .fixed => some l.slotA
  | .alternate => some (if l.onB then l.slotB else l.slotA)
  | .sequence => b.sequenceAt l l.index

/-- The references of a lane (section 2.5.1), one for each slot or sequence table entry it rotates through. -/
def Bank.references (b : Bank) (l : Lane) : List (Option (Fin 64)) :=
  match l.mode with
  | .off => []
  | .fixed => [some l.slotA]
  | .alternate => [some l.slotA, some l.slotB]
  | .sequence => (List.range l.seqLen).map (b.sequenceAt l)

/-- The record of a reference, when it names a defined design. -/
def Bank.record (b : Bank) (r : Option (Fin 64)) : Option Design := r.bind fun d => b.designs[d]

/-! ## The validation checks (R40) -/

/-- Check 2 for one lane: it references defined designs only. -/
def Bank.refsDefined (b : Bank) (l : Lane) : Bool := (b.references l).all fun r => (b.record r).isSome

/-- Check 3 for one design number: unreferenced, or its image ends within the repeat. -/
def Bank.designFits (b : Bank) (d : Fin 64) : Bool :=
  !(lanes8.any fun l => (b.references b.lanes[l]).any (· == some d))
    || match b.designs[d] with
       | none => true
       | some r => r.offset + r.length ≤ b.job.lr

/-- A present foil web covers a lane. -/
def FoilWeb.covers (f : FoilWeb) (l : Fin 8) : Bool := f.first ≤ l && l ≤ f.last

/-- Whether the design of a foil kind names a present foil web that covers the lane. -/
def Bank.foilServed (b : Bank) (l : Fin 8) (r : Design) : Bool :=
  !r.kind.isFoil || match r.web.bind fun w => b.foil[w] with
    | none => false
    | some f => f.covers l

/-- Check 4 for one lane: every referenced design of a foil kind is served. -/
def Bank.laneFoilServed (b : Bank) (l : Fin 8) : Bool :=
  (b.references b.lanes[l]).all fun r => match b.record r with
    | none => true
    | some d => b.foilServed l d

/-- Whether two foil map entries are present and share a lane. -/
def Bank.overlap (b : Bank) (p : Fin 4 × Fin 4) : Bool :=
  match b.foil[p.1], b.foil[p.2] with
  | some f, some g => f.first ≤ g.last && g.first ≤ f.last
  | _, _ => false

/-- The pairs of foil webs in the order of check 5. -/
def webPairs : List (Fin 4 × Fin 4) := [(0, 1), (0, 2), (0, 3), (1, 2), (1, 3), (2, 3)]

/-- Check 6 for one lane. -/
def Bank.bandOk (b : Bank) (l : Fin 8) : Bool := b.lanes[l].mode == .off || b.lanes[l].lo < b.lanes[l].hi

/-- Check 7 for one lane: OFF, or its cassette drive and heater stations are assigned. -/
def Bank.laneAssigned (b : Bank) (cfg : StationCfg) (l : Fin 8) : Bool :=
  b.lanes[l].mode == .off || (cfg.driveStations[cassetteDrive l].isSome && cfg.heaters[l].isSome)

/-- Check 7 for one foil web: absent, or its foil drive station is assigned. -/
def Bank.webAssigned (b : Bank) (cfg : StationCfg) (f : Fin 4) : Bool :=
  b.foil[f].isNone || cfg.driveStations[foilDrive f].isSome

/-- The first lane for which a check fails. -/
def firstLane (p : Fin 8 → Bool) : Option Nat := (lanes8.find? fun l => !p l).map (·.val)

/-- The sixty-four design numbers, in increasing number. -/
def designs64 : List (Fin 64) := List.finRange 64

/-- The index that a check reports when it fails (the table of R40). -/
def Bank.failure (b : Bank) (cfg : StationCfg) : Nat → Option Nat
  | 1 => if 2000 ≤ b.job.lr ∧ b.job.lr ≤ 200000 then none else some 0
  | 2 => firstLane fun l => b.refsDefined b.lanes[l]
  | 3 => (designs64.find? fun d => !b.designFits d).map (·.val)
  | 4 => firstLane b.laneFoilServed
  | 5 => (webPairs.find? b.overlap).map (·.2.val)
  | 6 => firstLane b.bandOk
  | 7 => (firstLane (b.laneAssigned cfg)).or ((webs4.find? fun f => !b.webAssigned cfg f).map (8 + ·.val))
  | 8 => if b.isEmpty then some 0 else none
  | _ => none

/-- The checks in their order. -/
def checks8 : List Nat := [1, 2, 3, 4, 5, 6, 7, 8]

/-- Validation: the number and the index of the first check that fails, none for a valid bank (R40). -/
def Bank.validate (b : Bank) (cfg : StationCfg) : Option (Nat × Nat) :=
  checks8.findSome? fun c => (b.failure cfg c).map fun i => (c, i)

/-! ## Taking a changeover (R42, R43, R44) -/

/-- Taking a changeover: the pointer moves to the standby bank, the arm is cleared, the staged pitch is emptied and
CHANGEOVER_TAKEN is raised with the number of the new active bank (R42). -/
def State.takeChangeover (s : State) : State :=
  ((s.setJobs { s.jobs with active := s.jobs.standbyNo, arm := none }).setTracker
    { s.tracker with staged := none }).raise Event.changeoverTaken (detail s.jobs.standbyNo.val)

/-- Whether an armed changeover is due at a repeat number (R44). -/
def Jobs.isDue (j : Jobs) (n : Rep) : Bool :=
  match j.arm with
  | none => false
  | some .next => true
  | some (.atRepeat t) => atOrPast n t

/-- The changeover check on a repeat handed over (R44). -/
def State.changeoverCheck (s : State) (n : Rep) : State := if s.jobs.isDue n then s.takeChangeover else s

/-- The planner enters READY from DRAINING; a changeover that stands armed is taken at once (R43, R55). -/
def State.enterReady (s : State) : State :=
  let s := s.setPlanner { s.planner with st := .ready }
  if s.jobs.arm.isSome then s.takeChangeover else s

/-- The entry to READY follows when the planner is in DRAINING and its queue is empty (R55). -/
def State.drainCheck (s : State) : State :=
  if s.planner.st = .draining && s.planner.queue.isEmpty then s.enterReady else s

end Sys2Proof.Machine
end

