-- ==== Sys2Proof/Machine/Report.lean ====
section
/-! DEFINITION. The report unit (sections 9.1 to 9.3): the RPT waiting list, the impression log and the watch unit. -/

namespace Sys2Proof.Machine

/-! ## Repeat reports (R167) -/

/-- A report joins the waiting list: a ninth report pushes the oldest out and carries GAP (R167). -/
def joinReports (rpts : List RepeatReport) (r : RepeatReport) : List RepeatReport :=
  if rpts.length < Config.reportDepth then rpts ++ [{ r with gap := false }]
  else rpts.drop 1 ++ [{ r with gap := true }]

/-- A repeat report handed over by the planner: discarded while the ring-silent flag is set (R167). -/
def Report.handReport (rep : Report) (r : RepeatReport) : Report :=
  if rep.ringSilent then rep else { rep with rpts := joinReports rep.rpts r }

/-! ## The watch unit (R172) -/

/-- An enabled entry matches a record when every field whose field enable is set equals the record's. -/
def Watch.isHit (w : Watch) (r : LogRecord) : Bool :=
  w.enabled && (!w.laneOn || w.lane == r.lane) && (!w.designOn || r.design == some w.design)
    && (!w.clsOn || w.cls == r.decision.cls)

/-- The four watch entries, in increasing number. -/
def watches4 : List (Fin 4) := [0, 1, 2, 3]

/-- The lowest-numbered entry that matches. -/
def watchHit (ws : Vector Watch 4) (r : LogRecord) : Option (Fin 4) := watches4.find? fun i => ws[i].isHit r

/-- The matching entries whose once flag is set are disabled. -/
def watchAfter (ws : Vector Watch 4) (r : LogRecord) : Vector Watch 4 :=
  ws.map fun w => if w.isHit r && w.once then { w with enabled := false } else w

/-! ## The impression log (R169) -/

/-- The record as it is written: the next log sequence, and GAP when the log is full. -/
def Report.stampRecord (rep : Report) (r : LogRecord) : LogRecord :=
  { r with seq := rep.nextLog, gap := decide (Config.logDepth ≤ rep.log.length) }

/-- The records kept when one is written: a full log discards its oldest. -/
def Report.kept (rep : Report) : List LogRecord :=
  if rep.log.length < Config.logDepth then rep.log else rep.log.drop 1

/-- The report unit after a record is written and compared with the watch entries (R169, R172). -/
def Report.write (rep : Report) (r : LogRecord) : Report :=
  { rep with log := rep.kept ++ [rep.stampRecord r], nextLog := rep.nextLog + 1,
             watch := watchAfter rep.watch (rep.stampRecord r) }

/-- LOG_OVERWRITE, raised with the log sequence of the record a full log discards (R169). -/
def raiseOverwrite (rep : Report) (s : State) : State :=
  if rep.log.length < Config.logDepth then s
  else match rep.log.head? with
    | none => s
    | some old => s.raise Event.logOverwrite (detail old.seq.toNat)

/-- LOG_HALF, raised when a record brings the number held from 127 to 128 (R169). -/
def raiseHalf (rep : Report) (s : State) : State :=
  if rep.log.length = 127 then s.raise Event.logHalf (detail rep.nextLog.toNat) else s

/-- WATCH_HIT, raised once with the lowest-numbered matching entry (R172). -/
def raiseWatch (rep : Report) (r : LogRecord) (s : State) : State :=
  match watchHit rep.watch (rep.stampRecord r) with
  | none => s
  | some i => s.raise Event.watchHit (detail i.val)

/-- One log record is written for a decision handed to the report unit, with the events it causes (R169, R172). -/
def State.writeLog (s : State) (r : LogRecord) : State :=
  raiseWatch s.report r (raiseHalf s.report (raiseOverwrite s.report (s.setReport (s.report.write r))))

/-- A repeat report is handed to the report unit (R80, R167). -/
def State.handReport (s : State) (r : RepeatReport) : State := s.setReport (s.report.handReport r)

end Sys2Proof.Machine
end

