-- ==== Sys2Proof/Machine/Ops.lean ====
section
/-! DEFINITION. The operations the blocks share on the plan queue: deciding an entry with its log record, withdrawals
and the closing of its plan (sections 3.4, 3.8, 3.9), the flush (section 3.10) and the notices of the drive links
(section 3.7). -/

namespace Sys2Proof.Machine

/-! ## Lists: the first member that meets a test -/

/-- The first member that meets a test, changed. -/
def updateFirst {α : Type} (p : α → Bool) (f : α → α) : List α → List α
  | [] => []
  | x :: xs => if p x then f x :: xs else x :: updateFirst p f xs

/-- The first member that meets a test, removed. -/
def removeFirst {α : Type} (p : α → Bool) : List α → List α
  | [] => []
  | x :: xs => if p x then xs else x :: removeFirst p xs

/-! ## Setpoints, entries, moves -/

/-- A setpoint that has not been sent: UNSENT or DUE (R70). -/
def SetState.isUnsent : SetState → Bool
  | .unsent => true | .due => true | .sent _ => false | .acked => false | .withdrawn => false

/-- A setpoint that is not acknowledged and not withdrawn: UNSENT, DUE or SENT (R77). -/
def SetState.isOpen : SetState → Bool
  | .unsent => true | .due => true | .sent _ => true | .acked => false | .withdrawn => false

/-- Withdrawn unless it was sent (R70). -/
def SetState.withdraw (t : SetState) : SetState := if t.isUnsent then .withdrawn else t

/-- An entry is undecided while its outcome is UNDECIDED (R58). -/
def Entry.undecided (e : Entry) : Bool := e.outcome.isNone

/-- The entry decided, its PHS withdrawn when it was not sent (R70, R79). -/
def Entry.decide (e : Entry) (d : Decision) : Entry := { e with outcome := some d, phs := e.phs.withdraw }

/-- Whether a plan holds an undecided entry of a lane. -/
def isOpenLane (l : Fin 8) (e : Entry) : Bool := e.lane == l && e.undecided

/-- Whether an undecided entry is served by a move. -/
def Entry.needs (i : Nat) (e : Entry) : Bool := e.move == some i && e.undecided

/-- Every entry of the plan has its outcome (R80). -/
def Plan.done (p : Plan) : Bool := p.entries.all fun e => !e.undecided

/-- The undecided entry of a lane. -/
def Plan.openEntry (p : Plan) (l : Fin 8) : Option Entry := p.entries.find? (isOpenLane l)

/-- The move that serves an entry. -/
def Plan.moveOf (p : Plan) (e : Entry) : Option Move := e.move.bind fun i => p.moves[i]?

/-- One move changed, by index. -/
def Plan.modMove (p : Plan) (i : Nat) (f : Move → Move) : Plan := { p with moves := p.moves.modify i f }

/-- One lane's undecided entry changed. -/
def Plan.modOpen (p : Plan) (l : Fin 8) (f : Entry → Entry) : Plan :=
  { p with entries := updateFirst (isOpenLane l) f p.entries }

/-- The log record of a decision on an entry, as the planner hands it over (R79). -/
def Plan.record (p : Plan) (e : Entry) (d : Decision) : LogRecord :=
  { seq := 0, repeatNo := p.repeatNo, lane := e.lane, design := some e.design, decision := d,
    residual := p.residual, contact := some e.contact, synth := p.synth, first := p.first, gap := false }

/-- The outcome of each lane of a plan, none for a lane without an entry (R82). -/
def Plan.laneOutcomes (p : Plan) : Vector (Option Decision) 8 :=
  Vector.ofFn fun l => (p.entries.find? fun e => e.lane == l).bind (·.outcome)

/-- The repeat report of a plan (R82). -/
def Plan.report (p : Plan) : RepeatReport :=
  { repeatNo := p.repeatNo, nip := p.nip, lanes := p.laneOutcomes, synth := p.synth, first := p.first, gap := false }

/-! ## The queue -/

/-- Whether a plan has a repeat number. -/
def Plan.isRepeat (n : Rep) (p : Plan) : Bool := p.repeatNo == n

/-- The plan of a repeat number. -/
def State.findPlan (s : State) (n : Rep) : Option Plan := s.planner.queue.find? (Plan.isRepeat n)

/-- The plan of a repeat number changed. -/
def State.modPlan (s : State) (n : Rep) (f : Plan → Plan) : State :=
  s.setPlanner { s.planner with queue := updateFirst (Plan.isRepeat n) f s.planner.queue }

/-- The plan of a repeat number leaves the queue (R80). -/
def State.dropPlan (s : State) (n : Rep) : State :=
  s.setPlanner { s.planner with queue := removeFirst (Plan.isRepeat n) s.planner.queue }

/-! ## Counters (R81) -/

/-- One decided outcome counts in the counters of its lane (R81). -/
def Planner.count (p : Planner) (l : Fin 8) (d : Decision) : Planner :=
  match d with
  | .stamped => { p with stamped := p.stamped.set l (countUp Config.maxCount32 p.stamped[l]) }
  | .suppressed _ => { p with rejected := p.rejected.set l (countUp Config.maxCount32 p.rejected[l]) }
  | .reject _ => { p with rejected := p.rejected.set l (countUp Config.maxCount32 p.rejected[l]) }

/-- One entry counts; an entry is decided when its plan closes. -/
def Planner.countEntry (p : Planner) (e : Entry) : Planner :=
  match e.outcome with
  | none => p
  | some d => p.count e.lane d

/-- The entries of a plan count in the per-lane counters (R81). -/
def State.countPlan (s : State) (p : Plan) : State :=
  s.setPlanner (p.entries.foldl Planner.countEntry s.planner)

/-! ## Foil account -/

/-- One foil web's account changed. -/
def State.modFoil (s : State) (f : Fin 4) (g : FoilAccount → FoilAccount) : State :=
  s.setFoil (s.foil.set f (g s.foil[f]))

/-- Reserved foil is given back (R100, R102). -/
def FoilAccount.release (a : FoilAccount) (n : Nat) : FoilAccount := { a with reserved := a.reserved - n }

/-- Available foil: remaining less reserved (R88). -/
def FoilAccount.available (a : FoilAccount) : Nat := a.remaining - a.reserved

/-! ## Withdrawal (R70, R102) -/

/-- The move a plan must withdraw after an entry served by move `i` was decided: it is unsent and serves no undecided
entry (R70). -/
def Plan.spentMove (p : Plan) (i : Option Nat) : Option (Nat × Move) :=
  match i with
  | none => none
  | some i => match p.moves[i]? with
    | none => none
    | some m => if m.st.isUnsent && !(p.entries.any (Entry.needs i)) then some (i, m) else none

/-- The plan with one move withdrawn. -/
def Plan.withdrawMove (p : Plan) (i : Nat) : Plan := p.modMove i fun m => { m with st := .withdrawn }

/-- The plan after the spent move, if any, is withdrawn. -/
def Plan.withdrawSpent (p : Plan) (i : Option Nat) : Plan :=
  match p.spentMove i with
  | none => p
  | some (k, _) => p.withdrawMove k

/-- The foil account after the spent move, if any, has given its reservation back (R102). -/
def State.releaseSpent (s : State) (p : Plan) (i : Option Nat) : State :=
  match p.spentMove i with
  | none => s
  | some (_, m) => s.modFoil m.web fun a => a.release m.reserved

/-! ## Closing a plan (R80) and deciding an entry (R79) -/

/-- A plan closes: its entries are counted, its report is handed over when the cause allows, it leaves the queue, and
the entry to READY follows in DRAINING when the queue is then empty (R80, R83). -/
def State.closePlan (s : State) (p : Plan) (reports : Bool) : State :=
  let s := s.countPlan p
  let s := if reports then s.handReport p.report else s
  (s.dropPlan p.repeatNo).drainCheck

/-- The plan after the decision on its open entry of a lane: the entry decided, its unsent PHS withdrawn, its move
withdrawn when it serves no undecided entry any more (R70, R79). -/
def Plan.decideOpen (p : Plan) (l : Fin 8) (e : Entry) (d : Decision) : Plan :=
  (p.modOpen l fun e => e.decide d).withdrawSpent e.move

/-- The decision of one undecided entry after planning: the plan as decided, the reservation of a withdrawn move
released, the log record written, and the plan closed when this was its last decision (R70, R79, R80). -/
def State.decideIn (s : State) (p : Plan) (l : Fin 8) (e : Entry) (d : Decision) (reports : Bool) : State :=
  let s := s.releaseSpent (p.modOpen l fun e => e.decide d) e.move
  let s := s.modPlan p.repeatNo fun _ => p.decideOpen l e d
  let s := s.writeLog (p.record e d)
  if (p.decideOpen l e d).done then s.closePlan (p.decideOpen l e d) reports else s

/-- The decision of a lane's entry of a repeat; nothing when it is not in the queue or is decided (R79). -/
def State.decideEntry (s : State) (n : Rep) (l : Fin 8) (d : Decision) (reports : Bool) : State :=
  match s.findPlan n with
  | none => s
  | some p => match p.openEntry l with
    | none => s
    | some e => s.decideIn p l e d reports

/-- An entry of the queue, by repeat number and lane. -/
abbrev EntryKey := Rep × Fin 8

/-- Entries are decided one after another with one outcome. -/
def State.decideAll (s : State) (keys : List EntryKey) (d : Decision) (reports : Bool) : State :=
  keys.foldl (fun s k => s.decideEntry k.1 k.2 d reports) s

/-! ## The flush (R83) -/

/-- The undecided entries of a plan, in increasing lane number. -/
def Plan.openKeys (p : Plan) : List EntryKey := (p.entries.filter (·.undecided)).map fun e => (p.repeatNo, e.lane)

/-- A plan left by the decisions of a flush with no undecided entry closes (R83). -/
def State.closeSpent (s : State) (p : Plan) (reports : Bool) : State :=
  if p.done then s.closePlan p reports else s

/-- The flush of the plan at the head of the queue. -/
def State.flushHead (s : State) (reports : Bool) : State :=
  match s.planner.queue with
  | [] => s
  | p :: _ => (s.decideAll p.openKeys (.reject .flushed) reports).closeSpent p reports

/-- The plans at the head of the queue are flushed, a number of times. -/
def State.flushPlans (reports : Bool) : Nat → State → State
  | 0, s => s
  | n + 1, s => State.flushPlans reports n (s.flushHead reports)

/-- A flush: every plan of the queue is given up in order, and PLAN_FLUSHED is raised with the cause when one was
(R83 to R86). It is raised after the decisions, and also after the CHANGEOVER_TAKEN of an armed changeover that is taken
when the flush empties the queue in DRAINING (R55): the model's reading (log 31). -/
def State.flush (s : State) (cause : FlushCause) (reports : Bool) : State :=
  let s' := State.flushPlans reports s.planner.queue.length s
  if s.planner.queue.isEmpty then s' else s'.raise Event.planFlushed cause.code

/-! ## Drive notices (R77, R78) -/

/-- Whether an entry depends on a drive through a setpoint that is not acknowledged (R77). -/
def Plan.dependsOn (p : Plan) (r : Fin 8 ⊕ Fin 4) (e : Entry) : Bool :=
  e.undecided && match r with
    | .inl l => e.lane == l && e.phs.isOpen
    | .inr f => match p.moveOf e with
      | none => false
      | some m => m.web == f && m.st.isOpen

/-- The entries a notice of a drive decides, plans in queue order and entries in lane order (R77). -/
def State.noticeKeys (s : State) (d : Fin 12) : List EntryKey :=
  s.planner.queue.flatMap fun p => (p.entries.filter (p.dependsOn (driveRole d))).map fun e => (p.repeatNo, e.lane)

/-- The reason of a silence notice: NO_ACK for a cassette drive, FOIL_NO_ACK for a foil drive (R77). -/
def silenceReason (d : Fin 12) : Reason :=
  match driveRole d with
  | .inl _ => .noAck
  | .inr _ => .foilNoAck

/-- A notice of the drive links: the planner decides the entries that depend on the drive (R77, R78). -/
def State.notice (s : State) (d : Fin 12) (r : Reason) : State := s.decideAll (s.noticeKeys d) (.reject r) true

end Sys2Proof.Machine
end

