-- ==== Sys2Proof/Machine/Foil.lean ====
section
/-! DEFINITION. The foil allocator (chapter 4): the moves of a repeat, their reservation, the chaining and consumption at
a sending, the low test. -/

namespace Sys2Proof.Machine

/-! ## Intervals and runs (R91, R92, R93) -/

/-- A foil interval or a run of merged intervals, with the lanes of its entries in increasing number. -/
structure Run where
  start : Pos
  stop : Pos
  lanes : List (Fin 8)
deriving DecidableEq, Repr

/-- The foil interval of an entry: S - Fm to S + Li + Fm (R91). -/
def foilInterval (fm : Nat) (e : Entry) : Run :=
  { start := e.contact - len fm, stop := e.contact + len e.length + len fm, lanes := [e.lane] }

/-- An interval placed after those whose start lies no farther from the nip base (R91). -/
def insertRun (nip : Pos) (r : Run) : List Run → List Run
  | [] => [r]
  | x :: xs => if dist nip r.start < dist nip x.start then r :: x :: xs else x :: insertRun nip r xs

/-- The intervals in order of their start, equal starts in increasing lane number (R91). -/
def orderRuns (nip : Pos) (rs : List Run) : List Run := rs.foldl (fun acc r => insertRun nip r acc) []

/-- The gap from one run to a later one, read as a signed distance (R92). -/
def runGap (a b : Run) : Int := dist a.stop b.start

/-- The later of two ends. -/
def laterEnd (a b : Pos) : Pos := if 0 < dist a b then b else a

/-- A lane placed in a list of lanes in increasing number. -/
def insertLane (l : Fin 8) : List (Fin 8) → List (Fin 8)
  | [] => [l]
  | x :: xs => if l < x then l :: x :: xs else x :: insertLane l xs

/-- Two runs joined into one, from the first one's start to the later of the two ends (R92, R93). -/
def joinRuns (a b : Run) : Run :=
  { start := a.start, stop := laterEnd a.stop b.stop, lanes := b.lanes.foldl (fun acc l => insertLane l acc) a.lanes }

/-- The merge of R92, with the run that is open: an interval nearer than Gmin joins it, another one opens a new run. -/
def mergeInto (gmin : Nat) (cur : Run) : List Run → List Run
  | [] => [cur]
  | r :: rs => if runGap cur r < gmin then mergeInto gmin (joinRuns cur r) rs else cur :: mergeInto gmin r rs

/-- The ordered intervals of a group merged into runs (R92). -/
def mergeRuns (gmin : Nat) : List Run → List Run
  | [] => []
  | r :: rs => mergeInto gmin r rs

/-- The smallest gap between adjacent runs. -/
def smallestGap : List Run → Option Int
  | a :: b :: rs => match smallestGap (b :: rs) with
    | none => some (runGap a b)
    | some g => some (min (runGap a b) g)
  | _ => none

/-- The adjacent pair nearest the start with a given gap, joined (R93). -/
def joinAtGap (g : Int) : List Run → List Run
  | a :: b :: rs => if runGap a b = g then joinRuns a b :: rs else a :: joinAtGap g (b :: rs)
  | rs => rs

/-- Runs joined at their smallest gap until they are no more than the room (R93); the first argument bounds the
repetitions and the number of runs is always enough. -/
def fitRoom : Nat → Nat → List Run → List Run
  | 0, _, rs => rs
  | n + 1, room, rs =>
    if rs.length ≤ room then rs
    else match smallestGap rs with
      | none => rs
      | some g => fitRoom n room (joinAtGap g rs)

/-- The length of a run, end - start (R92). -/
def Run.length (r : Run) : Nat := (r.stop - r.start).toNat

/-- The need of a group: the sum of the lengths of its runs (R94). -/
def needOf (rs : List Run) : Nat := (rs.map Run.length).sum

/-- The foil move of a run (R95). -/
def Run.toMove (web : Fin 4) (f : FoilWeb) (r : Run) : Move :=
  { web, start := r.start, stop := r.stop, length := r.length, reserved := r.length, st := .unsent, chain := false,
    lanes := r.lanes, fm := f.fm, gmin := f.gmin }

/-! ## The account at a reservation (R94, R96, R97) -/

/-- The foil map entry of a web in the active bank. A web absent there has no threshold, so that its low test does nothing
(R106), and no margin and no gap, which are not read: a group on it is ruled out by check 4 of R40 (log 22). -/
def State.webEntry (s : State) (f : Fin 4) : FoilWeb :=
  (s.active.foil[f]).getD { first := 0, last := 0, fm := 0, gmin := 0, low := 0 }

/-- The low test: below the threshold with the flag clear, the flag is set and FOIL_LOW raised (R96). -/
def State.lowTest (s : State) (f : Fin 4) : State :=
  if s.foil[f].available < (s.webEntry f).low ∧ s.foil[f].low = false then
    (s.modFoil f fun a => { a with low := true }).raise Event.foilLow (detail f.val)
  else s

/-- Foil reserved for a group (R94). -/
def FoilAccount.reserve (a : FoilAccount) (need : Nat) : FoilAccount := { a with reserved := a.reserved + need }

/-- The saver's effect on the saved total: Lr - need when Lr exceeds it, saturating (R97). -/
def FoilAccount.save (a : FoilAccount) (lr need : Nat) : FoilAccount :=
  { a with saved := min Config.maxCount32 (a.saved + (lr - need)) }

/-- The reservation of a need on a web: reserved counted up, the low test, the saved total (R94, R96, R97). -/
def State.reserveFoil (s : State) (f : Fin 4) (need : Nat) : State :=
  ((s.modFoil f fun a => a.reserve need).lowTest f).modFoil f fun a => a.save s.active.job.lr need

/-! ## Planning the groups (R63, R93, R94, R95) -/

/-- A plan in the making: the state, its entries and the moves added so far. -/
structure Draft where
  s : State
  entries : List Entry
  moves : List Move

/-- A surviving entry of a foil web's group (R63). -/
def Entry.inGroup (f : Fin 4) (e : Entry) : Bool := e.undecided && e.kind.isFoil && e.web == some f

/-- The runs of a web's group, fitted to the room (R91 to R93). -/
def groupRuns (fw : FoilWeb) (nip : Pos) (room : Nat) (group : List Entry) : List Run :=
  let runs := mergeRuns fw.gmin (orderRuns nip (group.map (foilInterval fw.fm)))
  fitRoom runs.length room runs

/-- The number of groups with a higher web number still to be built (R93). -/
def laterGroups (entries : List Entry) (later : List (Fin 4)) : Nat :=
  (later.filter fun f => entries.any (Entry.inGroup f)).length

/-- The index of the first run that holds a lane. -/
def runIndex (rs : List Run) (l : Fin 8) : Option Nat := rs.findIdx? fun r => r.lanes.contains l

/-- The entries of a reserved group record the index of the move that serves them (R95). -/
def assignMoves (f : Fin 4) (base : Nat) (rs : List Run) (e : Entry) : Entry :=
  if e.inGroup f then { e with move := (runIndex rs e.lane).map (base + ·) } else e

/-- The entries of a refused group are suppressed FOIL_OUT (R63, R94); they are still UNSENT, so their PHS is withdrawn. -/
def refuseGroup (f : Fin 4) (e : Entry) : Entry :=
  if e.inGroup f then e.decide (.suppressed .foilOut) else e

/-- One web's group built and reserved, or refused whole (R93 to R95). -/
def Draft.group (nip : Pos) (f : Fin 4) (later : List (Fin 4)) (d : Draft) : Draft :=
  let group := d.entries.filter (Entry.inGroup f)
  if group.isEmpty then d
  else
    let room := Config.movesPerPlan - d.moves.length - laterGroups d.entries later
    let runs := groupRuns (d.s.webEntry f) nip room group
    if d.s.foil[f].available < needOf runs then
      { d with s := d.s.raise Event.foilOut (detail f.val), entries := d.entries.map (refuseGroup f) }
    else
      { s := d.s.reserveFoil f (needOf runs), entries := d.entries.map (assignMoves f d.moves.length runs),
        moves := d.moves ++ runs.map (Run.toMove f (d.s.webEntry f)) }

/-- The groups in increasing foil web number (R63). -/
def Draft.groups (nip : Pos) : List (Fin 4) → Draft → Draft
  | [], d => d
  | f :: later, d => Draft.groups nip later (d.group nip f later)

/-! ## Sending a foil move (R98, R99, R100) -/

/-- A move that can be a successor: of the web, UNSENT or DUE (R98). -/
def Move.canFollow (f : Fin 4) (m : Move) : Bool := m.web == f && m.st.isUnsent

/-- The plans from the one of a repeat number on: it and those behind it. -/
def plansFrom (n : Rep) (q : List Plan) : List Plan := q.dropWhile fun p => !p.isRepeat n

/-- The successor of a move of the plan at the head: the later moves of the same plan, then the moves of the plans
behind it (R98). -/
def successorIn (f : Fin 4) (i : Nat) : List Plan → Option Move
  | [] => none
  | p :: rest => ((p.moves.drop (i + 1)).find? (Move.canFollow f)).or
      ((rest.flatMap Plan.moves).find? (Move.canFollow f))

/-- A move trimmed by an amount: its start raised, its length and reserved amount reduced (R100). -/
def Move.trim (t : Nat) (m : Move) : Move :=
  { m with start := m.start + len t, length := m.length - t, reserved := m.reserved - t }

/-- The first plan that holds a successor has it trimmed. -/
def trimPlans (f : Fin 4) (t : Nat) : List Plan → List Plan
  | [] => []
  | p :: rest => if p.moves.any (Move.canFollow f)
      then { p with moves := updateFirst (Move.canFollow f) (Move.trim t) p.moves } :: rest
      else p :: trimPlans f t rest

/-- The successor of a move of the plan at the head, trimmed where `successorIn` finds it. -/
def trimSuccessor (f : Fin 4) (i t : Nat) : List Plan → List Plan
  | [] => []
  | p :: rest => if (p.moves.drop (i + 1)).any (Move.canFollow f)
      then { p with moves := p.moves.take (i + 1)
              ++ updateFirst (Move.canFollow f) (Move.trim t) (p.moves.drop (i + 1)) } :: rest
      else p :: trimPlans f t rest

/-- The queue with the plans from a repeat number on changed. -/
def onPlansFrom (n : Rep) (g : List Plan → List Plan) (q : List Plan) : List Plan :=
  q.takeWhile (fun p => !p.isRepeat n) ++ g (plansFrom n q)

/-- How a move is sent: chained or not, the foil drawn over the gap, the successor's trim (R99, R100). -/
structure SendPlan where
  chain : Bool
  extra : Nat
  trim : Nat
deriving DecidableEq, Repr

/-- A move sent without chain. -/
def SendPlan.plain : SendPlan := { chain := false, extra := 0, trim := 0 }

/-- The chain decision at the sending of a move, from its successor and the available foil (R98, R99, R100). -/
def chainPlan (m : Move) (succ : Option Move) (available : Nat) : SendPlan :=
  match succ with
  | none => SendPlan.plain
  | some x =>
    let g := dist m.stop x.start
    if g < 0 then { chain := true, extra := 0, trim := min (-g).toNat x.length }
    else if g < m.gmin then
      if g.toNat ≤ available then { chain := true, extra := g.toNat, trim := 0 } else SendPlan.plain
    else SendPlan.plain

/-- The account after a sending: the trim released, then the move's foil and the gap taken (R99, R100). -/
def FoilAccount.consume (a : FoilAccount) (m : Move) (c : SendPlan) : FoilAccount :=
  { a with remaining := a.remaining - (m.length + c.extra), reserved := a.reserved - c.trim - m.reserved }

/-- The chain decision for a move of the queue as the state stands. -/
def State.sendPlan (s : State) (n : Rep) (i : Nat) (m : Move) : SendPlan :=
  chainPlan m (successorIn m.web i (plansFrom n s.planner.queue)) s.foil[m.web].available

/-- The successor trimmed where the chain decision says so (R100). -/
def State.trimNext (s : State) (n : Rep) (i : Nat) (m : Move) (c : SendPlan) : State :=
  if c.trim = 0 then s
  else s.setPlanner { s.planner with queue := onPlansFrom n (trimSuccessor m.web i c.trim) s.planner.queue }

/-- What the foil allocator does at the sending of a move: the successor trimmed, the account taken down, and the low
test when the draw of a gap lowered the available foil (R99, R100, R96). -/
def State.sendFoil (s : State) (n : Rep) (i : Nat) (m : Move) (c : SendPlan) : State :=
  let s := (s.trimNext n i m c).modFoil m.web fun a => a.consume m c
  if c.extra = 0 then s else s.lowTest m.web

/-! ## Loading a roll (R104) -/

/-- The low test both ways, at LOAD FOIL (R104). -/
def State.loadTest (s : State) (f : Fin 4) : State :=
  if (s.webEntry f).low ≤ s.foil[f].available then s.modFoil f fun a => { a with low := false } else s.lowTest f

end Sys2Proof.Machine
end

