-- ==== Sys2Proof/Machine/Planner.lean ====
section
/-! DEFINITION. The impression planner (chapter 3): the planning pass of a hand-over, the release, late and contact
tests of a cycle frame, the acknowledgements. -/

namespace Sys2Proof.Machine

/-! ## The entries of a repeat and the suppression checks (R61, R62) -/

/-- READY and DRIFT permit stamping (section 5.2). -/
def Heat.permits : Heat → Bool
  | .ready => true | .drift => true | .lost => false | .cold => false | .soak => false

/-- Whether a drive is ANSWERING. -/
def State.answering (s : State) (d : Fin 12) : Bool := s.drives[d].link == .answering

/-- Check 8: no foil kind, or the foil drive of the design's web is ANSWERING (R62). -/
def State.foilDriveOk (s : State) (r : Design) : Bool :=
  !r.kind.isFoil || match r.web with
    | none => false
    | some f => s.answering (foilDrive f)

/-- The first of the eight checks that fails for a lane's design (R62). -/
def State.suppression (s : State) (h : HandOver) (l : Fin 8) (r : Design) : Option Reason :=
  if s.active.lanes[l].hold then some .held
  else if r.inhibit then some .inhibited
  else if h.mode = .unlocked ∨ h.mode = .locking then some .unlocked
  else if s.active.job.tol < h.residual.natAbs then some .register
  else if s.tracker.line ≠ .run ∨ s.tracker.speed < s.active.job.vmin then some .speed
  else if r.kind ≠ .embossCold ∧ s.cassettes[l].heat.permits = false then some .heat
  else if s.answering (cassetteDrive l) = false then some .drive
  else if s.foilDriveOk r = false then some .foilDrive
  else none

/-- The contact start B + O + T (R61). -/
def contactStart (nip : Pos) (r : Design) (l : Lane) : Pos := nip + len r.offset + BitVec.ofInt 32 l.trim

/-- The setpoint of an entry as planned: withdrawn for an entry the checks decide, since nothing is sent for it (R70). -/
def plannedPhs (o : Option Reason) : SetState := if o.isSome then .withdrawn else .unsent

/-- The impression entry of a lane for a chosen design, judged by the checks (R58, R61, R62). -/
def State.mkEntry (s : State) (h : HandOver) (nip : Pos) (l : Fin 8) (d : Fin 64) (r : Design) : Entry :=
  let contact := contactStart nip r s.active.lanes[l]
  let o := s.suppression h l r
  { lane := l, design := d, kind := r.kind, segment := r.segment, web := r.web, length := r.length,
    pressure := r.pressure, contact, release := contact - len s.jobs.cfg.lc, late := contact - len s.jobs.cfg.lmin,
    phs := plannedPhs o, move := none, outcome := o.map .suppressed }

/-- The entry of one lane, for a lane that is not OFF. A design that is not defined gives none; validation keeps the
active bank from naming one (R40 check 2, log 22). -/
def State.laneEntry (s : State) (h : HandOver) (nip : Pos) (l : Fin 8) : Option Entry :=
  (s.active.choice s.active.lanes[l]).bind fun d => (s.active.designs[d]).map (s.mkEntry h nip l d)

/-! ## The progress advance (R64) -/

/-- An entry that moves its lane's rotation on: still undecided, or suppressed INHIBITED (R64). -/
def Entry.advances (e : Entry) : Bool :=
  match e.outcome with
  | none => true
  | some o => o == .suppressed .inhibited

/-- Whether a lane's index wraps when it is counted up (R64). -/
def Lane.wraps (l : Lane) : Bool := l.mode == .sequence && decide (l.seqLen ≤ l.index + 1)

/-- The progress of a lane moved on (R28, R64). -/
def Lane.advance (l : Lane) : Lane :=
  match l.mode with
  | .off => l
  | .fixed => l
  | .alternate => { l with onB := !l.onB }
  | .sequence => { l with index := if l.seqLen ≤ l.index + 1 then 0 else l.index + 1 }

/-- One lane of the active bank moved on, with SEQUENCE_WRAP when its index wraps (R64). -/
def State.advanceLane (s : State) (l : Fin 8) : State :=
  let s' := s.setActive (s.active.modLane l Lane.advance)
  if s.active.lanes[l].wraps then s'.raise Event.sequenceWrap (detail l.val) else s'

/-- The lanes of the entries that advance, moved on in increasing lane number (R64, log 20). -/
def State.advanceLanes (s : State) (es : List Entry) : State :=
  (es.filter Entry.advances).foldl (fun s e => s.advanceLane e.lane) s

/-! ## Joining or closing (R65) and overflow (R60) -/

/-- The records of the entries decided at planning, in increasing lane number (R65). -/
def State.logPlanned (s : State) (p : Plan) : State :=
  p.entries.foldl (fun s e => match e.outcome with
    | none => s
    | some d => s.writeLog (p.record e d)) s

/-- The plan joins the tail of the queue, or is closed at once (R65). A plan closed at once was never in the queue. -/
def State.joinOrClose (s : State) (p : Plan) : State :=
  if p.done then (s.countPlan p).handReport p.report
  else s.setPlanner { s.planner with queue := s.planner.queue ++ [p] }

/-- The lanes in use in the active bank. -/
def State.lanesInUse (s : State) : List (Fin 8) := lanes8.filter fun l => s.active.lanes[l].mode != .off

/-- The log record of a lane of an overflowed repeat: no design and no contact start (R60, R169). -/
def overflowRecord (h : HandOver) (l : Fin 8) : LogRecord :=
  { seq := 0, repeatNo := h.repeatNo, lane := l, design := none, decision := .suppressed .overflow,
    residual := h.residual, contact := none, synth := h.synth, first := false, gap := false }

/-- The repeat report of an overflowed repeat (R60, R82). -/
def State.overflowReport (s : State) (h : HandOver) : RepeatReport :=
  { repeatNo := h.repeatNo, nip := h.mt + len s.jobs.cfg.d,
    lanes := Vector.ofFn fun l => if s.active.lanes[l].mode = .off then none else some (.suppressed .overflow),
    synth := h.synth, first := false, gap := false }

/-- One lane of an overflowed repeat: its record is written and it counts (R60, R81). -/
def State.overflowLane (h : HandOver) (s : State) (l : Fin 8) : State :=
  let s := s.writeLog (overflowRecord h l)
  s.setPlanner (s.planner.count l (.suppressed .overflow))

/-- A repeat handed over while the queue is full (R60). -/
def State.overflow (s : State) (h : HandOver) : State :=
  ((s.lanesInUse.foldl (State.overflowLane h) s).handReport (s.overflowReport h)).raise Event.planOverflow h.repeatNo

/-! ## The planning pass (section 3.3) -/

/-- The plan of a repeat from a draft (R57). -/
def planOf (s : State) (h : HandOver) (first : Bool) (d : Draft) : Plan :=
  { repeatNo := h.repeatNo, mt := h.mt, residual := h.residual, synth := h.synth, first,
    nip := h.mt + len s.jobs.cfg.d, vmin := s.active.job.vmin, entries := d.entries, moves := d.moves }

/-- The entries of a repeat and their foil (R61 to R63). -/
def State.draft (s : State) (h : HandOver) : Draft :=
  let nip := h.mt + len s.jobs.cfg.d
  Draft.groups nip webs4 { s, entries := lanes8.filterMap (s.laneEntry h nip), moves := [] }

/-- A repeat that passed the overflow test and the changeover check is planned (R61 to R65). -/
def State.planEntries (s : State) (h : HandOver) (first : Bool) : State :=
  let d := s.draft h
  let p := planOf s h first d
  ((d.s.advanceLanes d.entries).logPlanned p).joinOrClose p

/-- The planning pass of a hand-over in STAMPING (R60, R44, R61). -/
def State.planRepeat (s : State) (h : HandOver) : State :=
  if Config.queueDepth ≤ s.planner.queue.length then s.overflow h
  else (s.changeoverCheck h.repeatNo).planEntries h (s.jobs.isDue h.repeatNo)

/-- What the planner does with a hand-over, by its state (R52). -/
def State.plannerTakes (s : State) (h : HandOver) : State :=
  match s.planner.st with
  | .idle => s
  | .ready => s
  | .stamping => s.planRepeat h
  | .draining => s.changeoverCheck h.repeatNo

/-! ## The tests of a cycle frame (R67, R71 to R74) -/

/-- One test of the planner's pass: a foil move or an entry of a plan (R73). -/
inductive PlanTest where
  | move (repeatNo : Rep) (index : Nat)
  | entry (repeatNo : Rep) (lane : Fin 8)
deriving DecidableEq, Repr

/-- The tests of a plan: its moves in order, then its entries in increasing lane number (R73). -/
def Plan.tests (p : Plan) : List PlanTest :=
  (List.range p.moves.length).map (.move p.repeatNo) ++ p.entries.map fun e => .entry p.repeatNo e.lane

/-- The tests of the pass: the plans of the queue in increasing repeat number (R73). -/
def State.tests (s : State) : List PlanTest := s.planner.queue.flatMap Plan.tests

/-- Made DUE at the release test (R67). -/
def SetState.release (t : SetState) : SetState := if t = .unsent then .due else t

/-- The undecided entries a move serves, in increasing lane number (R72). -/
def Plan.servedKeys (p : Plan) (i : Nat) : List EntryKey :=
  (p.entries.filter (Entry.needs i)).map fun e => (p.repeatNo, e.lane)

/-- A move given up at its late point: its undecided entries are decided REJECT LATE, which withdraws it; one that
served none is withdrawn as well (R72). -/
def State.giveUpMove (s : State) (p : Plan) (i : Nat) (m : Move) : State :=
  if (p.servedKeys i).isEmpty then
    (s.modPlan p.repeatNo fun p => p.withdrawMove i).modFoil m.web fun a => a.release m.reserved
  else s.decideAll (p.servedKeys i) (.reject .late) true

/-- The release test of a move, then its late test (R67, R72). -/
def State.testMove (s : State) (n : Rep) (i : Nat) : State :=
  match s.findPlan n with
  | none => s
  | some p => match p.moves[i]? with
    | none => s
    | some m =>
      if m.st.isUnsent = false then s
      else if atOrPast s.tracker.pos (m.start - len s.jobs.cfg.lmin) then s.giveUpMove p i m
      else if atOrPast s.tracker.pos (m.start - len s.jobs.cfg.lf) then
        s.modPlan n fun p => p.modMove i fun m => { m with st := m.st.release }
      else s

/-- Whether the FMV of a foil kind's move is acknowledged (R74). -/
def Plan.foilAcked (p : Plan) (e : Entry) : Bool :=
  !e.kind.isFoil || match p.moveOf e with
    | none => false
    | some m => m.st == .acked

/-- The contact check: STAMPED, or REJECT for the first condition that fails (R74). -/
def State.contactOutcome (s : State) (p : Plan) (e : Entry) : Decision :=
  if e.phs ≠ .acked then .reject .noAck
  else if p.foilAcked e = false then .reject .foilNoAck
  else if e.kind ≠ .embossCold ∧ s.cassettes[e.lane].heat.permits = false then .reject .heat
  else if s.tracker.speed < p.vmin then .reject .speed
  else .stamped

/-- The release test of an entry, then its late test, then its contact test (R67, R71, R74). A PHS made due and late in
one pass is decided LATE without having been offered (R73). -/
def State.testEntry (s : State) (n : Rep) (l : Fin 8) : State :=
  match s.findPlan n with
  | none => s
  | some p => match p.openEntry l with
    | none => s
    | some e =>
      if e.phs.isUnsent && atOrPast s.tracker.pos e.late then s.decideEntry n l (.reject .late) true
      else if atOrPast s.tracker.pos e.contact then s.decideEntry n l (s.contactOutcome p e) true
      else if atOrPast s.tracker.pos e.release then
        s.modPlan n fun p => p.modOpen l fun e => { e with phs := e.phs.release }
      else s

/-- One test of the pass. -/
def State.planTest (s : State) : PlanTest → State
  | .move n i => s.testMove n i
  | .entry n l => s.testEntry n l

/-! ## Acknowledgements (R69) -/

/-- The first entry of a lane changed. -/
def Plan.modEntry (p : Plan) (l : Fin 8) (f : Entry → Entry) : Plan :=
  { p with entries := updateFirst (fun e => e.lane == l) f p.entries }

/-- The planner hears that an echo acknowledged a setpoint; a plan no longer in the queue hears nothing (R69, R128). -/
def State.acknowledge (s : State) : PlanItem → State
  | .phs n l => s.modPlan n fun p => p.modEntry l fun e => { e with phs := .acked }
  | .fmv n i => s.modPlan n fun p => p.modMove i fun m => { m with st := .acked }

end Sys2Proof.Machine
end

