-- ==== Sys2Proof/Machine/Cassettes.lean ====
section
/-! DEFINITION. The cassette monitor (chapter 5): the reading of a temperature report, the timeout and the dwells of a
cycle frame. -/

namespace Sys2Proof.Machine

/-- One cassette changed. -/
def State.modCassette (s : State) (c : Fin 8) (f : Cassette → Cassette) : State :=
  s.setCassettes (s.cassettes.set c (f s.cassettes[c]))

/-! ## Temperature reports (R112 to R114, R118) -/

/-- A report is in band: no heater fault, and the temperature within lo to hi (R112). -/
def Lane.inBand (l : Lane) (temp : Int) (fault : Bool) : Bool := !fault && l.lo ≤ temp && temp ≤ l.hi

/-- The heat state after an in-band report (R113, R118). -/
def Cassette.warmed (x : Cassette) (nsoak : Nat) : Cassette :=
  match x.heat with
  | .cold => if nsoak = 0 then { x with heat := .ready } else { x with heat := .soak, soak := 0 }
  | .lost => if nsoak = 0 then { x with heat := .ready } else { x with heat := .soak, soak := 0 }
  | .soak => x
  | .ready => x
  | .drift => { x with heat := .ready }

/-- The heat state after an out-of-band report (R114, R118). -/
def Cassette.cooled (x : Cassette) (ndrift : Nat) : Cassette :=
  match x.heat with
  | .cold => x
  | .soak => { x with heat := .cold }
  | .ready => if ndrift = 0 then { x with heat := .cold } else { x with heat := .drift, drift := 0 }
  | .drift => x
  | .lost => { x with heat := .cold }

/-- A TMP read for one cassette, judged against its lane's band of the active bank (R112); READY with Ndrift 0 raises
CASSETTE_COLD on an out-of-band report (R118). -/
def State.readTmp (s : State) (c : Fin 8) (temp : Int) (fault : Bool) : State :=
  let l := s.active.lanes[c]
  let s' := s.modCassette c fun x => { x with since := 0 }
  if l.inBand temp fault then s'.modCassette c (·.warmed l.nsoak)
  else
    let s'' := s'.modCassette c (·.cooled l.ndrift)
    if s.cassettes[c].heat = .ready ∧ l.ndrift = 0 then s''.raise Event.cassetteCold (detail c.val) else s''

/-! ## The cycle frame at a cassette (R115 to R117) -/

/-- The count of ring cycles since the last TMP after a cycle frame (R115). -/
def Cassette.sinceNext (x : Cassette) : Nat := countUp Config.maxSinceTmp x.since

/-- The TMP timeout: the count is then Ntmp or more and the cassette is not LOST (R115). -/
def Cassette.tmpOut (x : Cassette) (ntmp : Nat) : Bool := decide (ntmp ≤ x.sinceNext) && x.heat != .lost

/-- The soak completes: SOAK, and the soak count is then Nsoak or more (R116). -/
def Cassette.soakOut (x : Cassette) (nsoak : Nat) : Bool := x.heat == .soak && decide (nsoak ≤ x.soak + 1)

/-- The drift grace runs out: DRIFT, and the drift count is then Ndrift or more (R117). -/
def Cassette.driftOut (x : Cassette) (ndrift : Nat) : Bool := x.heat == .drift && decide (ndrift ≤ x.drift + 1)

/-- The dwell counts of a cassette on a cycle frame, and the state a completed dwell enters (R116, R117). -/
def Cassette.dwelt (x : Cassette) (nsoak ndrift : Nat) : Cassette :=
  match x.heat with
  | .soak => { x with soak := x.soak + 1, heat := if nsoak ≤ x.soak + 1 then .ready else .soak }
  | .drift => { x with drift := x.drift + 1, heat := if ndrift ≤ x.drift + 1 then .cold else .drift }
  | .ready => x
  | .cold => x
  | .lost => x

/-- A cassette after a cycle frame: the timeout test before the dwells (R115). -/
def Cassette.cycled (x : Cassette) (ntmp nsoak ndrift : Nat) : Cassette :=
  if x.tmpOut ntmp then { x with since := x.sinceNext, heat := .lost }
  else { x.dwelt nsoak ndrift with since := x.sinceNext }

/-- Whether CASSETTE_COLD is raised on a cycle frame: a timeout from READY or DRIFT, or a drift expiry (R115, R117). -/
def Cassette.goesCold (x : Cassette) (ntmp ndrift : Nat) : Bool :=
  if x.tmpOut ntmp then x.heat == .ready || x.heat == .drift else x.driftOut ndrift

/-- The cassette monitor's part of a cycle frame for one cassette (R115 to R117). A cassette that takes it at a later step
reads Ntmp, Nsoak and Ndrift as they stand at that step: the model's choice (log 34). -/
def State.cassetteCycle (s : State) (c : Fin 8) : State :=
  let l := s.active.lanes[c]
  let x := s.cassettes[c]
  let s' := s.modCassette c (·.cycled s.jobs.cfg.ntmp l.nsoak l.ndrift)
  if x.goesCold s.jobs.cfg.ntmp l.ndrift then s'.raise Event.cassetteCold (detail c.val) else s'

end Sys2Proof.Machine
end

