-- ==== Sys2Proof/Machine/Drives.lean ====
section
/-! DEFINITION. The drive links (chapter 6): the reading of a drive status frame, the counts and timeouts of a cycle
frame, the entry to SILENT, the sending of a setpoint. -/

namespace Sys2Proof.Machine

/-- One drive's link changed. -/
def State.modDrive (s : State) (d : Fin 12) (f : Drive → Drive) : State := s.setDrives (s.drives.set d (f s.drives[d]))

/-! ## Entry to SILENT (R134, R140, R141) -/

/-- The link of a drive that enters SILENT: list, sent-since-silence flag and last flags cleared, the cycles since the
last DST set to 0, the next sequence number kept (R134). -/
def Drive.silenced (d : Drive) : Drive :=
  { d with link := .silent, out := [], sent := false, cycles := 0, last := 0 }

/-- A drive enters SILENT and the planner hears the silence notice after the list has been cleared (R134). -/
def State.silenceDrive (s : State) (d : Fin 12) : State :=
  (s.modDrive d Drive.silenced).notice d (silenceReason d)

/-- Ring silence and soft reset: a drive that is not SILENT enters SILENT, without DRIVE_SILENT (R140, R141). -/
def State.quietDrive (s : State) (d : Fin 12) : State :=
  if s.drives[d].link = .silent then s else s.silenceDrive d

/-! ## The cycle frame at a drive (R133, R134) -/

/-- The counts of a drive on a cycle frame: every age and the cycles since the last DST counted up (R133). -/
def Drive.counted (d : Drive) : Drive :=
  { d with out := d.out.map (fun o => { o with age := countUp Config.maxCount8 o.age }),
           cycles := countUp Config.maxCount8 d.cycles }

/-- The answer timeout: the oldest record has age Nack or more (R134). -/
def Drive.answerOut (d : Drive) (nack : Nat) : Bool :=
  match d.out with
  | [] => false
  | o :: _ => nack ≤ o.age

/-- The DST timeout: the cycles since the last DST are Nack or more (R134). -/
def Drive.dstOut (d : Drive) (nack : Nat) : Bool := nack ≤ d.cycles

/-- A drive whose timeouts are tested and met: not SILENT, with either timeout (R134). -/
def Drive.timedOut (d : Drive) (nack : Nat) : Bool :=
  d.link != .silent && (d.answerOut nack || d.dstOut nack)

/-- The drive links' part of a cycle frame for one drive: the counts, then the timeouts with DRIVE_SILENT and the silence
notice (R133, R134). A drive that takes its part at a later step is tested against Nack as it stands at that step, also
when WRITE STATION has written it since the arrival: the model's choice (R38, R126, R134, log 34). -/
def State.driveCycle (s : State) (d : Fin 12) : State :=
  let s := s.modDrive d Drive.counted
  if s.drives[d].timedOut s.jobs.cfg.nack then (s.raise Event.driveSilent (detail d.val)).silenceDrive d else s

/-! ## Drive status frames (R127 to R131) -/

/-- How many records an echo acknowledges: those up to the record whose sequence number it equals (R128). -/
def ackedBy (echo : Byte) (out : List Outstanding) : Nat :=
  match out.findIdx? fun o => o.seq == echo with
  | none => 0
  | some i => i + 1

/-- The echo: covered records leave the list, and the planner hears of each, oldest first (R128). -/
def State.echo (s : State) (d : Fin 12) (echo : Byte) : State :=
  let n := ackedBy echo s.drives[d].out
  ((s.drives[d].out.take n).foldl (fun s o => s.acknowledge o.item) s).modDrive d fun x => { x with out := x.out.drop n }

/-- A faulty frame raises a flag of the drive's fault mask (R129). -/
def State.faulty (s : State) (d : Fin 12) (flags : Byte) : Bool := flags &&& s.jobs.cfg.masks[d] != 0

/-- A faulty frame sends an ANSWERING or SILENT drive to FAULTED, with DRIVE_FAULT and the fault notice (R129). -/
def State.judgeFlags (s : State) (d : Fin 12) (flags : Byte) : State :=
  if s.faulty d flags && s.drives[d].link != .faulted then
    ((s.modDrive d fun x => { x with link := .faulted }).raise Event.driveFault (detail d.val)).notice d .driveFault
  else s

/-- DRIVE_WARN, once, for flags outside the mask that are clear in the last flags (R130). -/
def State.warn (s : State) (d : Fin 12) (flags : Byte) : State :=
  if flags &&& ~~~s.jobs.cfg.masks[d] &&& ~~~s.drives[d].last != 0 then s.raise Event.driveWarn (detail d.val) else s

/-- The echo that returns a drive: any while nothing was sent since silence, else the last sequence sent (R126, R131). -/
def Drive.accepts (x : Drive) (echo : Byte) : Bool := !x.sent || echo == x.next - 1

/-- A SILENT or FAULTED drive returns to ANSWERING on a frame that is not faulty and whose echo it accepts (R131). -/
def State.recover (s : State) (d : Fin 12) (flags echo : Byte) : State :=
  if !s.faulty d flags && s.drives[d].accepts echo then s.modDrive d fun x => { x with link := .answering } else s

/-- A DST read for one drive: the five steps of section 6.2, then the last flags (R127) and the last echo (log 30). -/
def State.readDst (s : State) (d : Fin 12) (flags echo : Byte) : State :=
  let s := s.modDrive d fun x => { x with cycles := 0 }
  let s := s.echo d echo
  let s := s.judgeFlags d flags
  let s := s.warn d flags
  let s := s.recover d flags echo
  s.modDrive d fun x => { x with last := flags, lastEcho := echo }

/-! ## Sending (R132) -/

/-- A drive is eligible while it is ANSWERING and has fewer than four setpoints outstanding (R132). -/
def Drive.eligible (x : Drive) : Bool := x.link == .answering && decide (x.out.length < Config.outstandingDepth)

/-- A setpoint is sent: it takes the next sequence number and joins the list with age 0 (R132). -/
def Drive.send (x : Drive) (item : PlanItem) : Drive :=
  { x with next := x.next + 1, out := x.out ++ [{ seq := x.next, age := 0, item }], sent := true }

end Sys2Proof.Machine
end

