-- ==== Sys2Proof/Machine/Tracker.lean ====
section
/-! DEFINITION. The web tracker (chapter 1): the hand-over, the judgement of a mark, the disturbance test. The
missing-mark test stands in Cycle.lean. -/

namespace Sys2Proof.Machine

/-! ## The hand-over (R21, R23) -/

/-- The staged pitch comes into force: written into Lr of the active bank and emptied (R23). -/
def State.takePitch (s : State) : State :=
  match s.tracker.staged with
  | none => s
  | some l => (s.setActive { s.active with job := { s.active.job with lr := l } }).setTracker
      { s.tracker with staged := none }

/-- A numbered mark is handed to the planner, and a staged pitch comes into force after the planner has acted (R21,
R23). -/
def State.handOver (s : State) (h : HandOver) : State := (s.plannerTakes h).takePitch

/-! ## Prediction and window (R9, R10) -/

/-- The predicted position Mp = Mt_prev + Lr (R9). -/
def State.predicted (s : State) : Pos := s.tracker.mtPrev + len s.active.job.lr

/-- The error of a measured mark: the distance from Mp to Mm (R9). -/
def State.markError (s : State) (mm : Pos) : Int := dist s.predicted mm

/-- In the window: the error lies in -W to +W (R9). -/
def State.inWindow (s : State) (mm : Pos) : Bool := (s.markError mm).natAbs ≤ s.active.job.w

/-- The applied correction: the error clamped to -Cmax to +Cmax (R10). -/
def State.correction (s : State) (mm : Pos) : Int := clampInt (-s.active.job.cmax) s.active.job.cmax (s.markError mm)

/-! ## Marks (R8, R11 to R14, R19) -/

/-- A mark is taken: numbered, tracked at a position with a residual, the tracker moved to a state, and handed over with
that state (R20, R21). -/
def State.takeMark (s : State) (t : Tracker) (mt : Pos) (residual : Int) (synth : Bool) : State :=
  let n := s.tracker.repeatNo + 1
  (s.setTracker { t with mtPrev := mt, repeatNo := n }).handOver
    { repeatNo := n, mt, residual, mode := t.mode, synth }

/-- A mark taken while the active bank is empty: the tracker stays in UNLOCKED with lock count 0 (R8). -/
def State.markNoJob (s : State) (mm : Pos) : State :=
  s.takeMark { s.tracker with mode := .unlocked, lock := 0 } mm 0 false

/-- A mark that starts a lock (R11, R12). -/
def State.markStartsLock (s : State) (mm : Pos) : State :=
  s.takeMark { s.tracker with mode := .locking, lock := 1 } mm 0 false

/-- A mark in LOCKING within Tol of the prediction: the lock count goes up, and at 2 the tracker is LOCKED (R12). -/
def State.markLocks (s : State) (mm : Pos) : State :=
  if s.tracker.lock + 1 = 2 then
    (s.raise Event.registerLocked (s.tracker.repeatNo + 1)).takeMark { s.tracker with mode := .locked, lock := 2 } mm 0
      false
  else s.takeMark { s.tracker with lock := s.tracker.lock + 1 } mm 0 false

/-- A mark in the window in LOCKED or COASTING is corrected: tracked at Mp + c with residual e - c (R10, R13, R14). -/
def State.markCorrected (s : State) (t : Tracker) (mm : Pos) : State :=
  s.takeMark t (s.predicted + BitVec.ofInt 32 (s.correction mm)) (s.markError mm - s.correction mm) false

/-- A stray mark is counted (R19). -/
def State.markStray (s : State) : State :=
  s.setTracker { s.tracker with stray := countUp Config.maxCount16 s.tracker.stray }

/-- A mark is judged in the tracker state at its arrival (R8). -/
def State.readMark (s : State) (mm : Pos) : State :=
  if s.active.isEmpty then s.markNoJob mm
  else match s.tracker.mode with
    | .unlocked => s.markStartsLock mm
    | .locking => if s.inWindow mm && decide ((s.markError mm).natAbs ≤ s.active.job.tol) then s.markLocks mm
        else s.markStartsLock mm
    | .locked => if s.inWindow mm then s.markCorrected s.tracker mm else s.markStray
    | .coasting => if s.inWindow mm then s.markCorrected { s.tracker with mode := .locked, coast := 0 } mm
        else s.markStray

/-! ## Cycle frames (R4, R5, R6) -/

/-- What a cycle frame reports (R4, section 10.2). -/
structure CycleFrame where
  cycleNo : BitVec 16
  pos : Pos
  speed : Nat
  line : LineState
deriving DecidableEq, Repr

/-- The payload of a CYC as the tracker takes it: the speed capped and an unknown line state taken as STOP (R4). -/
def CycleFrame.ofPayload (p : List Byte) : CycleFrame :=
  { cycleNo := BitVec.ofNat 16 (field p 0 2), pos := BitVec.ofNat 32 (field p 2 4),
    speed := min Config.maxSpeed (field p 6 4), line := LineState.ofByte (byteAt p 10) }

/-- The tracker with a frame's values, the first-cycle flag cleared (R4, R5). -/
def Tracker.take (t : Tracker) (f : CycleFrame) : Tracker :=
  { t with pos := f.pos, speed := f.speed, line := f.line, cycleNo := f.cycleNo, firstCycle := false }

/-- The disturbance test: the flag clear, and a step that is negative or larger than the jump limit (R5, R6). -/
def State.disturbed (s : State) (f : CycleFrame) : Bool :=
  !s.tracker.firstCycle && (decide (dist s.tracker.pos f.pos < 0) || decide ((s.jobs.cfg.jump : Int) < dist s.tracker.pos f.pos))

/-- The tracker after a disturbance: UNLOCKED, lock and coast count 0, the prediction dropped (R6). -/
def Tracker.unlock (t : Tracker) : Tracker := { t with mode := .unlocked, lock := 0, coast := 0 }

/-- A web disturbance: the tracker enters UNLOCKED and the planner flushes on its notice (R6, R84). -/
def State.disturbance (s : State) : State := (s.setTracker s.tracker.unlock).flush .disturbance true

/-- A mark is missing: the web is at or past Mp + W (R15). -/
def State.markMissing (s : State) : Bool := atOrPast s.tracker.pos (s.predicted + len s.active.job.w)

/-- The coast count after a synthesis: 1 from LOCKED, one more in COASTING (R15). -/
def Tracker.coastNext (t : Tracker) : Nat := if t.mode = .locked then 1 else t.coast + 1

/-- A mark is synthesized at the prediction (R16), with MARK_MISSED and COASTING while the coast count stays below
Ncoast (R15), with REGISTER_LOST and UNLOCKED when it reaches it (R17). -/
def State.synthesize (s : State) : State :=
  let c := s.tracker.coastNext
  if c < s.active.job.ncoast then
    (s.raise Event.markMissed (detail c)).takeMark { s.tracker with mode := .coasting, coast := c } s.predicted 0 true
  else
    (s.raise Event.registerLost (s.tracker.repeatNo + 1)).takeMark { s.tracker with mode := .unlocked, coast := 0 }
      s.predicted 0 true

end Sys2Proof.Machine
end

