-- ==== Sys2Proof/Machine/Cycle.lean ====
section
/-! DEFINITION. A valid cycle frame at all the blocks: the tracker and the planner in their fixed order, and the units
that may be taken before, between or after their acts (R75, R120, R136, log 1), or be left to a step of their own
(log 2). -/

namespace Sys2Proof.Machine

/-! ## The units of a cycle frame -/

/-- The units that count a cycle frame on their own: every cassette and every drive (R115, R133). -/
def countingUnits : List CycUnit := lanes8.map .cassette ++ drives12.map .drive

/-- What a unit does with a cycle frame: the planner makes its whole pass, a cassette counts and tests, a drive counts
and tests. -/
def State.unitPart (s : State) : CycUnit → State
  | .planner => s.tests.foldl State.planTest s
  | .cassette c => s.cassetteCycle c
  | .drive d => s.driveCycle d

/-- A unit that has still to take its part takes it; another one has nothing to do. -/
def State.takeUnit (s : State) (u : CycUnit) : State :=
  if u ∈ s.cycDue then (s.setCycDue (s.cycDue.filter (· != u))).unitPart u else s

/-- Units take their part one after another. -/
def State.takeUnits (s : State) (us : List CycUnit) : State := us.foldl State.takeUnit s

/-- Every unit that has still to take its part of the last cycle frame takes it (log 2). -/
def State.settle (s : State) : State := s.takeUnits s.cycDue

/-- The planner takes its part of the last cycle frame, when it has still to (R66, log 2). -/
def State.settlePlanner (s : State) : State := s.takeUnit .planner

/-! ## Points between the acts -/

/-- The points that are left, and the state. -/
abbrev Thread := List (List CycUnit) × State

/-- At a point of the thread of acts, the units of its first list take their part. -/
def atPoint (t : Thread) : Thread := (t.1.drop 1, t.2.takeUnits (t.1.headD []))

/-- The missing-mark test, made again after each synthesis while the tracker is LOCKED or COASTING (R15). Where the
hand-over of one synthesis takes a changeover, the next test of the same arrival reads the new Lr, W and Ncoast: the
model's choice between "from the moment it is taken" and "at its next arrival" (R24, R42, log 32). -/
def missingMarks : Nat → Thread → Thread
  | 0, t => t
  | n + 1, t =>
    if t.2.markMissing = false then t
    else match t.2.tracker.mode with
      | .unlocked => t
      | .locking => (t.1, t.2.setTracker { t.2.tracker with mode := .unlocked, lock := 0 })
      | .locked => missingMarks n (atPoint (t.1, t.2.synthesize))
      | .coasting => missingMarks n (atPoint (t.1, t.2.synthesize))

/-- The planner's pass with a point before each of its tests (R73, R75). -/
def testsAtPoints (ts : List PlanTest) (t : Thread) : Thread :=
  ts.foldl (fun t k => ((atPoint t).1, (atPoint t).2.planTest k)) t

/-- The planner's pass within the arrival, unless it has been made or is left to its own step. -/
def plannerAtPoints (own : List CycUnit) (t : Thread) : Thread :=
  if .planner ∈ t.2.cycDue ∧ .planner ∉ own then
    testsAtPoints t.2.tests (t.1, t.2.setCycDue (t.2.cycDue.filter (· != .planner)))
  else t

/-! ## The arrival -/

/-- The ring port and the report unit on a valid cycle frame: the timer restarts, a window of six slots opens (R150,
R156), and the ring-silent flag is cleared (R168). Every counting unit has its part to take. -/
def State.openCycle (s : State) : State :=
  ((s.setPort { s.port with timerOn := true, window := Config.windowSlots }).setReport
    { s.report with ringSilent := false }).setCycDue countingUnits

/-- The tracker takes the frame: the disturbance with its flush, or the missing-mark test (R4 to R6, R15). -/
def trackerTakes (f : CycleFrame) (t : Thread) : Thread :=
  let s := t.2.setTracker (t.2.tracker.take f)
  if t.2.disturbed f then (t.1, s.disturbance) else missingMarks Config.maxSynth (t.1, s)

/-- The planner has its tests to make once the tracker has taken the frame (R66, R84). -/
def plannerDue (t : Thread) : Thread := (t.1, t.2.setCycDue (t.2.cycDue ++ [.planner]))

/-- The units that are not left to a step of their own take the rest of the arrival. -/
def State.takeRest (s : State) (own : List CycUnit) : State := s.takeUnits (s.cycDue.filter (· ∉ own))

/-- A valid cycle frame (R4 to R6, R15, R66, R73, R115, R133, R150), its order as given. What the previous cycle frame
left to be taken is taken first. -/
def State.readCycle (s : State) (o : TakeOrder) (f : CycleFrame) : State :=
  let t := atPoint (o.points, s.settle.openCycle)
  let t := atPoint (plannerDue (trackerTakes f t))
  (plannerAtPoints o.own t).2.takeRest o.own

end Sys2Proof.Machine
end

