-- ==== Sys2Proof/Machine/RingPort.lean ====
section
/-! DEFINITION. The ring port's receive side (section 7.1, chapter 10): the bytes of a frame, its check, the receive check
and the disposition of an arriving frame. -/

namespace Sys2Proof.Machine

/-! ## The check (R143) -/

/-- One bit of the CRC-16: polynomial x^16 + x^12 + x^5 + 1, most significant bit first (R143). -/
def crcBit (c : BitVec 16) : BitVec 16 := if c.msb then (c <<< 1) ^^^ 0x1021 else c <<< 1

/-- One byte of the CRC-16. -/
def crcByte (c : BitVec 16) (b : Byte) : BitVec 16 :=
  let x := c ^^^ (b.setWidth 16 <<< 8)
  crcBit (crcBit (crcBit (crcBit (crcBit (crcBit (crcBit (crcBit x)))))))

/-- The CRC-16 of bytes, from all ones, with no final inversion (R143). -/
def crc16 (bs : List Byte) : BitVec 16 := bs.foldl crcByte 0xFFFF

/-- The check as sent, most significant byte first (section 10.1). -/
def crcBytes (bs : List Byte) : List Byte := be 2 (crc16 bs).toNat

/-! ## Frames (section 10.1) -/

/-- A frame by its fields; the payload length field and the check follow from them. -/
structure Frame where
  kind : Byte
  h : Header
  payload : List Byte
deriving DecidableEq, Repr

def Frame.cyc : Byte := 0x01
def Frame.mrk : Byte := 0x02
def Frame.tmp : Byte := 0x03
def Frame.dst : Byte := 0x04
def Frame.phs : Byte := 0x10
def Frame.fmv : Byte := 0x11
def Frame.rpt : Byte := 0x12
def Frame.atn : Byte := 0x13
def Frame.mgq : Byte := 0x20
def Frame.mga : Byte := 0x21

/-- Header and payload, over which the check is computed. -/
def Frame.body (f : Frame) : List Byte :=
  [f.kind, f.h.dest, f.h.src, f.h.flags, byte f.payload.length, f.h.tag, f.h.rsvHi, f.h.rsvLo] ++ f.payload

/-- The bytes of a frame, with the right length field and the right check. -/
def Frame.bytes (f : Frame) : List Byte := f.body ++ crcBytes f.body

/-- The class of a damaged frame (R143), coded in section 10.3. -/
inductive Damage where
  | check | length
deriving DecidableEq, Repr

def Damage.code : Damage → BitVec 32
  | .check => 1 | .length => 2

/-- A frame read from a header and a payload. -/
def frameOfBody : List Byte → Option (Frame × Byte)
  | k :: d :: s :: fl :: n :: tag :: r1 :: r2 :: payload =>
    some ({ kind := k, h := { dest := d, src := s, flags := fl, tag, rsvHi := r1, rsvLo := r2 }, payload }, n)
  | _ => none

/-- The receive check: size, check, length field, and the first that fails gives the class (R143). -/
def receive (raw : List Byte) : Except Damage Frame :=
  if raw.length < 10 ∨ 74 < raw.length then .error .length
  else
    let body := raw.take (raw.length - 2)
    if raw.drop (raw.length - 2) ≠ crcBytes body then .error .check
    else match frameOfBody body with
      | none => .error .length
      | some (f, n) => if n.toNat = f.payload.length ∧ n.toNat ≤ 64 then .ok f else .error .length

/-- The receive check of a frame whose length field and check are right: only its size can fail (R143). -/
def Frame.received (f : Frame) : Except Damage Frame := if f.payload.length ≤ 64 then .ok f else .error .length

/-! ## What the port does with a frame -/

/-- A frame leaves on the downstream link (R148). -/
def State.forward (s : State) (raw : List Byte) : State := s.setPort { s.port with down := s.port.down ++ [raw] }

/-- A damaged or short frame is discarded and counted, and FRAME_ERROR is raised with its class (R143, R144). -/
def State.frameError (s : State) (d : Damage) : State :=
  (s.setPort { s.port with damaged := countUp Config.maxCount16 s.port.damaged }).raise Event.frameError d.code

/-- The least payload of a kind the part reads or consumes (section 10.2). -/
def leastPayload (kind : Byte) : Nat :=
  if kind = Frame.cyc then 11 else if kind = Frame.mrk then 6 else if kind = Frame.tmp then 3
  else if kind = Frame.dst then 2 else if kind = Frame.mgq then 4 else 0

/-- The cassettes whose heater station is a source (R111). -/
def StationCfg.cassettesOf (c : StationCfg) (src : Byte) : List (Fin 8) :=
  lanes8.filter fun k => c.heaters[k] == some src

/-- The drives whose drive station is a source (R127). -/
def StationCfg.drivesOf (c : StationCfg) (src : Byte) : List (Fin 12) :=
  drives12.filter fun d => c.driveStations[d] == some src

/-- Whether a frame is read, by its kind and source against the station map (R146). -/
def isRead (c : StationCfg) (f : Frame) : Bool :=
  if f.kind = Frame.cyc then f.h.src == 63
  else if f.kind = Frame.mrk then c.sensor == some f.h.src
  else if f.kind = Frame.tmp then !(c.cassettesOf f.h.src).isEmpty
  else if f.kind = Frame.dst then !(c.drivesOf f.h.src).isEmpty
  else false

/-- BOUNCED, bit 0 of the flags (section 10.1). -/
def Frame.bounced (f : Frame) : Bool := f.h.flags.getLsbD 0

/-- An MGQ addressed to the part with BOUNCED clear (R145). -/
def isRequest (own : Byte) (f : Frame) : Bool := f.kind == Frame.mgq && f.h.dest == own && !f.bounced

/-- How the port disposes of a frame that passed the receive check (R144, R145, R147). -/
inductive Disposition where
  | short | removed | consumed | bounced | readOn | forwarded
deriving DecidableEq, Repr

/-- The disposition of a frame (R144 before R145, log 25; R145, R146, R147). -/
def State.disposition (s : State) (own : Byte) (f : Frame) : Disposition :=
  if (isRead s.jobs.cfg f || isRequest own f) && decide (f.payload.length < leastPayload f.kind) then .short
  else if f.h.src = own then .removed
  else if isRequest own f then
    if s.answers.length < Config.answerDepth then .consumed else .bounced
  else if isRead s.jobs.cfg f then .readOn
  else .forwarded

/-- The frame as it is bounced: the BOUNCED flag set and nothing else (R147, R180). -/
def Frame.bounce (f : Frame) : Frame := { f with h := { f.h with flags := f.h.flags ||| 1 } }

/-! ## Requests -/

/-- The payload fields of an MGQ after its request code (section 10.2). -/
def reqOfPayload (p : List Byte) : Req :=
  { bank := byteAt p 1, table := byteAt p 2, index := byteAt p 3, data := p.drop 4 }

/-- The payload of an MGQ. -/
def reqPayload (q : Req) (code : Byte) : List Byte := code :: q.bank :: q.table :: q.index :: q.data

/-- What an owning rule answers: a status and the data returned (R159). -/
structure Reply where
  status : Status
  data : List Byte
deriving DecidableEq, Repr

/-- What a request does to the state, and its reply (R159). -/
abbrev Act := Req → State → State × Reply

/-- One answer joins the answer list (R159, R160). -/
def State.answer (s : State) (f : Frame) (code : Byte) (r : Reply) : State :=
  s.setAnswers (s.answers ++ [{ dest := f.h.src, tag := f.h.tag, code, status := r.status, data := r.data }])

/-- A consumed request: its effect, then its answer (R159). -/
def State.consume (s : State) (f : Frame) (act : Byte → Act) : State :=
  let r := act (byteAt f.payload 0) (reqOfPayload f.payload) s
  r.1.answer f (byteAt f.payload 0) r.2

/-! ## Arrival -/

/-- A frame that passed the receive check, at a part that is not in through-only state (R145). -/
def State.dispose (s : State) (own : Byte) (raw : List Byte) (f : Frame) (read : Frame → State → State)
    (act : Byte → Act) : State :=
  match s.disposition own f with
  | .short => s.frameError .length
  | .removed => s
  | .consumed => s.consume f act
  | .bounced => s.forward f.bounce.bytes
  | .readOn => read f (s.forward raw)
  | .forwarded => s.forward raw

/-- An arriving frame: lost while the reset input is asserted (R148, log 10), forwarded unchanged in through-only state
(R149), else judged (R143, R145). -/
def State.arrive (s : State) (raw : List Byte) (rc : Except Damage Frame) (read : Frame → State → State)
    (act : Byte → Act) : State :=
  if s.port.resetIn then s
  else match s.port.station with
    | none => s.forward raw
    | some own => match rc with
      | .error d => s.frameError d
      | .ok f => s.dispose own raw f read act

end Sys2Proof.Machine
end

