-- ==== Sys2Proof/Machine/Requests.lean ====
section
/-! DEFINITION. The management requests (chapter 8), each by its owning rule: what it does to the state and what it
answers. -/

namespace Sys2Proof.Machine

/-- A reply without data. -/
def Reply.of (st : Status) : Reply := { status := st, data := [] }

/-- DONE with data returned. -/
def Reply.done (data : List Byte) : Reply := { status := .done, data }

/-- A reply without data and no change of state. -/
def reply (s : State) (st : Status) : State × Reply := (s, .of st)

/-- The second test of R161: a request whose data stop before the end of what its code reads is answered BAD_VALUE. -/
def needData (n : Nat) (act : Act) : Act := fun q s => if q.data.length < n then reply s .badValue else act q s

/-- The lane, foil web, kind or entry that the index field names. -/
def reqNumber (q : Req) (n : Nat) : Option (Fin n) := finOf n q.index.toNat

/-! ## Writing the standby bank (R29 to R33) -/

/-- The bank selector STANDBY (section 10.2). -/
def standbySelector : Byte := 1

/-- The tests of R29 in their order, for a table of n entries: armed, bank selector, entry number, fields. -/
def writeStandby (n : Nat) {α : Type} (decode : List Byte → Option α) (write : Fin n → α → Bank → Bank)
    (status : List Byte → Status) : Act := fun q s =>
  if s.jobs.arm.isSome then reply s .armed
  else if q.bank ≠ standbySelector then reply s .badValue
  else match reqNumber q n with
    | none => reply s .badIndex
    | some i => match decode q.data with
      | none => reply s .badValue
      | some v => reply (s.setStandby (write i v s.standby)) (status q.data)

/-- The answer of a write that clamps nothing. -/
def alwaysDone (_ : List Byte) : Status := .done

/-- WRITE DESIGN (R30). -/
def actWriteDesign : Act := fun q s =>
  needData (recordNeed 12 q.data)
    (writeStandby 64 decodeDesign (fun i v b => { b with designs := b.designs.set i v }) alwaysDone) q s

/-- The answer of WRITE LANE: CLAMPED when the trim was brought into its range (R31). -/
def laneStatus (d : List Byte) : Status :=
  if sfield d 5 2 < -1000 ∨ 1000 < sfield d 5 2 then .clamped else .done

/-- WRITE LANE (R31). -/
def actWriteLane : Act :=
  needData 16 (writeStandby 8 decodeLane (fun i v b => { b with lanes := b.lanes.set i v }) laneStatus)

/-- WRITE SEQUENCE (R32). -/
def actWriteSequence : Act :=
  needData 1 (writeStandby 128 decodeSequence (fun i v b => { b with seq := b.seq.set i v }) alwaysDone)

/-- WRITE FOIL MAP (R32). -/
def actWriteFoilMap : Act := fun q s =>
  needData (recordNeed 11 q.data)
    (writeStandby 4 decodeFoil (fun i v b => { b with foil := b.foil.set i v }) alwaysDone) q s

/-- WRITE JOB, which ignores the entry number (R29, R33). -/
def actWriteJob : Act :=
  needData 15 fun q s =>
    if s.jobs.arm.isSome then reply s .armed
    else if q.bank ≠ standbySelector then reply s .badValue
    else match decodeJob q.data with
      | none => reply s .badValue
      | some j => reply (s.setStandby { s.standby with job := j }) .done

/-! ## READ (R39) -/

/-- The table codes of READ (section 10.4). -/
def Table.design : Byte := 0
def Table.lane : Byte := 1
def Table.sequence : Byte := 2
def Table.foilMap : Byte := 3
def Table.job : Byte := 4
def Table.station : Byte := 5

/-- The entry of a bank's table as written (R39): none refuses the entry number. The job parameters are one entry,
number 0 (log 17). -/
def Bank.readEntry (b : Bank) (table : Byte) (q : Req) : Option (List Byte) :=
  if table = Table.design then (reqNumber q 64).map fun i => encodeDesign b.designs[i]
  else if table = Table.lane then (reqNumber q 8).map fun i => encodeLane b.lanes[i]
  else if table = Table.sequence then (reqNumber q 128).map fun i => [optByte b.seq[i]]
  else if table = Table.foilMap then (reqNumber q 4).map fun i => encodeFoil b.foil[i]
  else (reqNumber q 1).map fun _ => encodeJob b.job

/-- The number of the bank a selector names: ACTIVE 0, STANDBY 1, none for any other value (R161). -/
def Jobs.selected (j : Jobs) (sel : Byte) : Option (Fin 2) :=
  if sel = 0 then some j.active else if sel = 1 then some j.standbyNo else none

/-- A free value is drawn. -/
def State.drawFree (s : State) (n : Nat) : State := s.setFreeCount (s.freeCount + n)

/-- READ of a bank's table: selector, table, entry number, in this order (R39, R161). -/
def readBank (q : Req) (s : State) : State × Reply :=
  match s.jobs.selected q.bank with
  | none => reply s .badValue
  | some n =>
    if Table.job.toNat < q.table.toNat then reply s .badValue
    else match s.jobs.banks[n].readEntry q.table q with
      | none => reply s .badIndex
      | some e => (s, .done ([byte n.val, q.index] ++ e))

/-- READ of the station configuration, for which the bank selector is not read; its bank byte is a free value (R39,
log 11). -/
def readStation (q : Req) (s : State) : State × Reply :=
  match Item.ofNat q.index.toNat with
  | none => reply s .badIndex
  | some i => (s.drawFree 1, .done ([Config.freeByte s.freeCount, q.index] ++ s.jobs.cfg.encode i))

/-- READ (R39). -/
def actRead : Act := fun q s => if q.table = Table.station then readStation q s else readBank q s

/-! ## WRITE STATION (R37) -/

/-- The data an item reads; an item number that names no item reads none (log 19). -/
def stationNeed (q : Req) : Nat := ((Item.ofNat q.index.toNat).map Item.need).getD 0

/-- WRITE STATION (R37). -/
def actWriteStation : Act := fun q s =>
  needData (stationNeed q) (fun q s =>
    if s.planner.st = .stamping ∨ s.planner.st = .draining then reply s .busy
    else match Item.ofNat q.index.toNat with
      | none => reply s .badIndex
      | some i => match s.jobs.cfg.write i q.data with
        | none => reply s .badValue
        | some c => reply (s.setJobs { s.jobs with cfg := c }) .done) q s

/-! ## Changeover (R41, R43, R46, R47, R48) -/

/-- INVALID with the check number and the index (section 10.3). -/
def Reply.invalid (f : Nat × Nat) : Reply := { status := .invalid, data := [byte f.1, byte f.2] }

/-- The target of ARM CHANGEOVER: selector 0 a repeat number, 1 NEXT (section 10.4, R181). -/
def decodeTarget (d : List Byte) : Option Target :=
  if byteAt d 0 = 0 then some (.atRepeat (BitVec.ofNat 32 (field d 1 4)))
  else if byteAt d 0 = 1 then some .next
  else none

/-- A changeover taken at once by ARM CHANGEOVER: IDLE enters READY, READY stays (R41, R43). -/
def State.takeNow (s : State) : State :=
  s.takeChangeover.setPlanner { s.takeChangeover.planner with st := .ready }

/-- ARM CHANGEOVER's effect on a valid standby bank (R41). -/
def State.armChangeover (s : State) (t : Target) : State :=
  match s.planner.st with
  | .idle => s.takeNow
  | .ready => s.takeNow
  | .stamping => s.setJobs { s.jobs with arm := some t }
  | .draining => s.setJobs { s.jobs with arm := some t }

/-- ARM CHANGEOVER (R41). Its five data bytes are read whatever the selector (log 18). -/
def actArmChangeover : Act :=
  needData 5 fun q s =>
    match decodeTarget q.data with
    | none => reply s .badValue
    | some t => match s.standby.validate s.jobs.cfg with
      | some f => (s, .invalid f)
      | none => reply (s.armChangeover t) .done

/-- CANCEL CHANGEOVER (R46). -/
def actCancelChangeover : Act := fun _ s =>
  if s.jobs.arm.isSome then reply (s.setJobs { s.jobs with arm := none }) .done else reply s .notArmed

/-- COPY ACTIVE TO STANDBY (R47). -/
def actCopyActive : Act := fun _ s =>
  if s.jobs.arm.isSome then reply s .armed else reply (s.setStandby s.active) .done

/-- CLEAR STANDBY (R48). -/
def actClearStandby : Act := fun _ s =>
  if s.jobs.arm.isSome then reply s .armed else reply (s.setStandby Bank.cleared) .done

/-! ## START and STOP (R53, R54) -/

/-- The planner put into a state. -/
def State.setPlannerState (s : State) (p : PlannerState) : State := s.setPlanner { s.planner with st := p }

/-- START in READY or DRAINING: the active bank revalidated, then STAMPING (R53). -/
def startFrom (s : State) : State × Reply :=
  match s.active.validate s.jobs.cfg with
  | some f => (s, .invalid f)
  | none => reply (s.setPlannerState .stamping) .done

/-- START (R53). -/
def actStart : Act := fun _ s =>
  match s.planner.st with
  | .idle => reply s .noJob
  | .ready => startFrom s
  | .draining => startFrom s
  | .stamping => reply s .done

/-- STOP: STAMPING enters DRAINING, and READY follows at once when the queue is empty (R54, R55). -/
def actStop : Act := fun _ s =>
  match s.planner.st with
  | .stamping => reply (s.setPlannerState .draining).drainCheck .done
  | .draining => reply s .done
  | .ready => reply s .done
  | .idle => reply s .done

/-! ## Live fields of the active bank (R22, R34, R35) -/

/-- A request on a lane of the active bank: NO_JOB when it is empty, BAD_INDEX past lane 7 (R34, R35). -/
def onActiveLane (q : Req) (s : State) (act : Fin 8 → State × Reply) : State × Reply :=
  if s.active.isEmpty then reply s .noJob
  else match reqNumber q 8 with
    | none => reply s .badIndex
    | some l => act l

/-- The hold flag of a lane of the active bank written (R34). -/
def State.setHold (s : State) (l : Fin 8) (on : Bool) : State :=
  s.setActive (s.active.modLane l fun x => { x with hold := on })

/-- HOLD LANE (R34). -/
def actHoldLane : Act := fun q s => onActiveLane q s fun l => reply (s.setHold l true) .done

/-- RELEASE LANE (R34). -/
def actReleaseLane : Act := fun q s => onActiveLane q s fun l => reply (s.setHold l false) .done

/-- DONE, or CLAMPED when a value was brought into its range (R3). -/
def clampStatus (clamped : Bool) : Status := if clamped then .clamped else .done

/-- SET TRIM (R35). -/
def actSetTrim : Act :=
  needData 2 fun q s => onActiveLane q s fun l =>
    let t := sfield q.data 0 2
    reply (s.setActive (s.active.modLane l fun x => { x with trim := clampInt (-1000) 1000 t }))
      (clampStatus (decide (t < -1000 ∨ 1000 < t)))

/-- SET PITCH (R22). -/
def actSetPitch : Act :=
  needData 4 fun q s =>
    if s.active.isEmpty then reply s .noJob
    else
      let l := field q.data 0 4
      reply (s.setTracker { s.tracker with staged := some (min 200000 (max 2000 l)) })
        (clampStatus (decide (l < 2000 ∨ 200000 < l)))

/-! ## LOAD FOIL (R104) -/

/-- LOAD FOIL (R104). -/
def actLoadFoil : Act :=
  needData 4 fun q s =>
    match reqNumber q 4 with
    | none => reply s .badIndex
    | some f =>
      let n := field q.data 0 4
      if s.active.foil[f].isNone then reply s .badIndex
      else if Config.maxFoil < n then reply s .badValue
      else reply ((s.modFoil f fun a => { a with remaining := max n a.reserved }).loadTest f)
        (clampStatus (decide (n < s.foil[f].reserved)))

/-! ## Attention requests (R174, R176, R177) -/

/-- EVENT ENABLE and EVENT DISABLE: the named kinds' flags written, the enable set answered (R174). -/
def writeEnables (on : Bool) : Act :=
  needData 3 fun q s =>
    let a := s.attention.setEnables (field q.data 0 3) on
    (s.setAttention a, .done (be 3 a.enableSet))

/-- EVENT ENABLE (R174). -/
def actEventEnable : Act := writeEnables true

/-- EVENT DISABLE (R174). -/
def actEventDisable : Act := writeEnables false

/-- SET LEVEL (R174). -/
def actSetLevel : Act :=
  needData 1 fun q s =>
    match reqNumber q 18 with
    | none => reply s .badIndex
    | some k => match finOf 8 (byteAt q.data 0).toNat with
      | none => reply s .badValue
      | some l => reply (s.setAttention (s.attention.modCell k fun c => { c with level := l }).select) .done

/-- ACK EVENT (R176). -/
def actAckEvent : Act := fun q s =>
  match reqNumber q 18 with
  | none => reply s .badIndex
  | some k =>
    if s.attention.inService k || s.attention.kinds[k].pending then
      reply (s.setAttention (s.attention.acknowledge k)) .done
    else reply s .notPending

/-- The 6-byte group of a kind: kind in bits 0 to 4 with a level in bits 5 to 7, detail, count (section 10.4). -/
def Attention.group (a : Attention) (k : Fin 18) (level : Fin 8) : List Byte :=
  [byte (k.val + 32 * level.val)] ++ be 4 a.kinds[k].detail.toNat ++ [byte a.kinds[k].count]

/-- Members of a set taken one after another in an order the free values give (log 13). -/
def freeOrder {α : Type} : Nat → Nat → List α → List α
  | 0, _, xs => xs
  | _ + 1, _, [] => []
  | _ + 1, _, [x] => [x]
  | n + 1, i, x :: y :: xs =>
    let l := x :: y :: xs
    let j := Config.freeIndex i % l.length
    (l.drop j).take 1 ++ freeOrder n (i + 1) (l.take j ++ l.drop (j + 1))

/-- The winner's group of a POLL EVENTS answer; when there is none its first byte is 0xFF and the other five are free
values (R177, log 12). -/
def State.winnerGroup (s : State) : List Byte :=
  match s.attention.winner with
  | none => absent :: (List.range 5).map fun i => Config.freeByte (s.freeCount + i)
  | some k => s.attention.group k s.attention.kinds[k].level

/-- The in-service groups of a POLL EVENTS answer, in a free order (R177, log 13). -/
def State.serviceGroups (s : State) : List Byte :=
  (freeOrder s.attention.service.length (s.freeCount + 5) s.attention.service).flatMap fun m => s.attention.group m.1 m.2

/-- POLL EVENTS (R177). -/
def actPollEvents : Act := fun _ s =>
  (s.drawFree (5 + s.attention.service.length),
   .done (s.winnerGroup ++ [optByte s.attention.waiting] ++ s.serviceGroups))

/-! ## Log and watch requests (R170, R172) -/

/-- FETCH LOG (R170). -/
def actFetchLog : Act :=
  needData 1 fun q s =>
    let n := (byteAt q.data 0).toNat
    if 4 < n then reply s .badValue
    else
      let rest := s.report.log.drop n
      (s.setReport { s.report with log := rest },
       .done (be 2 rest.length ++ (s.report.log.take n).flatMap LogRecord.encode))

/-- SET WATCH (R172). -/
def actSetWatch : Act :=
  needData 8 fun q s =>
    match reqNumber q 4 with
    | none => reply s .badIndex
    | some i => match decodeWatch q.data with
      | none => reply s .badValue
      | some w => reply (s.setReport { s.report with watch := s.report.watch.set i w }) .done

/-! ## SNAPSHOT (R162, R163) and IDENTIFY (R164) -/

/-- The arm state and its target (section 10.5). -/
def armBytes : Option Target → List Byte
  | none => 0 :: be 4 0
  | some (.atRepeat n) => 1 :: be 4 n.toNat
  | some .next => 2 :: be 4 0

/-- SNAPSHOT PART 1 (section 10.5). -/
def State.snapshot1 (s : State) : List Byte :=
  be 4 s.tracker.pos.toNat ++ be 4 s.tracker.speed ++ [s.tracker.line.code] ++ be 2 s.tracker.cycleNo.toNat
    ++ [s.tracker.mode.code] ++ be 4 s.tracker.repeatNo.toNat ++ be 2 s.tracker.stray
    ++ [s.planner.st.code, byte s.planner.queue.length, byte s.jobs.active.val] ++ armBytes s.jobs.arm
    ++ webs4.flatMap (fun f => be 4 s.foil[f].remaining) ++ webs4.flatMap (fun f => be 4 s.foil[f].reserved)

/-- The lanes of a group: 0 to 3 LOW, 4 to 7 HIGH (R162). -/
def groupLanes (high : Bool) : List (Fin 8) := if high then [4, 5, 6, 7] else [0, 1, 2, 3]

/-- Two cassettes' heat states in one byte, the even cassette in bits 0 to 3 (section 10.5). -/
def State.heatByte (s : State) (even odd : Fin 8) : Byte :=
  byte (s.cassettes[even].heat.code + 16 * s.cassettes[odd].heat.code)

/-- Four drives' link states in one byte, two bits each from bit 0 (section 10.5). -/
def State.linkByte (s : State) (a b c d : Fin 12) : Byte :=
  byte (s.drives[a].link.code + 4 * s.drives[b].link.code + 16 * s.drives[c].link.code + 64 * s.drives[d].link.code)

/-- SNAPSHOT PART 2 (section 10.5); the code of its lane group is a free value (log 14). -/
def State.snapshot2 (s : State) (high : Bool) : List Byte :=
  be 2 s.tracker.cycleNo.toNat ++ [Config.groupCode high]
    ++ (groupLanes high).flatMap (fun l => be 4 s.planner.stamped[l] ++ be 4 s.planner.rejected[l])
    ++ webs4.flatMap (fun f => be 4 s.foil[f].saved)
    ++ [s.heatByte 0 1, s.heatByte 2 3, s.heatByte 4 5, s.heatByte 6 7]
    ++ [s.linkByte 0 1 2 3, s.linkByte 4 5 6 7, s.linkByte 8 9 10 11]
    ++ be 2 s.port.damaged ++ be 2 s.report.log.length

/-- SNAPSHOT (R162). -/
def actSnapshot : Act :=
  needData 1 fun q s =>
    if byteAt q.data 0 = 0 then (s, .done s.snapshot1)
    else if byteAt q.data 0 = 1 then (s, .done (s.snapshot2 false))
    else if byteAt q.data 0 = 2 then (s, .done (s.snapshot2 true))
    else reply s .badValue

/-- IDENTIFY: vendor 0x45, part 0x0208, revision 3, own station (R164). A part that consumes a request has a station
number; the byte of one that has none is never sent. -/
def actIdentify : Act := fun _ s => (s, .done [0x45, 0x02, 0x08, 3, s.port.station.getD 0])

/-! ## SOFT RESET (R165) -/

/-- The web tracker after a soft reset (R26): the position, the last cycle number and the last mark kept. -/
def Tracker.softReset (t : Tracker) : Tracker :=
  { t with speed := 0, line := .stop, firstCycle := true, mode := .unlocked, lock := 0, coast := 0, stray := 0,
           repeatNo := 0, staged := none }

/-- The drives whose silence the planner hears before the flush, the flush, the other drives (R85, R86, log 1). -/
def State.quietAndFlush (s : State) (first : List (Fin 12)) (cause : FlushCause) : State :=
  drives12.foldl State.quietDrive ((first.foldl State.quietDrive s).flush cause false)

/-- The planner state after a soft reset: READY when the active bank holds a job, else IDLE (R86, R87). -/
def State.plannerAfterReset (s : State) : State := s.setPlannerState (if s.active.isEmpty then .idle else .ready)

/-- A soft reset in every block (R165): the attention unit and the arm cleared first (R178, R43, log 21), then the
tracker, the drives and the flush in the open order, the planner, the cassettes. -/
def State.softReset (s : State) (o : TakeOrder) : State :=
  let s := s.settle
  let s := (s.setAttention s.attention.softCleared).setJobs { s.jobs with arm := none }
  let s := (s.setTracker s.tracker.softReset).quietAndFlush o.drives .softReset
  s.plannerAfterReset.setCassettes (Vector.replicate 8 Cassette.afterReset)

/-- SOFT RESET (R165). -/
def actSoftReset (o : TakeOrder) : Act := fun _ s => reply (s.softReset o) .done

/-! ## Unknown codes (R161) and the dispatch of a request code (section 10.4) -/

/-- A code the part does not know is answered BAD_REQUEST (R161). -/
def actUnknown : Act := fun _ s => reply s .badRequest

/-- The acts by request code, 0x01 to 0x1C in order (section 10.4). -/
def actTable (o : TakeOrder) : List Act :=
  [actWriteDesign, actWriteLane, actWriteSequence, actWriteFoilMap, actWriteJob, actRead, actWriteStation,
   actArmChangeover] ++
  [actCancelChangeover, actCopyActive, actClearStandby, actStart, actStop, actHoldLane, actReleaseLane,
   actSetTrim, actSetPitch, actLoadFoil] ++
  [actEventEnable, actEventDisable, actSetLevel, actAckEvent, actPollEvents, actFetchLog, actSetWatch,
   actSnapshot, actIdentify, actSoftReset o]

/-- The act of a request code; code 0 and codes above 0x1C are unknown (section 10.4, R161). -/
def actOf (o : TakeOrder) (code : Byte) : Act :=
  if code = 0 then actUnknown else ((actTable o)[code.toNat - 1]?).getD actUnknown

end Sys2Proof.Machine
end

