-- ==== Sys2Proof/Machine/Arrivals.lean ====
section
/-! DEFINITION. Frame arrivals (R143 to R148): CYC_ARRIVAL, MRK_ARRIVAL, TMP_ARRIVAL, DST_ARRIVAL and FRAME_ARRIVAL. -/

namespace Sys2Proof.Machine

/-! ## The readers of a frame (R146) -/

/-- Members of a list taken in a wished order, the members the order does not name after it in their own order. -/
def takeInOrder {α : Type} [BEq α] : List α → List α → List α
  | [], rest => rest
  | x :: xs, rest => if rest.contains x then x :: takeInOrder xs (rest.erase x) else takeInOrder xs rest

/-- A CYC read (R4). -/
def State.readCyc (o : TakeOrder) (f : Frame) (s : State) : State := s.readCycle o (CycleFrame.ofPayload f.payload)

/-- A MRK read; the sensor count is not used (R8). The planner has made the tests of the last cycle frame (R66). -/
def State.readMrk (f : Frame) (s : State) : State := s.settlePlanner.readMark (BitVec.ofNat 32 (field f.payload 0 4))

/-- A TMP read for every cassette whose heater station is its source, in an open order (R111, R112). -/
def State.readTemperature (o : TakeOrder) (f : Frame) (s : State) : State :=
  (takeInOrder o.cassettes (s.jobs.cfg.cassettesOf f.h.src)).foldl
    (fun s c => s.readTmp c (sfield f.payload 0 2) ((byteAt f.payload 2).getLsbD 0)) s

/-- A DST read for every drive whose drive station is its source, in an open order (R127). -/
def State.readStatus (o : TakeOrder) (f : Frame) (s : State) : State :=
  (takeInOrder o.drives (s.jobs.cfg.drivesOf f.h.src)).foldl
    (fun s d => s.readDst d (byteAt f.payload 0) (byteAt f.payload 1)) s

/-- A frame read, by its kind (R146). -/
def State.readFrame (o : TakeOrder) (f : Frame) (s : State) : State :=
  if f.kind = Frame.cyc then s.readCyc o f
  else if f.kind = Frame.mrk then s.readMrk f
  else if f.kind = Frame.tmp then s.readTemperature o f
  else if f.kind = Frame.dst then s.readStatus o f
  else s

/-! ## The commands -/

/-- A frame whose length field and check are right arrives, with its reader. Only an MGQ is consumed, and none of the
kinds that are read is one. -/
def State.arriveRead (s : State) (f : Frame) (read : Frame → State → State) : State :=
  s.arrive f.bytes f.received read fun _ => actUnknown

/-- CYC_ARRIVAL (R4). -/
def execCycArrival (h : Header) (payload : List Byte) (o : TakeOrder) (s : State) : Host.Outcome State Fault Refusal :=
  .next (s.arriveRead { kind := Frame.cyc, h, payload } (State.readCyc o))

/-- MRK_ARRIVAL (R8). -/
def execMrkArrival (h : Header) (payload : List Byte) (s : State) : Host.Outcome State Fault Refusal :=
  .next (s.arriveRead { kind := Frame.mrk, h, payload } State.readMrk)

/-- TMP_ARRIVAL (R112). -/
def execTmpArrival (h : Header) (payload : List Byte) (o : TakeOrder) (s : State) : Host.Outcome State Fault Refusal :=
  .next (s.arriveRead { kind := Frame.tmp, h, payload } (State.readTemperature o))

/-- DST_ARRIVAL (R127). -/
def execDstArrival (h : Header) (payload : List Byte) (o : TakeOrder) (s : State) : Host.Outcome State Fault Refusal :=
  .next (s.arriveRead { kind := Frame.dst, h, payload } (State.readStatus o))

/-- FRAME_ARRIVAL: any bytes, judged whole, a frame the part reads or consumes among them (R143, R145, log 26). -/
def execFrameArrival (raw : List Byte) (o : TakeOrder) (s : State) : Host.Outcome State Fault Refusal :=
  .next (s.arrive raw (receive raw) (State.readFrame o) (actOf o))

end Sys2Proof.Machine
end

