-- ==== Sys2Proof/Machine/Expiries.lean ====
section
/-! DEFINITION. A cassette's or a drive's part of the last cycle frame as a step of its own, when it completes a dwell or
a timeout (R115 to R117, R134, log 2): TMP_TIMEOUT, SOAK_COMPLETE, DRIFT_EXPIRY, ANSWER_TIMEOUT, DST_TIMEOUT. A command
whose event is not due changes nothing (log 3). -/

namespace Sys2Proof.Machine

/-- A cassette has still to take its part of the last cycle frame, and what it does there passes a test. -/
def State.cassetteDue (s : State) (c : Fin 8) (test : Cassette → Lane → Nat → Bool) : Bool :=
  decide (CycUnit.cassette c ∈ s.cycDue) && test s.cassettes[c] s.active.lanes[c] s.jobs.cfg.ntmp

/-- A drive has still to take its part of the last cycle frame, and what it does there passes a test, with Nack as it
stands now (log 34). -/
def State.driveDue (s : State) (d : Fin 12) (test : Drive → Nat → Bool) : Bool :=
  decide (CycUnit.drive d ∈ s.cycDue) && s.drives[d].link != .silent && test s.drives[d].counted s.jobs.cfg.nack

/-- TMP_TIMEOUT: the count of ring cycles since the last TMP reaches Ntmp (R115). -/
def execTmpTimeout (c : Fin 8) (s : State) : Host.Outcome State Fault Refusal :=
  .next (if s.cassetteDue c fun x _ ntmp => x.tmpOut ntmp then s.takeUnit (.cassette c) else s)

/-- SOAK_COMPLETE: the soak count reaches Nsoak (R116). -/
def execSoakComplete (c : Fin 8) (s : State) : Host.Outcome State Fault Refusal :=
  .next (if s.cassetteDue c fun x l ntmp => !x.tmpOut ntmp && x.soakOut l.nsoak then s.takeUnit (.cassette c) else s)

/-- DRIFT_EXPIRY: the drift count reaches Ndrift (R117). -/
def execDriftExpiry (c : Fin 8) (s : State) : Host.Outcome State Fault Refusal :=
  .next (if s.cassetteDue c fun x l ntmp => !x.tmpOut ntmp && x.driftOut l.ndrift then s.takeUnit (.cassette c) else s)

/-- ANSWER_TIMEOUT: the oldest record of a drive reaches age Nack (R134). -/
def execAnswerTimeout (d : Fin 12) (s : State) : Host.Outcome State Fault Refusal :=
  .next (if s.driveDue d Drive.answerOut then s.takeUnit (.drive d) else s)

/-- DST_TIMEOUT: the cycles since a drive's last DST reach Nack (R134). -/
def execDstTimeout (d : Fin 12) (s : State) : Host.Outcome State Fault Refusal :=
  .next (if s.driveDue d Drive.dstOut then s.takeUnit (.drive d) else s)

end Sys2Proof.Machine
end

