-- ==== Sys2Proof/Machine/RequestRows.lean ====
section
/-! DEFINITION. The rows of the management requests (section 8.3): each an MGQ with its request code that arrives at the
ring port, is judged as any frame (R145, R147) and, when it is consumed, acts and is answered (R159). -/

namespace Sys2Proof.Machine

/-- The MGQ frame of a request. -/
def requestFrame (h : Header) (code : Byte) (q : Req) : Frame := { kind := Frame.mgq, h, payload := reqPayload q code }

/-- An MGQ with a request code arrives (R145, R147, R159). -/
def State.request (s : State) (h : Header) (code : Byte) (q : Req) (act : Act) : State :=
  let f := requestFrame h code q
  s.arrive f.bytes f.received (fun _ s => s) fun _ => act

/-- WRITE_DESIGN (R30). -/
def execWriteDesign (h : Header) (q : Req) (s : State) : Host.Outcome State Fault Refusal :=
  .next (s.request h 0x01 q actWriteDesign)

/-- WRITE_LANE (R31). -/
def execWriteLane (h : Header) (q : Req) (s : State) : Host.Outcome State Fault Refusal :=
  .next (s.request h 0x02 q actWriteLane)

/-- WRITE_SEQUENCE (R32). -/
def execWriteSequence (h : Header) (q : Req) (s : State) : Host.Outcome State Fault Refusal :=
  .next (s.request h 0x03 q actWriteSequence)

/-- WRITE_FOIL_MAP (R32). -/
def execWriteFoilMap (h : Header) (q : Req) (s : State) : Host.Outcome State Fault Refusal :=
  .next (s.request h 0x04 q actWriteFoilMap)

/-- WRITE_JOB (R33). -/
def execWriteJob (h : Header) (q : Req) (s : State) : Host.Outcome State Fault Refusal :=
  .next (s.request h 0x05 q actWriteJob)

/-- READ (R39). -/
def execRead (h : Header) (q : Req) (s : State) : Host.Outcome State Fault Refusal :=
  .next (s.request h 0x06 q actRead)

/-- WRITE_STATION (R37). -/
def execWriteStation (h : Header) (q : Req) (s : State) : Host.Outcome State Fault Refusal :=
  .next (s.request h 0x07 q actWriteStation)

/-- ARM_CHANGEOVER (R41). -/
def execArmChangeover (h : Header) (q : Req) (s : State) : Host.Outcome State Fault Refusal :=
  .next (s.request h 0x08 q actArmChangeover)

/-- CANCEL_CHANGEOVER (R46). -/
def execCancelChangeover (h : Header) (q : Req) (s : State) : Host.Outcome State Fault Refusal :=
  .next (s.request h 0x09 q actCancelChangeover)

/-- COPY_ACTIVE_TO_STANDBY (R47). -/
def execCopyActiveToStandby (h : Header) (q : Req) (s : State) : Host.Outcome State Fault Refusal :=
  .next (s.request h 0x0A q actCopyActive)

/-- CLEAR_STANDBY (R48). -/
def execClearStandby (h : Header) (q : Req) (s : State) : Host.Outcome State Fault Refusal :=
  .next (s.request h 0x0B q actClearStandby)

/-- START (R53). -/
def execStart (h : Header) (q : Req) (s : State) : Host.Outcome State Fault Refusal :=
  .next (s.request h 0x0C q actStart)

/-- STOP (R54). -/
def execStop (h : Header) (q : Req) (s : State) : Host.Outcome State Fault Refusal :=
  .next (s.request h 0x0D q actStop)

/-- HOLD_LANE (R34). -/
def execHoldLane (h : Header) (q : Req) (s : State) : Host.Outcome State Fault Refusal :=
  .next (s.request h 0x0E q actHoldLane)

/-- RELEASE_LANE (R34). -/
def execReleaseLane (h : Header) (q : Req) (s : State) : Host.Outcome State Fault Refusal :=
  .next (s.request h 0x0F q actReleaseLane)

/-- SET_TRIM (R35). -/
def execSetTrim (h : Header) (q : Req) (s : State) : Host.Outcome State Fault Refusal :=
  .next (s.request h 0x10 q actSetTrim)

/-- SET_PITCH (R22). -/
def execSetPitch (h : Header) (q : Req) (s : State) : Host.Outcome State Fault Refusal :=
  .next (s.request h 0x11 q actSetPitch)

/-- LOAD_FOIL (R104). -/
def execLoadFoil (h : Header) (q : Req) (s : State) : Host.Outcome State Fault Refusal :=
  .next (s.request h 0x12 q actLoadFoil)

/-- EVENT_ENABLE (R174). -/
def execEventEnable (h : Header) (q : Req) (s : State) : Host.Outcome State Fault Refusal :=
  .next (s.request h 0x13 q actEventEnable)

/-- EVENT_DISABLE (R174). -/
def execEventDisable (h : Header) (q : Req) (s : State) : Host.Outcome State Fault Refusal :=
  .next (s.request h 0x14 q actEventDisable)

/-- SET_LEVEL (R174). -/
def execSetLevel (h : Header) (q : Req) (s : State) : Host.Outcome State Fault Refusal :=
  .next (s.request h 0x15 q actSetLevel)

/-- ACK_EVENT (R176). -/
def execAckEvent (h : Header) (q : Req) (s : State) : Host.Outcome State Fault Refusal :=
  .next (s.request h 0x16 q actAckEvent)

/-- POLL_EVENTS (R177). -/
def execPollEvents (h : Header) (q : Req) (s : State) : Host.Outcome State Fault Refusal :=
  .next (s.request h 0x17 q actPollEvents)

/-- FETCH_LOG (R170). -/
def execFetchLog (h : Header) (q : Req) (s : State) : Host.Outcome State Fault Refusal :=
  .next (s.request h 0x18 q actFetchLog)

/-- SET_WATCH (R172). -/
def execSetWatch (h : Header) (q : Req) (s : State) : Host.Outcome State Fault Refusal :=
  .next (s.request h 0x19 q actSetWatch)

/-- SNAPSHOT (R162). -/
def execSnapshot (h : Header) (q : Req) (s : State) : Host.Outcome State Fault Refusal :=
  .next (s.request h 0x1A q actSnapshot)

/-- IDENTIFY (R164). -/
def execIdentify (h : Header) (q : Req) (s : State) : Host.Outcome State Fault Refusal :=
  .next (s.request h 0x1B q actIdentify)

/-- SOFT_RESET (R165). -/
def execSoftReset (h : Header) (q : Req) (o : TakeOrder) (s : State) : Host.Outcome State Fault Refusal :=
  .next (s.request h 0x1C q (actSoftReset o))

/-- UNKNOWN_REQUEST_CODE: an MGQ with any code, which acts as its code says; an unknown code is answered BAD_REQUEST
(R161, log 26). -/
def execUnknownRequestCode (h : Header) (code : Byte) (q : Req) (s : State) : Host.Outcome State Fault Refusal :=
  .next (s.request h code q (actOf {} code))

end Sys2Proof.Machine
end

