-- ==== Sys2Proof/Machine/Resets.lean ====
section
/-! DEFINITION. The power-on reset input (00_scope.md section 6, R148, R149): POWER_ON_RESET and POWER_ON_RESET_RELEASE. -/

namespace Sys2Proof.Machine

/-- The station number that strap pins give: none is through-only state, for the values 0 and 63 (R149). -/
def stationOfStraps (straps : BitVec 6) : Option Byte :=
  if straps.toNat = 0 ∨ straps.toNat = 63 then none else some (straps.setWidth 8)

/-- The part with every item at its power-on value, its station sampled and the reset input asserted. What is the
model's own, the queue of commands, the record of frames sent and the free-value counter, goes on. -/
def State.poweredOn (s : State) (straps : BitVec 6) : State :=
  { State.reset with
    pending := s.pending, port := Port.powerOn true (stationOfStraps straps) s.port.down, freeCount := s.freeCount }

/-- POWER_ON_RESET: the straps are sampled and every block takes its power-on values (00_scope.md section 6, R149). -/
def execPowerOnReset (straps : BitVec 6) (s : State) : Host.Outcome State Fault Refusal :=
  .next (s.poweredOn straps)

/-- POWER_ON_RESET_RELEASE: from now on the part forwards frames (R148). -/
def execPowerOnResetRelease (s : State) : Host.Outcome State Fault Refusal :=
  .next { s with port := { s.port with resetIn := false } }

end Sys2Proof.Machine
end

