-- ==== Sys2Proof/Machine/Silence.lean ====
section
/-! DEFINITION. The expiry of the ring silence timer (section 7.4): RING_SILENCE. -/

namespace Sys2Proof.Machine

/-- The web tracker on ring silence (R7). -/
def Tracker.silent (t : Tracker) : Tracker :=
  { t with mode := .unlocked, lock := 0, coast := 0, speed := 0, line := .stop, firstCycle := true }

/-- The ring port and the report unit on ring silence: the timer stops, no window is open, the RPT waiting list is emptied
and the ring-silent flag set (R156, R158, R168). -/
def State.ringQuiet (s : State) : State :=
  (s.setPort { s.port with timerOn := false, window := 0 }).setReport { s.report with rpts := [], ringSilent := true }

/-- The attention unit discards the waiting ATN, when there is one, and a selection follows the discard (R175, R178). -/
def State.discardAtn (s : State) : State :=
  if s.attention.waiting.isNone then s else s.setAttention s.attention.discardWaiting.select

/-- RING_SILENT is raised with the last cycle number (R156). -/
def State.raiseSilent (s : State) : State := s.raise Event.ringSilent (s.tracker.cycleNo.setWidth 32)

/-- The attention unit on ring silence: the discard of a waiting ATN and the raising of RING_SILENT, whichever of the
two is taken first (R178, log 1). -/
def State.silentAttention (s : State) (raiseFirst : Bool) : State :=
  if raiseFirst then s.raiseSilent.discardAtn else s.discardAtn.raiseSilent

/-- A ring silence at all the blocks (R157, log 21): what the last cycle frame left to be taken is taken first, then the
blocks act, the drives and the planner's flush in the open order (R85, R140). -/
def State.silence (s : State) (o : TakeOrder) : State :=
  let s := s.settle.ringQuiet.silentAttention o.raiseFirst
  let s := (s.setTracker s.tracker.silent).quietAndFlush o.drives .ringSilence
  s.setCassettes (Vector.replicate 8 Cassette.afterReset)

/-- RING_SILENCE: a running timer expires (R156). A stopped timer does not, nor that of a part in through-only state or
reset (R149, log 3). -/
def execRingSilence (o : TakeOrder) (s : State) : Host.Outcome State Fault Refusal :=
  .next (if s.port.timerOn && !s.port.resetIn && s.port.station.isSome then s.silence o else s)

end Sys2Proof.Machine
end

