-- ==== Sys2Proof/Machine/Slots.lean ====
section
/-! DEFINITION. The transmit side of the ring port (section 7.2): the waiting items, their order, and the frame sent in a
slot (R150 to R154). -/

namespace Sys2Proof.Machine

/-! ## Frames of the part's own (R154, R180) -/

/-- A frame of the part's own: its source the part, its flags and reserved bytes zero (R154, R180). -/
def ownFrame (own kind dest tag : Byte) (payload : List Byte) : Frame :=
  { kind, h := { dest, src := own, flags := 0, tag, rsvHi := 0, rsvLo := 0 }, payload }

/-- The payload of a PHS (R107, section 10.3). -/
def phsPayload (e : Entry) (seq : Byte) : List Byte :=
  [byte e.lane.val, seq, byte e.segment.val] ++ be 4 e.contact.toNat ++ be 2 e.length
    ++ [byte e.pressure.val, e.kind.code]

/-- The payload of an FMV (R101, section 10.3). -/
def fmvPayload (m : Move) (seq : Byte) (chain : Bool) : List Byte :=
  [byte m.web.val, seq] ++ be 4 m.start.toNat ++ be 4 m.length ++ [flagByte chain]

/-- The payload of an RPT (R82, R167, section 10.3). Bits 3 to 7 of its flags byte, to which the layout gives no value,
are 0: the model's choice (log 36). -/
def rptPayload (r : RepeatReport) : List Byte :=
  be 4 r.repeatNo.toNat ++ be 4 r.nip.toNat
    ++ r.lanes.toList.flatMap (fun o => [byte (laneCodes o).1, byte (laneCodes o).2])
    ++ [byte ((if r.synth then 1 else 0) + (if r.first then 2 else 0) + (if r.gap then 4 else 0))]

/-- The payload of an MGA (section 10.3). -/
def mgaPayload (a : Answer) : List Byte := a.code :: a.status.code :: a.data

/-- The service level of a kind in service. -/
def Attention.serviceLevel (a : Attention) (k : Fin 18) : Nat :=
  ((a.service.find? fun m => m.1 == k).map (·.2.val)).getD 0

/-- The payload of an ATN: kind, service level, detail and count as they stand at the slot (R175, section 10.3). -/
def atnPayload (a : Attention) (k : Fin 18) : List Byte :=
  [byte k.val, byte (a.serviceLevel k)] ++ be 4 a.kinds[k].detail.toNat ++ [byte a.kinds[k].count]

/-! ## Due setpoints (R151, R152) -/

/-- A due setpoint with the plan item as it stands. -/
inductive Due where
  | phs (repeatNo : Rep) (e : Entry)
  | fmv (repeatNo : Rep) (index : Nat) (m : Move)
deriving DecidableEq, Repr

/-- The drive a setpoint goes to (R132). -/
def Due.drive : Due → Fin 12
  | .phs _ e => cassetteDrive e.lane
  | .fmv _ _ m => foilDrive m.web

/-- The repeat number of a setpoint. -/
def Due.repeatNo : Due → Rep
  | .phs n _ => n
  | .fmv n _ _ => n

/-- The release position: S - Lc of a PHS, start - Lf of an FMV with its start as it stands (R152). -/
def Due.release (lf : Nat) : Due → Pos
  | .phs _ e => e.release
  | .fmv _ _ m => m.start - len lf

/-- The due moves of a plan. -/
def Plan.dueMoves (p : Plan) : List Due :=
  ((List.range p.moves.length).zip p.moves).filterMap fun x =>
    if x.2.st = .due then some (.fmv p.repeatNo x.1 x.2) else none

/-- The due phase setpoints of a plan. -/
def Plan.duePhs (p : Plan) : List Due :=
  p.entries.filterMap fun e => if e.phs = .due then some (.phs p.repeatNo e) else none

/-- The due setpoints whose drives are eligible at this slot (R151). -/
def State.waitingSetpoints (s : State) : List Due :=
  (s.planner.queue.flatMap fun p => p.dueMoves ++ p.duePhs).filter fun x => s.drives[x.drive].eligible

/-- Equal release positions: FMV before PHS, FMV by web and repeat, PHS by the rotating order and repeat (R152). -/
def Due.tieBefore (order : List (Fin 8)) : Due → Due → Bool
  | .fmv n _ m, .fmv k _ x => if m.web = x.web then decide (dist k n < 0) else decide (m.web < x.web)
  | .fmv .., .phs .. => true
  | .phs .., .fmv .. => false
  | .phs n e, .phs k x =>
    if e.lane = x.lane then decide (dist k n < 0) else decide (order.idxOf e.lane < order.idxOf x.lane)

/-- The order of R152: earliest release position, then the order among equal ones. -/
def Due.before (order : List (Fin 8)) (lf : Nat) (a b : Due) : Bool :=
  let d := dist (b.release lf) (a.release lf)
  if d < 0 then true else if 0 < d then false else a.tieBefore order b

/-- The first of a list of setpoints in the order of R152. Two due FMVs of one web and one repeat with equal release
positions, which R152 does not order, are taken in the order of the plan's moves: the model's choice (log 35). -/
def firstDue (order : List (Fin 8)) (lf : Nat) : List Due → Option Due
  | [] => none
  | x :: xs => some (xs.foldl (fun best y => if y.before order lf best then y else best) x)

/-- The setpoint the transmit arbiter takes at a slot (R151, R152). -/
def State.nextSetpoint (s : State) : Option Due := firstDue s.port.order s.jobs.cfg.lf s.waitingSetpoints

/-! ## The rotating lane order (R153) -/

/-- A PHS of another lane with the same release position. -/
def Due.tiesWith (e : Entry) : Due → Bool
  | .phs _ x => x.lane != e.lane && x.release == e.release
  | .fmv .. => false

/-- A lane moved to the end of the order, the others keeping theirs. -/
def moveToEnd (l : Fin 8) (order : List (Fin 8)) : List (Fin 8) := order.filter (· != l) ++ [l]

/-- The order after a PHS is sent: changed only when it is sent in a tie (R153). -/
def State.orderAfter (s : State) (e : Entry) : List (Fin 8) :=
  if s.waitingSetpoints.any (Due.tiesWith e) then moveToEnd e.lane s.port.order else s.port.order

/-! ## Sending (R68, R154) -/

/-- The destination of a setpoint: the drive station of the station map at this slot (R154); validation keeps the drive of
a planned lane or web assigned (R40 check 7, log 22). -/
def State.driveDest (s : State) (d : Fin 12) : Byte := encodeStation s.jobs.cfg.driveStations[d]

/-- A frame of the part's own leaves in the slot. -/
def State.sendOwn (s : State) (own kind dest tag : Byte) (payload : List Byte) : State :=
  s.forward (ownFrame own kind dest tag payload).bytes

/-- The entry that was chosen is made SENT with its sequence number (R68). -/
def Plan.sendPhs (p : Plan) (e : Entry) (seq : Byte) : Plan :=
  let hit := fun x : Entry => x.lane == e.lane && x.phs == .due
  { p with entries := updateFirst hit (fun x => { x with phs := .sent seq }) p.entries }

/-- The move that was chosen is made SENT with its sequence number and its chain flag (R68, R99). -/
def Plan.sendFmv (p : Plan) (i : Nat) (seq : Byte) (chain : Bool) : Plan :=
  p.modMove i fun m => { m with st := .sent seq, chain }

/-- A PHS is sent (R68, R132, R153, R154). -/
def State.sendPhs (s : State) (own : Byte) (n : Rep) (e : Entry) : State :=
  let d := cassetteDrive e.lane
  let seq := s.drives[d].next
  let s' := s.setPort { s.port with order := s.orderAfter e }
  let s' := s'.modPlan n fun p => p.sendPhs e seq
  let s' := s'.modDrive d fun x => x.send (.phs n e.lane)
  s'.sendOwn own Frame.phs (s.driveDest d) 0 (phsPayload e seq)

/-- An FMV is sent: the foil allocator's work first, then the frame (R68, R99, R100, R132, R154). -/
def State.sendFmv (s : State) (own : Byte) (n : Rep) (i : Nat) (m : Move) : State :=
  let d := foilDrive m.web
  let seq := s.drives[d].next
  let c := s.sendPlan n i m
  let s' := s.sendFoil n i m c
  let s' := s'.modPlan n fun p => p.sendFmv i seq c.chain
  let s' := s'.modDrive d fun x => x.send (.fmv n i)
  s'.sendOwn own Frame.fmv (s.driveDest d) 0 (fmvPayload m seq c.chain)

/-- A due setpoint is sent. -/
def State.sendDue (s : State) (own : Byte) : Due → State
  | .phs n e => s.sendPhs own n e
  | .fmv n i m => s.sendFmv own n i m

/-- The waiting ATN is sent; its kind stays in service and no selection follows (R175). -/
def State.sendAtn (s : State) (own : Byte) : State :=
  match s.attention.waiting with
  | none => s
  | some k => (s.sendOwn own Frame.atn 0 0 (atnPayload s.attention k)).setAttention { s.attention with waiting := none }

/-- The oldest answer is sent, or the ATN when no answer waits (R151, R160). -/
def State.sendAnswer (s : State) (own : Byte) : State :=
  match s.answers with
  | [] => s.sendAtn own
  | a :: rest => (s.sendOwn own Frame.mga a.dest a.tag (mgaPayload a)).setAnswers rest

/-- The oldest repeat report is sent, or what the lower classes hold (R151, R167). -/
def State.sendReport (s : State) (own : Byte) : State :=
  match s.report.rpts with
  | [] => s.sendAnswer own
  | r :: rest => (s.sendOwn own Frame.rpt 0 0 (rptPayload r)).setReport { s.report with rpts := rest }

/-- The first waiting item by class is sent, or the slot passes unused (R151). -/
def State.sendItem (s : State) (own : Byte) : State :=
  match s.nextSetpoint with
  | none => s.sendReport own
  | some x => s.sendDue own x

/-- A slot of the open window (R150): whatever the last cycle frame left to be taken is taken first, and the slot is
counted off. -/
def State.slot (s : State) : State :=
  if s.port.resetIn ∨ s.port.window = 0 then s
  else match s.port.station with
    | none => s
    | some own =>
      let s := s.settle
      (s.setPort { s.port with window := s.port.window - 1 }).sendItem own

/-- INJECTION_SLOT (R151). No window is open in through-only state or while the reset input is asserted (R148, R149). -/
def execInjectionSlot (s : State) : Host.Outcome State Fault Refusal := .next s.slot

end Sys2Proof.Machine
end

