-- ==== Sys2Proof/Machine/Dispatch.lean ====
section
/-! DEFINITION. The meaning of each command: one arm per row of spec/opcode_table.json. -/

namespace Sys2Proof.Machine

def exec (i : Instr) (s : State) : Host.Outcome State Fault Refusal :=
  match i with
  | .powerOnReset straps => Sys2Proof.Machine.execPowerOnReset straps s
  | .cycArrival h payload o => Sys2Proof.Machine.execCycArrival h payload o s
  | .mrkArrival h payload => Sys2Proof.Machine.execMrkArrival h payload s
  | .tmpArrival h payload o => Sys2Proof.Machine.execTmpArrival h payload o s
  | .dstArrival h payload o => Sys2Proof.Machine.execDstArrival h payload o s
  | .frameArrival raw o => Sys2Proof.Machine.execFrameArrival raw o s
  | .injectionSlot => Sys2Proof.Machine.execInjectionSlot s
  | .ringSilence o => Sys2Proof.Machine.execRingSilence o s
  | .tmpTimeout c => Sys2Proof.Machine.execTmpTimeout c s
  | .soakComplete c => Sys2Proof.Machine.execSoakComplete c s
  | .driftExpiry c => Sys2Proof.Machine.execDriftExpiry c s
  | .answerTimeout d => Sys2Proof.Machine.execAnswerTimeout d s
  | .dstTimeout d => Sys2Proof.Machine.execDstTimeout d s
  | .writeDesign h q => Sys2Proof.Machine.execWriteDesign h q s
  | .writeLane h q => Sys2Proof.Machine.execWriteLane h q s
  | .writeSequence h q => Sys2Proof.Machine.execWriteSequence h q s
  | .writeFoilMap h q => Sys2Proof.Machine.execWriteFoilMap h q s
  | .writeJob h q => Sys2Proof.Machine.execWriteJob h q s
  | .read h q => Sys2Proof.Machine.execRead h q s
  | .writeStation h q => Sys2Proof.Machine.execWriteStation h q s
  | .armChangeover h q => Sys2Proof.Machine.execArmChangeover h q s
  | .cancelChangeover h q => Sys2Proof.Machine.execCancelChangeover h q s
  | .copyActiveToStandby h q => Sys2Proof.Machine.execCopyActiveToStandby h q s
  | .clearStandby h q => Sys2Proof.Machine.execClearStandby h q s
  | .start h q => Sys2Proof.Machine.execStart h q s
  | .stop h q => Sys2Proof.Machine.execStop h q s
  | .holdLane h q => Sys2Proof.Machine.execHoldLane h q s
  | .releaseLane h q => Sys2Proof.Machine.execReleaseLane h q s
  | .setTrim h q => Sys2Proof.Machine.execSetTrim h q s
  | .setPitch h q => Sys2Proof.Machine.execSetPitch h q s
  | .loadFoil h q => Sys2Proof.Machine.execLoadFoil h q s
  | .eventEnable h q => Sys2Proof.Machine.execEventEnable h q s
  | .eventDisable h q => Sys2Proof.Machine.execEventDisable h q s
  | .setLevel h q => Sys2Proof.Machine.execSetLevel h q s
  | .ackEvent h q => Sys2Proof.Machine.execAckEvent h q s
  | .pollEvents h q => Sys2Proof.Machine.execPollEvents h q s
  | .fetchLog h q => Sys2Proof.Machine.execFetchLog h q s
  | .setWatch h q => Sys2Proof.Machine.execSetWatch h q s
  | .snapshot h q => Sys2Proof.Machine.execSnapshot h q s
  | .identify h q => Sys2Proof.Machine.execIdentify h q s
  | .softReset h q o => Sys2Proof.Machine.execSoftReset h q o s
  | .unknownRequestCode h code q => Sys2Proof.Machine.execUnknownRequestCode h code q s
  | .powerOnResetRelease => Sys2Proof.Machine.execPowerOnResetRelease s

end Sys2Proof.Machine
end

