-- ==== Sys2Proof/WellFormed.lean ====
section
/-! DEFINITION. Which commands are what their row of the table says: a header and a payload that a frame of the row's
kind can have. exec does not rest on it: the ring port judges every frame by its fields (log 9, log 26). -/

namespace Sys2Proof

/-- The destination names all stations, a station or the line master, and the source a station or the line master
(section 10.1). A source of 0 is admitted: R159 says how its request is answered. -/
def Header.wf (h : Header) : Bool :=
  h.dest.toNat ≤ 63 && h.src.toNat ≤ 63

/-- BOUNCED, bit 0 of the flags (section 10.1). -/
def Header.bounced (h : Header) : Bool := h.flags.getLsbD 0

/-- An MGQ that can be consumed: BOUNCED clear, and at most 60 data bytes (section 10.2, R145). -/
def Req.wf (h : Header) (q : Req) : Bool :=
  h.wf && !h.bounced && q.data.length ≤ 60

/-- The request codes the part knows: 0x01 to 0x1C (section 10.4). -/
def knownCode (c : Byte) : Bool := 1 ≤ c.toNat && c.toNat ≤ 28

/-- No unit is named twice among the points of an order, so that each takes its part once. -/
def TakeOrder.wf (o : TakeOrder) : Bool :=
  decide o.points.flatten.Nodup && decide o.own.Nodup && decide o.cassettes.Nodup && decide o.drives.Nodup

/-- A command that is what its row says: a payload of the row's kind is at least as long as the kind requires and at
most 64 bytes (R143, R144), a cycle frame comes from station 63 (R4), the code of an unknown request is unknown. -/
def WellFormed : Instr → Bool
  | .powerOnReset _ => true
  | .cycArrival h p o => h.wf && h.src == 63 && 11 ≤ p.length && p.length ≤ 64 && o.wf
  | .mrkArrival h p => h.wf && 6 ≤ p.length && p.length ≤ 64
  | .tmpArrival h p o => h.wf && 3 ≤ p.length && p.length ≤ 64 && o.wf
  | .dstArrival h p o => h.wf && 2 ≤ p.length && p.length ≤ 64 && o.wf
  | .frameArrival _ o => o.wf
  | .injectionSlot => true
  | .ringSilence o => o.wf
  | .tmpTimeout _ => true
  | .soakComplete _ => true
  | .driftExpiry _ => true
  | .answerTimeout _ => true
  | .dstTimeout _ => true
  | .writeDesign h q => q.wf h
  | .writeLane h q => q.wf h
  | .writeSequence h q => q.wf h
  | .writeFoilMap h q => q.wf h
  | .writeJob h q => q.wf h
  | .read h q => q.wf h
  | .writeStation h q => q.wf h
  | .armChangeover h q => q.wf h
  | .cancelChangeover h q => q.wf h
  | .copyActiveToStandby h q => q.wf h
  | .clearStandby h q => q.wf h
  | .start h q => q.wf h
  | .stop h q => q.wf h
  | .holdLane h q => q.wf h
  | .releaseLane h q => q.wf h
  | .setTrim h q => q.wf h
  | .setPitch h q => q.wf h
  | .loadFoil h q => q.wf h
  | .eventEnable h q => q.wf h
  | .eventDisable h q => q.wf h
  | .setLevel h q => q.wf h
  | .ackEvent h q => q.wf h
  | .pollEvents h q => q.wf h
  | .fetchLog h q => q.wf h
  | .setWatch h q => q.wf h
  | .snapshot h q => q.wf h
  | .identify h q => q.wf h
  | .softReset h q o => q.wf h && o.wf
  | .unknownRequestCode h c q => q.wf h && !knownCode c
  | .powerOnResetRelease => true

end Sys2Proof
end

