-- ==== Sys2Proof/Safety.lean ====
section
/-! DEFINITION. What the statements speak of: the codes of outcomes, the conditions under which a command completes, what an
answered request leaves, what is done to the plan queue, what a cycle frame and a flush leave, and the invariants of the
part. -/

namespace Sys2Proof.Machine

/-! ## Lists and codes -/

/-- The first member that meets a test, changed; a list without one as it stands. -/
def atFirst {α : Type} (p : α → Bool) (f : α → α) (l : List α) : List α := l.modify (l.findIdx p) f

/-- The lowest member that fails a test. -/
def FirstFailing {n : Nat} (ok : Fin n → Prop) (k : Fin n) : Prop := ¬ok k ∧ ∀ j : Fin n, j < k → ok j

/-- The reason codes of section 10.3. -/
def reasonNumber : Reason → Nat
  | .held => 1 | .inhibited => 2 | .unlocked => 3 | .register => 4 | .speed => 5 | .heat => 6 | .drive => 7
  | .foilDrive => 8 | .foilOut => 9 | .overflow => 10 | .late => 11 | .noAck => 12 | .foilNoAck => 13
  | .driveFault => 14 | .flushed => 15

/-- The outcome and reason codes of section 10.3: OFF 0 and STAMPED 1 with reason 0, SUPPRESSED 2, REJECT 3. -/
def outcomeNumbers : Option Decision → Nat × Nat
  | none => (0, 0) | some .stamped => (1, 0) | some (.suppressed r) => (2, reasonNumber r)
  | some (.reject r) => (3, reasonNumber r)

/-! ## Conditions on a command -/

/-- The part works as a station: the reset input is released and the straps gave a station number (R148, R149). -/
def State.worksAs (s : State) (own : Byte) : Prop := s.port.resetIn = false ∧ s.port.station = some own

/-- A request with this header and these data is consumed: addressed to the part, not from it, BOUNCED clear, a place
free on the answer list, and a payload of at most 64 bytes (R143, R145, R147). -/
def State.takes (s : State) (h : Header) (q : Req) : Prop :=
  s.worksAs h.dest ∧ h.src ≠ h.dest ∧ h.bounced = false ∧ s.answers.length < 4 ∧ q.data.length ≤ 60

/-- The state with one answer placed at the tail of the answer list: to the source of the request, with its tag and code
(R159). -/
def State.answered (s : State) (h : Header) (code : Byte) (st : Status) (data : List Byte) : State :=
  s.setAnswers (s.answers ++ [{ dest := h.src, tag := h.tag, code, status := st, data }])

/-- A frame of a kind the part reads has arrived for its reader: the part works, the frame is not its own, its source is
one whose frames of that kind are read, and its payload is neither short nor over 64 bytes (R143 to R146). -/
def State.reads (s : State) (f : Frame) : Prop :=
  (∃ own, s.worksAs own ∧ f.h.src ≠ own) ∧ isRead s.jobs.cfg f = true ∧ leastPayload f.kind ≤ f.payload.length
    ∧ f.payload.length ≤ 64

/-- The table of section 5.3: the heat state after a report, with the two dwells of the lane (R113, R114, R118). -/
def heatAfterReport (inBand : Bool) (nsoak ndrift : Nat) : Heat → Heat
  | .cold => if inBand then (if nsoak = 0 then .ready else .soak) else .cold
  | .soak => if inBand then .soak else .cold
  | .ready => if inBand then .ready else (if ndrift = 0 then .cold else .drift)
  | .drift => if inBand then .ready else .drift
  | .lost => if inBand then (if nsoak = 0 then .ready else .soak) else .cold

/-- A cassette after a report: the count of ring cycles since the last TMP is 0, and a count starts at 0 on the entry to
its dwell (R110, R112). -/
def Cassette.reported (x : Cassette) (inBand : Bool) (nsoak ndrift : Nat) : Cassette :=
  let h := heatAfterReport inBand nsoak ndrift x.heat
  { heat := h, soak := if h = .soak ∧ x.heat ≠ .soak then 0 else x.soak,
    drift := if h = .drift ∧ x.heat ≠ .drift then 0 else x.drift, since := 0 }

/-- How many of a drive's records an echo acknowledges: the record whose sequence number it equals and every older one;
none when it equals none (R128). -/
def Drive.covered (x : Drive) (echo : Byte) : Nat :=
  if x.out.any (·.seq == echo) then (x.out.takeWhile (·.seq != echo)).length + 1 else 0

/-- A drive after a DST read for it: the five steps of section 6.2, the last flags and the last echo (R127 to R131, log 30). -/
def Drive.afterDst (x : Drive) (faulty : Bool) (flags echo : Byte) : Drive :=
  { x with
    link := if faulty then .faulted else if !x.sent || echo == x.next - 1 then .answering else x.link,
    out := x.out.drop (x.covered echo), cycles := 0, last := flags, lastEcho := echo }

/-- A drive that has entered SILENT, its last echo kept; one that was SILENT is left as it is (R134, R140, logs 29, 30). -/
def Drive.madeSilent (x : Drive) : Drive :=
  if x.link = .silent then x else { x with link := .silent, out := [], sent := false, cycles := 0, last := 0 }

/-- A cassette after its part of a cycle frame: the count since the last TMP, the timeout before the dwells, the soak and
the drift (R115 to R117). -/
def Cassette.afterCycle (x : Cassette) (ntmp nsoak ndrift : Nat) : Cassette :=
  let since := if x.since < 4000 then x.since + 1 else 4000
  if ntmp ≤ since ∧ x.heat ≠ .lost then { x with heat := .lost, since }
  else if x.heat = .soak then { x with heat := if nsoak ≤ x.soak + 1 then .ready else .soak, soak := x.soak + 1, since }
  else if x.heat = .drift then { x with heat := if ndrift ≤ x.drift + 1 then .cold else .drift, drift := x.drift + 1, since }
  else { x with since }

/-- A drive after its part of a cycle frame: ages and cycles counted, and SILENT when the oldest record's age or the
cycles since the last DST reach Nack (R133, R134). -/
def Drive.afterCycle (x : Drive) (nack : Nat) : Drive :=
  let up (n : Nat) : Nat := if n < 255 then n + 1 else 255
  let y := { x with cycles := up x.cycles, out := x.out.map fun r => { r with age := up r.age } }
  if nack ≤ y.cycles || (y.out.head?.any fun r => decide (nack ≤ r.age)) then y.madeSilent else y

/-! ## The plan queue -/

/-- The queue with the plan of a repeat number changed, when there is one. -/
def State.planChanged (s : State) (n : Rep) (f : Plan → Plan) : State :=
  { s with planner := { s.planner with queue := atFirst (fun p => p.repeatNo == n) f s.planner.queue } }

/-- The planner hears of an acknowledged setpoint: the state of the lane's entry, or of the move, becomes ACKNOWLEDGED; of
a plan no longer queued it hears nothing (R69, R128). -/
def State.hears (s : State) : PlanItem → State
  | .phs n l => s.planChanged n fun p => { p with
      entries := atFirst (fun e => e.lane == l) (fun e => { e with phs := .acked }) p.entries }
  | .fmv n i => s.planChanged n fun p => { p with moves := p.moves.modify i fun m => { m with st := .acked } }

/-- An entry decided, its PHS withdrawn when it was not sent (R70, R79). -/
def Entry.decidedAs (e : Entry) (d : Decision) : Entry :=
  { e with outcome := some d, phs := if e.phs = .unsent ∨ e.phs = .due then .withdrawn else e.phs }

/-- An entry depends on a drive through a setpoint that is not acknowledged: undecided, and its own PHS, or the FMV that
serves it, is UNSENT, DUE or SENT (R77). -/
def Plan.waitsFor (p : Plan) (d : Fin 12) (e : Entry) : Bool :=
  let waits (st : SetState) : Bool := st != .acked && st != .withdrawn
  e.outcome.isNone && ((e.lane.val == d.val && waits e.phs)
    || match e.move.bind fun i => p.moves[i]? with
       | none => false
       | some m => m.web.val + 8 == d.val && waits m.st)

/-- The record of an entry of a plan, the log sequence and GAP left to the log (R79). -/
def Plan.told (p : Plan) (e : Entry) (d : Decision) : LogRecord :=
  { seq := 0, repeatNo := p.repeatNo, lane := e.lane, design := some e.design, decision := d, residual := p.residual,
    contact := some e.contact, synth := p.synth, first := p.first, gap := false }

/-! ## Records and reports -/

/-- The log has taken some records, one after another: each with the next log sequence, GAP when the log was full, the
newest 256 kept (R169). -/
def Report.LogTook (r r' : Report) (ds : List LogRecord) : Prop :=
  r'.nextLog = r.nextLog + BitVec.ofNat 16 ds.length
    ∧ r'.log = (r.log ++ ds.mapIdx fun i (d : LogRecord) =>
        { d with seq := r.nextLog + BitVec.ofNat 16 i, gap := decide (256 ≤ r.log.length + i) }).drop
          (r.log.length + ds.length - 256)

/-- The waiting list after a report is handed over with the ring-silent flag clear: the oldest of eight is discarded and
the newcomer carries GAP (R167). -/
def reportJoined (rs : List RepeatReport) (r : RepeatReport) : List RepeatReport :=
  if rs.length < 8 then rs ++ [{ r with gap := false }] else rs.drop 1 ++ [{ r with gap := true }]

/-- An enabled watch entry matches a record when every field whose enable is set equals the record's; an absent design
equals none (R172). -/
def Watch.Matches (w : Watch) (lane : Fin 8) (design : Option (Fin 64)) (d : Decision) : Prop :=
  w.enabled = true ∧ (w.laneOn = true → w.lane = lane) ∧ (w.designOn = true → design = some w.design)
    ∧ (w.clsOn = true → w.cls = match d with | .stamped => .stamped | .suppressed _ => .suppressed | .reject _ => .reject)

/-- A saturating count of a lane's labels, counted up (R81). -/
def countLabel (n : Nat) : Nat := if n < 4294967295 then n + 1 else 4294967295

/-- The tests of a write of one entry of a table of n entries, in their order, and what each gives: data cut short,
armed, bank selector, entry number, fields, and the write into the standby bank (R29, R161). -/
def State.WritesEntry {α : Type} (s : State) (h : Header) (code : Byte) (q : Req) (run : Host.Outcome State Fault Refusal)
    (n need : Nat) (decoded : Option α) (write : Fin n → α → Bank → Bank) (ok : Status) : Prop :=
  (q.data.length < need → run = .next (s.answered h code .badValue []))
    ∧ (need ≤ q.data.length → s.jobs.arm.isSome = true → run = .next (s.answered h code .armed []))
    ∧ (need ≤ q.data.length → s.jobs.arm = none → q.bank ≠ 1 → run = .next (s.answered h code .badValue []))
    ∧ (need ≤ q.data.length → s.jobs.arm = none → q.bank = 1 → n ≤ q.index.toNat →
        run = .next (s.answered h code .badIndex []))
    ∧ ∀ i : Fin n, need ≤ q.data.length → s.jobs.arm = none → q.bank = 1 → q.index.toNat = i.val →
        run = .next (match decoded with
          | none => s.answered h code .badValue []
          | some v => (s.setStandby (write i v s.standby)).answered h code ok [])

/-! ## Arrivals as bytes -/

/-- The bytes of the frame that a frame-arrival command or a request stands for, with the order it leaves open. -/
def arrivingBytes : Instr → Option (List Byte × TakeOrder)
  | .cycArrival h payload o => some (Frame.bytes { kind := 0x01, h, payload }, o)
  | .mrkArrival h payload => some (Frame.bytes { kind := 0x02, h, payload }, {})
  | .tmpArrival h payload o => some (Frame.bytes { kind := 0x03, h, payload }, o)
  | .dstArrival h payload o => some (Frame.bytes { kind := 0x04, h, payload }, o)
  | .frameArrival raw o => some (raw, o)
  | .writeDesign h q => some ((requestFrame h 0x01 q).bytes, {})
  | .writeLane h q => some ((requestFrame h 0x02 q).bytes, {})
  | .writeSequence h q => some ((requestFrame h 0x03 q).bytes, {})
  | .writeFoilMap h q => some ((requestFrame h 0x04 q).bytes, {})
  | .writeJob h q => some ((requestFrame h 0x05 q).bytes, {})
  | .read h q => some ((requestFrame h 0x06 q).bytes, {})
  | .writeStation h q => some ((requestFrame h 0x07 q).bytes, {})
  | .armChangeover h q => some ((requestFrame h 0x08 q).bytes, {})
  | .cancelChangeover h q => some ((requestFrame h 0x09 q).bytes, {})
  | .copyActiveToStandby h q => some ((requestFrame h 0x0A q).bytes, {})
  | .clearStandby h q => some ((requestFrame h 0x0B q).bytes, {})
  | .start h q => some ((requestFrame h 0x0C q).bytes, {})
  | .stop h q => some ((requestFrame h 0x0D q).bytes, {})
  | .holdLane h q => some ((requestFrame h 0x0E q).bytes, {})
  | .releaseLane h q => some ((requestFrame h 0x0F q).bytes, {})
  | .setTrim h q => some ((requestFrame h 0x10 q).bytes, {})
  | .setPitch h q => some ((requestFrame h 0x11 q).bytes, {})
  | .loadFoil h q => some ((requestFrame h 0x12 q).bytes, {})
  | .eventEnable h q => some ((requestFrame h 0x13 q).bytes, {})
  | .eventDisable h q => some ((requestFrame h 0x14 q).bytes, {})
  | .setLevel h q => some ((requestFrame h 0x15 q).bytes, {})
  | .ackEvent h q => some ((requestFrame h 0x16 q).bytes, {})
  | .pollEvents h q => some ((requestFrame h 0x17 q).bytes, {})
  | .fetchLog h q => some ((requestFrame h 0x18 q).bytes, {})
  | .setWatch h q => some ((requestFrame h 0x19 q).bytes, {})
  | .snapshot h q => some ((requestFrame h 0x1A q).bytes, {})
  | .identify h q => some ((requestFrame h 0x1B q).bytes, {})
  | .softReset h q o => some ((requestFrame h 0x1C q).bytes, o)
  | .unknownRequestCode h code q => some ((requestFrame h code q).bytes, {})
  | .powerOnReset _ => none
  | .injectionSlot => none
  | .ringSilence _ => none
  | .tmpTimeout _ => none
  | .soakComplete _ => none
  | .driftExpiry _ => none
  | .answerTimeout _ => none
  | .dstTimeout _ => none
  | .powerOnResetRelease => none

/-! ## Ranges (sections 2.1 and 2.4) -/

/-- A design record within the ranges of section 2.1.1, a foil web present for the foil kinds alone (R30). -/
def Design.InRange (d : Design) : Prop :=
  d.offset ≤ 200000 ∧ 100 ≤ d.length ∧ d.length ≤ 60000 ∧ d.web.isSome = d.kind.isFoil

/-- A lane entry within the ranges of section 2.1.2, its index below the sequence length. -/
def Lane.InRange (l : Lane) : Prop :=
  1 ≤ l.seqLen ∧ l.seqLen ≤ 16 ∧ l.index < l.seqLen ∧ -1000 ≤ l.trim ∧ l.trim ≤ 1000 ∧ -400 ≤ l.lo ∧ l.lo ≤ 3000
    ∧ -400 ≤ l.hi ∧ l.hi ≤ 3000 ∧ l.nsoak ≤ 65535 ∧ l.ndrift ≤ 4000

/-- A foil map entry within the ranges of section 2.1.4. -/
def FoilWeb.InRange (f : FoilWeb) : Prop :=
  f.first ≤ f.last ∧ f.fm ≤ 2000 ∧ f.gmin ≤ 20000 ∧ f.low ≤ 2147483648

/-- A station number, when there is one, is 1 to 62 (section 2.4, R149). -/
def StationInRange (v : Option Byte) : Prop := ∀ b, v = some b → 1 ≤ b.toNat ∧ b.toNat ≤ 62

/-- The station configuration within the ranges of section 2.4. -/
def StationCfg.InRange (c : StationCfg) : Prop :=
  StationInRange c.sensor ∧ (∀ k : Fin 8, StationInRange c.heaters[k])
    ∧ (∀ d : Fin 12, StationInRange c.driveStations[d]) ∧ 1000 ≤ c.d ∧ c.d ≤ 2000000 ∧ c.lc ≤ 50000 ∧ c.lf ≤ 50000
    ∧ c.lmin ≤ 10000 ∧ c.lmin < c.lc ∧ c.lmin < c.lf ∧ 2 ≤ c.nack ∧ c.nack ≤ 32 ∧ 4 ≤ c.ntmp ∧ c.ntmp ≤ 4000
    ∧ 100 ≤ c.jump ∧ c.jump ≤ 50000

/-- Every design, lane and foil map entry of a bank within its ranges. -/
def Bank.InRange (b : Bank) : Prop :=
  (∀ i : Fin 64, ∀ d, b.designs[i] = some d → d.InRange) ∧ (∀ l : Fin 8, b.lanes[l].InRange)
    ∧ ∀ f : Fin 4, ∀ w, b.foil[f] = some w → w.InRange

/-! ## Invariants -/

/-- Every waiting list and queue holds at most what the part has room for (R56, R132, R150, R160, R167, R169). -/
def State.ListsBounded (s : State) : Prop :=
  s.planner.queue.length ≤ 32 ∧ s.answers.length ≤ 4 ∧ s.report.rpts.length ≤ 8 ∧ s.report.log.length ≤ 256
    ∧ s.port.window ≤ 6 ∧ ∀ d : Fin 12, s.drives[d].out.length ≤ 4

/-- The counts of a cassette lie in their ranges, and a dwell that is still counted has room to count (R110). -/
def Cassette.InRange (c : Cassette) : Prop :=
  c.soak ≤ 65535 ∧ c.drift ≤ 4000 ∧ c.since ≤ 4000 ∧ (c.heat = .soak → c.soak < 65535)
    ∧ (c.heat = .drift → c.drift < 4000)

/-- The bank entries and the station configuration stay in their ranges (sections 2.1, 2.4), and so does every saturating
count (R3, R19, R81, R88, R110, R126, R143, R173). -/
def State.CountsInRange (s : State) : Prop :=
  (∀ b : Fin 2, s.jobs.banks[b].InRange) ∧ s.jobs.cfg.InRange ∧ (∀ c : Fin 8, s.cassettes[c].InRange)
    ∧ (∀ d : Fin 12, s.drives[d].cycles ≤ 255 ∧ ∀ o ∈ s.drives[d].out, o.age ≤ 255)
    ∧ (∀ l : Fin 8, s.planner.stamped[l] ≤ 4294967295 ∧ s.planner.rejected[l] ≤ 4294967295)
    ∧ (∀ f : Fin 4, s.foil[f].saved ≤ 4294967295) ∧ (∀ k : Fin 18, s.attention.kinds[k].count ≤ 255)
    ∧ s.port.damaged ≤ 65535 ∧ s.tracker.stray ≤ 65535

/-- The records held carry consecutive log sequences, the newest one less than the next (R169). -/
def Report.LogConsecutive (r : Report) : Prop :=
  ∀ i : Nat, ∀ h : i < r.log.length, r.log[i].seq = r.nextLog - BitVec.ofNat 16 (r.log.length - i)

/-- The records of a drive carry consecutive sequence numbers, the newest one less than the next (section 6.2); a drive
with a record has been sent to, and a SILENT one has no record, no flag held and nothing sent (R126, R131, R134). -/
def Drive.Consistent (d : Drive) : Prop :=
  (∀ i : Nat, ∀ h : i < d.out.length, d.out[i].seq = d.next - BitVec.ofNat 8 (d.out.length - i))
    ∧ (d.out ≠ [] → d.sent = true) ∧ (d.link = .silent → d.out = [] ∧ d.sent = false ∧ d.last = 0)

/-- "The levels of the events in service are all different, and each event in service is pending"; no kind is in service
twice, and the kind whose ATN waits is in service (R173, R175). -/
def Attention.Consistent (a : Attention) : Prop :=
  (a.service.map (·.1)).Nodup ∧ (a.service.map (·.2)).Nodup ∧ (∀ m ∈ a.service, a.kinds[m.1].pending = true)
    ∧ ∀ k, a.waiting = some k → a.inService k = true

/-- The rotating lane order is a list of the eight lanes, each once, and the own station number is 1 to 62 (R149, R153). -/
def Port.Consistent (p : Port) : Prop := p.order.Perm lanes8 ∧ StationInRange p.station

/-- The planner state, the queue, the active bank and the arm agree: IDLE exactly while the active bank is empty, no plan
in IDLE and READY, some plan in DRAINING, and an arm only in STAMPING and DRAINING over a standby bank that is valid
(section 3.1, R41, R42, R55). -/
def State.JobConsistent (s : State) : Prop :=
  (s.planner.st = .idle ↔ s.active.isEmpty = true)
    ∧ (s.planner.st = .idle ∨ s.planner.st = .ready → s.planner.queue = [])
    ∧ (s.planner.st = .draining → s.planner.queue ≠ [])
    ∧ (s.jobs.arm.isSome = true →
        (s.planner.st = .stamping ∨ s.planner.st = .draining) ∧ s.standby.validate s.jobs.cfg = none)

/-- A plan of the queue has an entry without an outcome, its entries stand in increasing lane number, and it has at most
four moves (R56, R57). -/
def Plan.Consistent (p : Plan) : Prop :=
  p.done = false ∧ (p.entries.map (·.lane)).Pairwise (· < ·) ∧ p.moves.length ≤ 4

/-- Every plan of the queue is consistent. -/
def State.QueueConsistent (s : State) : Prop := ∀ p ∈ s.planner.queue, p.Consistent

/-- No repeat number stands twice in the queue (R56). -/
def State.RepeatsDistinct (s : State) : Prop := (s.planner.queue.map (·.repeatNo)).Nodup

/-- The unsent foil moves of a web in a plan. -/
def Plan.unsentOn (f : Fin 4) (p : Plan) : List Move := p.moves.filter (Move.canFollow f)

/-- The sum of the reserved amounts of a web's unsent moves (R89). -/
def State.reservedSum (s : State) (f : Fin 4) : Nat :=
  ((s.planner.queue.flatMap (Plan.unsentOn f)).map (·.reserved)).sum

/-- The foil account: reserved never exceeds remaining and is the sum over the unsent moves, the reserved amount of an
unsent move is its length, and an unsent move serves an undecided entry (R70, R88, R89). -/
def State.FoilConsistent (s : State) : Prop :=
  (∀ f : Fin 4, s.foil[f].reserved ≤ s.foil[f].remaining ∧ s.foil[f].remaining ≤ 2147483648
      ∧ s.foil[f].reserved = s.reservedSum f)
    ∧ ∀ p ∈ s.planner.queue, ∀ i : Nat, ∀ h : i < p.moves.length, p.moves[i].st.isUnsent = true →
        p.moves[i].reserved = p.moves[i].length ∧ p.entries.any (Entry.needs i) = true

/-- A foil move that a drive's outstanding record names is not unsent: it was sent when the record was made (R68, R132). -/
def State.RecordsSent (s : State) : Prop :=
  ∀ p ∈ s.planner.queue, ∀ i : Nat, ∀ h : i < p.moves.length, p.moves[i].st.isUnsent = true →
    ∀ d : Fin 12, ∀ r ∈ s.drives[d].out, r.item ≠ .fmv p.repeatNo i

/-- The tracker's items by its state: speed and staged pitch in their ranges, lock count at most 2 and 1 in LOCKING, no
coast count outside COASTING, an empty active bank only in UNLOCKED (R4, R8, R12, R15, R17, R22). -/
def State.TrackerConsistent (s : State) : Prop :=
  s.tracker.speed ≤ 500000 ∧ s.tracker.lock ≤ 2 ∧ (s.tracker.mode = .locking → s.tracker.lock = 1)
    ∧ (s.tracker.mode ≠ .coasting → s.tracker.coast = 0)
    ∧ (s.active.isEmpty = true → s.tracker.mode = .unlocked)
    ∧ ∀ l, s.tracker.staged = some l → 2000 ≤ l ∧ l ≤ 200000

/-! ## A flush (R83 to R86) -/

/-- The undecided entries of the queue with their plans, plans in queue order and entries in lane order. -/
def State.undecidedEntries (s : State) : List (Plan × Entry) :=
  s.planner.queue.flatMap fun p => (p.entries.filter (·.outcome.isNone)).map fun e => (p, e)

/-- The outcome of a lane of a plan whose undecided entries are decided REJECT FLUSHED. -/
def Plan.flushedOutcome (p : Plan) (l : Fin 8) : Option Decision :=
  (p.entries.find? (·.lane == l)).map fun e => e.outcome.getD (.reject .flushed)

/-- The repeat report of a plan closed by a flush (R82, R83). -/
def Plan.flushedReport (p : Plan) : RepeatReport :=
  { repeatNo := p.repeatNo, nip := p.nip, lanes := Vector.ofFn p.flushedOutcome, synth := p.synth, first := p.first,
    gap := false }

/-- Every queued plan is given up: the queue is empty, each undecided entry was decided REJECT and has its record, each
entry has counted for its lane, and the reserved foil is given back (R80, R81, R83, R102). -/
def State.GivenUp (s t : State) : Prop :=
  t.planner.queue = []
    ∧ t.report.nextLog = s.report.nextLog + BitVec.ofNat 16 s.undecidedEntries.length
    ∧ (∀ l : Fin 8,
        t.planner.stamped[l] = countLabel^[s.planner.queue.countP fun p => p.flushedOutcome l == some .stamped]
            s.planner.stamped[l]
          ∧ t.planner.rejected[l] = countLabel^[s.planner.queue.countP fun p =>
              (p.flushedOutcome l).isSome && p.flushedOutcome l != some .stamped] s.planner.rejected[l])
    ∧ ∀ f : Fin 4, t.foil[f].remaining = s.foil[f].remaining ∧ (s.FoilConsistent → t.foil[f].reserved = 0)

/-- Every queued plan is given up by a flush alone: each undecided entry is decided REJECT FLUSHED, in queue and lane
order, and PLAN_FLUSHED is pending with the cause when a plan was queued (R83 to R86). -/
def State.Flushed (s t : State) (cause : BitVec 32) : Prop :=
  s.GivenUp t
    ∧ (s.report.log.length ≤ 256 →
        s.report.LogTook t.report (s.undecidedEntries.map fun x => x.1.told x.2 (.reject .flushed)))
    ∧ (s.planner.queue ≠ [] → t.attention.kinds[(1 : Fin 18)].pending = true
        ∧ t.attention.kinds[(1 : Fin 18)].detail = cause)

/-! ## A cycle frame -/

/-- The blocks on a valid cycle frame before the tracker's tests: what the last frame left is taken, the window open, the
timer running, the ring-silent flag clear, every cassette and drive with its part to take, the frame's values in the
tracker (R4, R5, R150, R156, R168, log 2). -/
def State.frameOpened (s : State) (raw : List Byte) (p : List Byte) : State :=
  let v := (s.forward raw).settle
  { v with
    port := { v.port with timerOn := true, window := 6 }
    report := { v.report with ringSilent := false }
    cycDue := lanes8.map .cassette ++ drives12.map .drive
    tracker := { v.tracker with
      pos := BitVec.ofNat 32 (field p 2 4), speed := min 500000 (field p 6 4)
      line := if byteAt p 10 = 1 then .crawl else if byteAt p 10 = 2 then .run else .stop
      cycleNo := BitVec.ofNat 16 (field p 0 2), firstCycle := false } }

end Sys2Proof.Machine
end

