-- ==== Sys2Proof/Certificates/Slice0/Obligations.lean ====
section
/-! DEFINITION. The statements about the model, for the provers. "log n" is notes/assumptions/n.md. -/

section

open Sys2Proof Sys2Proof.Machine

/-! ## The step and its commands -/

/-- A step takes the command at the front of the queue and runs it on the queue's rest. On an empty queue the part idles,
the model's choice (log 4). -/
def Obligations.StepRunsTheFrontCommand : Prop :=
  (∀ (c : Instr) (rest : List Instr) (s : State), s.pending = c :: rest → step s = exec c (s.setPending rest))
    ∧ ∀ s : State, s.pending = [] → step s = .next s

/-- Every command in every state gives a next state and leaves the queue alone: nothing stops the part. That is the
model's reading of the manual, which stops the part nowhere (log 27), with its choices that an expiry, a slot or a
silence that is not due changes nothing (log 3) and that the queue outlives a power-on reset (log 8). -/
def Obligations.EveryCommandCompletes : Prop :=
  ∀ (c : Instr) (s : State), ∃ t : State, exec c s = .next t ∧ t.pending = s.pending

/-! ## Resets -/

/-- Power-on reset in every block, by the tables of R25, R27, R87, R88, R124, R142, R158, R168, R171 to R173, R49 and
section 2.4, and its release. The queue, the record of frames sent and the free-value counter go on, and Mt_prev and the
last echo become 0, and a cleared watch entry names lane 0, design 0 and STAMPED: the model's choices (logs 7, 8, 15, 23,
30). -/
def Obligations.PowerOnResetInEveryBlock : Prop :=
  (∀ (straps : BitVec 6) (s : State), ∃ t : State, exec (.powerOnReset straps) s = .next t
    ∧ t.port = { resetIn := true, station := if straps = 0 ∨ straps = 63 then none else some (straps.setWidth 8),
                 damaged := 0, order := [0, 1, 2, 3, 4, 5, 6, 7], timerOn := false, window := 0, down := s.port.down }
    ∧ t.tracker = { pos := 0, speed := 0, line := .stop, cycleNo := 0, firstCycle := true, mode := .unlocked,
                    mtPrev := 0, lock := 0, coast := 0, stray := 0, repeatNo := 0, staged := none }
    ∧ t.jobs.active = 0 ∧ t.jobs.arm = none
    ∧ (∀ b : Fin 2, (∀ i : Fin 64, t.jobs.banks[b].designs[i] = none) ∧ (∀ i : Fin 128, t.jobs.banks[b].seq[i] = none)
        ∧ (∀ f : Fin 4, t.jobs.banks[b].foil[f] = none)
        ∧ (∀ l : Fin 8, t.jobs.banks[b].lanes[l] =
            { mode := .off, slotA := 0, slotB := 0, seqStart := 0, seqLen := 1, onB := false, index := 0, trim := 0,
              hold := false, lo := 0, hi := 0, nsoak := 0, ndrift := 0 })
        ∧ t.jobs.banks[b].job = { lr := 0, w := 0, cmax := 0, tol := 0, ncoast := 0, vmin := 0 })
    ∧ t.jobs.cfg.sensor = none ∧ (∀ c : Fin 8, t.jobs.cfg.heaters[c] = none)
    ∧ (∀ d : Fin 12, t.jobs.cfg.driveStations[d] = none ∧ t.jobs.cfg.masks[d] = 0xFF)
    ∧ t.jobs.cfg.d = 1000 ∧ t.jobs.cfg.lc = 3000 ∧ t.jobs.cfg.lf = 4000 ∧ t.jobs.cfg.lmin = 500 ∧ t.jobs.cfg.nack = 8
    ∧ t.jobs.cfg.ntmp = 40 ∧ t.jobs.cfg.jump = 2000
    ∧ t.planner.st = .idle ∧ t.planner.queue = []
    ∧ (∀ l : Fin 8, t.planner.stamped[l] = 0 ∧ t.planner.rejected[l] = 0)
    ∧ (∀ f : Fin 4, t.foil[f] = { remaining := 0, reserved := 0, low := false, saved := 0 })
    ∧ (∀ c : Fin 8, t.cassettes[c] = { heat := .lost, soak := 0, drift := 0, since := 0 })
    ∧ (∀ d : Fin 12, t.drives[d] = { link := .silent, next := 0, out := [], sent := false, cycles := 0, last := 0,
                                     lastEcho := 0 })
    ∧ t.answers = [] ∧ t.report.rpts = [] ∧ t.report.ringSilent = false ∧ t.report.log = [] ∧ t.report.nextLog = 0
    ∧ (∀ i : Fin 4, t.report.watch[i] = { enabled := false, lane := 0, laneOn := false, design := 0, designOn := false,
                                          cls := .stamped, clsOn := false, once := false })
    ∧ (∀ k : Fin 18, t.attention.kinds[k].pending = false ∧ t.attention.kinds[k].detail = 0
        ∧ t.attention.kinds[k].count = 0 ∧ t.attention.kinds[k].enabled = false)
    ∧ (kinds18.map fun k => t.attention.kinds[k].level.val) = [0, 1, 1, 1, 1, 2, 2, 2, 3, 4, 5, 5, 5, 6, 6, 4, 6, 7]
    ∧ t.attention.service = [] ∧ t.attention.waiting = none
    ∧ t.cycDue = [] ∧ t.pending = s.pending ∧ t.freeCount = s.freeCount)
  ∧ ∀ s : State, exec .powerOnResetRelease s = .next { s with port := { s.port with resetIn := false } }

/-- While the reset input is asserted no frame is forwarded and none is sent. In through-only state every frame that
arrives is forwarded unchanged, damaged or not, and does nothing else; no slot sends and no silence expires. That
arrivals in reset are lost is the model's reading (log 10), and that a slot or a silence that is not there changes
nothing its choice (log 3). -/
def Obligations.ResetAndThroughOnly : Prop :=
  (∀ (c : Instr) (s : State), s.port.resetIn = true → ∃ t : State, exec c s = .next t ∧ t.port.down = s.port.down)
    ∧ (∀ (c : Instr) (raw : List Byte) (o : TakeOrder) (s : State), arrivingBytes c = some (raw, o) →
        s.port.resetIn = true → exec c s = .next s)
    ∧ (∀ (c : Instr) (raw : List Byte) (o : TakeOrder) (s : State), arrivingBytes c = some (raw, o) →
        s.port.resetIn = false → s.port.station = none →
        exec c s = .next { s with port := { s.port with down := s.port.down ++ [raw] } })
    ∧ ∀ (o : TakeOrder) (s : State), s.port.station = none →
        exec .injectionSlot s = .next s ∧ exec (.ringSilence o) s = .next s

/-! ## Frames at the ring port (section 7.1) -/

/-- The frame built from fields is read back as those fields, no bit of it dropped, and a payload over 64 bytes fails the
size test (section 10.1, R143). A frame-arrival row and a request row act as the arrival of their bytes, so that every row
is one case of the same judgement; that the rows are judged whole is the model's choice (logs 9, 26). -/
def Obligations.FramesReadBackAsBuilt : Prop :=
  (∀ f : Frame, (f.payload.length ≤ 64 → receive f.bytes = .ok f)
      ∧ (64 < f.payload.length → receive f.bytes = .error .length))
    ∧ ∀ (c : Instr) (raw : List Byte) (o : TakeOrder) (s : State), arrivingBytes c = some (raw, o) →
        exec c s = exec (.frameArrival raw o) s

/-- The receive check in its order, size, check, length field, with the check's CRC-16 from all ones by the polynomial
x^16 + x^12 + x^5 + 1, most significant bit first (R143), the least payload of a frame that would be read or consumed
(R144), and what a failure does: the frame goes nowhere, the count goes up, FRAME_ERROR is raised. That a short frame
counts so also when its source is the part itself, and a short request when four answers wait, is the model's reading
(log 25). -/
def Obligations.DamagedFramesAreCounted : Prop :=
  (∀ raw : List Byte, raw.length < 10 ∨ 74 < raw.length → receive raw = .error .length)
    ∧ (∀ raw : List Byte, 10 ≤ raw.length → raw.length ≤ 74 →
        raw.drop (raw.length - 2) ≠ be 2 (crc16 (raw.take (raw.length - 2))).toNat → receive raw = .error .check)
    ∧ (∀ raw : List Byte, 10 ≤ raw.length → raw.length ≤ 74 →
        raw.drop (raw.length - 2) = be 2 (crc16 (raw.take (raw.length - 2))).toNat →
        (byteAt raw 4).toNat ≠ raw.length - 10 → receive raw = .error .length)
    ∧ (∀ raw : List Byte, 10 ≤ raw.length → raw.length ≤ 74 →
        raw.drop (raw.length - 2) = be 2 (crc16 (raw.take (raw.length - 2))).toNat →
        (byteAt raw 4).toNat = raw.length - 10 →
        receive raw = .ok {
          kind := byteAt raw 0
          h := { dest := byteAt raw 1, src := byteAt raw 2, flags := byteAt raw 3, tag := byteAt raw 5,
                 rsvHi := byteAt raw 6, rsvLo := byteAt raw 7 }
          payload := (raw.drop 8).take (raw.length - 10) })
    ∧ (let bit (c : BitVec 16) : BitVec 16 := if c.getLsbD 15 then (c <<< 1) ^^^ 0x1021 else c <<< 1
       ∀ bs : List Byte, crc16 bs =
           bs.foldl (fun c b => bit^[8] (c ^^^ (b.setWidth 16).shiftLeft 8)) (0xFFFF : BitVec 16))
    ∧ ∀ (s : State) (own : Byte) (raw : List Byte) (o : TakeOrder), s.worksAs own →
        let damaged : Port := { s.port with damaged := if s.port.damaged < 65535 then s.port.damaged + 1 else 65535 }
        (receive raw = .error .check → exec (.frameArrival raw o) s = .next ((s.setPort damaged).raise 17 1))
          ∧ (receive raw = .error .length → exec (.frameArrival raw o) s = .next ((s.setPort damaged).raise 17 2))
          ∧ ∀ f : Frame, receive raw = .ok f → isRead s.jobs.cfg f = true ∨ isRequest own f = true →
              f.payload.length < leastPayload f.kind →
              exec (.frameArrival raw o) s = .next ((s.setPort damaged).raise 17 2)

/-- The dispositions of a frame that passed the checks, in their order: the part's own frame is removed; a request that
finds four answers waiting is forwarded with BOUNCED set and nothing else changed; a frame that is not read is forwarded
unchanged (R145 to R148). And which frames are read, by kind and source, which are requests of the part, and the least
payload of each kind (R144 to R146, section 10.2). -/
def Obligations.DispositionOfFrames : Prop :=
  (∀ (s : State) (own : Byte) (raw : List Byte) (o : TakeOrder) (f : Frame), s.worksAs own → receive raw = .ok f →
      (isRead s.jobs.cfg f = true ∨ isRequest own f = true → leastPayload f.kind ≤ f.payload.length) →
      (f.h.src = own → exec (.frameArrival raw o) s = .next s)
        ∧ (f.h.src ≠ own → isRequest own f = true → 4 ≤ s.answers.length → exec (.frameArrival raw o) s =
            .next { s with port := { s.port with down := s.port.down ++ [f.bounce.bytes] } })
        ∧ (f.h.src ≠ own → isRequest own f = false → isRead s.jobs.cfg f = false → exec (.frameArrival raw o) s =
            .next { s with port := { s.port with down := s.port.down ++ [raw] } }))
    ∧ (∀ f : Frame, f.bounce.body = f.body.set 3 (f.h.flags ||| 1))
    ∧ (∀ (c : StationCfg) (f : Frame), isRead c f = true ↔
        (f.kind = 0x01 ∧ f.h.src = 63) ∨ (f.kind = 0x02 ∧ c.sensor = some f.h.src)
          ∨ (f.kind = 0x03 ∧ ∃ k : Fin 8, c.heaters[k] = some f.h.src)
          ∨ (f.kind = 0x04 ∧ ∃ d : Fin 12, c.driveStations[d] = some f.h.src))
    ∧ (∀ (own : Byte) (f : Frame), isRequest own f = true ↔
        f.kind = 0x20 ∧ f.h.dest = own ∧ f.h.flags.getLsbD 0 = false)
    ∧ leastPayload 0x01 = 11 ∧ leastPayload 0x02 = 6 ∧ leastPayload 0x03 = 3 ∧ leastPayload 0x04 = 2
    ∧ leastPayload 0x20 = 4

/-! ## Cycle frames (chapter 1) -/

/-- A valid cycle frame leaves the frame's values in the tracker, opens a window of six slots, restarts the timer,
clears the ring-silent flag and is forwarded; it leaves the answers and the station configuration alone (R4, R5, R150,
R156, R168). Every cassette and drive that is not left to a step of its own (log 2) counts and makes its timeout and
dwell tests, with the entry to SILENT, READY, COLD or LOST and its event (R115 to R117, R133, R134); one that is left
has its part still to take. With no unit taken before its turn the whole frame is: the disturbance with its flush, or
the missing-mark tests; then the planner's pass over the plans in queue order, each plan's moves before its entries
(R67, R71 to R74); then the cassettes and the drives, in the order in which the model takes them (log 1). And what is
left to be taken: each unit takes it once, and all that is left is taken before the next cycle frame (log 2). -/
def Obligations.CycleFrameIsTaken : Prop :=
  (∀ (s : State) (h : Header) (p : List Byte) (o : TakeOrder), s.reads { kind := Frame.cyc, h, payload := p } →
    let raw := Frame.bytes { kind := Frame.cyc, h, payload := p }
    let v := (s.forward raw).settle
    let cfg := s.jobs.cfg
    let counting : List CycUnit := lanes8.map .cassette ++ drives12.map .drive
    ∃ t : State, exec (.cycArrival h p o) s = .next t
      ∧ t.tracker.cycleNo = BitVec.ofNat 16 (field p 0 2) ∧ t.tracker.pos = BitVec.ofNat 32 (field p 2 4)
      ∧ t.tracker.speed = min 500000 (field p 6 4)
      ∧ t.tracker.line = (if byteAt p 10 = 1 then .crawl else if byteAt p 10 = 2 then .run else .stop)
      ∧ t.tracker.firstCycle = false
      ∧ t.port = { s.port with timerOn := true, window := 6, down := s.port.down ++ [raw] }
      ∧ t.report.ringSilent = false ∧ t.answers = s.answers ∧ t.jobs.cfg = cfg ∧ t.freeCount = s.freeCount
      ∧ (∀ u ∈ t.cycDue, u ∈ o.own) ∧ (∀ u ∈ o.own, u ∉ o.points.flatten → u ∈ t.cycDue)
      ∧ (∀ c : Fin 8,
          (.cassette c ∉ o.own → ∃ b : Fin 2, (s.jobs.arm = none → b = s.jobs.active) ∧ t.cassettes[c] =
              let l := s.jobs.banks[b].lanes[c]
              v.cassettes[c].afterCycle cfg.ntmp l.nsoak l.ndrift)
          ∧ (.cassette c ∈ o.own → .cassette c ∉ o.points.flatten → t.cassettes[c] = v.cassettes[c])
          ∧ (v.cassettes[c].heat = .ready ∨ v.cassettes[c].heat = .drift →
              t.cassettes[c].heat = .lost ∨ t.cassettes[c].heat = .cold → t.attention.kinds[(6 : Fin 18)].pending = true))
      ∧ (∀ d : Fin 12,
          (.drive d ∉ o.own → t.drives[d] = v.drives[d].afterCycle cfg.nack)
          ∧ (.drive d ∈ o.own → .drive d ∉ o.points.flatten → t.drives[d] = v.drives[d])
          ∧ (v.drives[d].link ≠ .silent → t.drives[d].link = .silent →
              t.attention.kinds[(2 : Fin 18)].pending = true))
      ∧ (o.points = [] →
          let w := s.frameOpened raw p
          let u := if s.tracker.firstCycle = false ∧ (dist s.tracker.pos w.tracker.pos < 0
                ∨ (cfg.jump : Int) < dist s.tracker.pos w.tracker.pos)
            then (w.setTracker { w.tracker with mode := .unlocked, lock := 0, coast := 0 }).flush .disturbance true
            else (missingMarks 255 ([], w)).2
          let tests : List PlanTest := u.planner.queue.flatMap fun q =>
            (List.range q.moves.length).map (.move q.repeatNo) ++ q.entries.map fun e => .entry q.repeatNo e.lane
          t = (if .planner ∈ o.own then u.setCycDue (counting ++ [.planner]) else tests.foldl State.planTest u).takeUnits
            (counting.filter (· ∉ o.own))))
    ∧ ∀ s : State, s.settle = s.cycDue.foldl State.takeUnit s ∧ s.settlePlanner = s.takeUnit .planner
        ∧ (∀ us : List CycUnit, s.takeUnits us = us.foldl State.takeUnit s)
        ∧ (∀ u : CycUnit, u ∉ s.cycDue → s.takeUnit u = s)
        ∧ (CycUnit.planner ∈ s.cycDue → s.takeUnit .planner =
            (s.planner.queue.flatMap fun q => (List.range q.moves.length).map (PlanTest.move q.repeatNo)
                ++ q.entries.map fun e => PlanTest.entry q.repeatNo e.lane).foldl State.planTest
              (s.setCycDue (s.cycDue.filter (· != .planner))))

/-- A step that is negative or larger than the jump limit, with the first-cycle flag clear, is a disturbance: the
tracker is UNLOCKED with both counts 0, the queue is flushed, and stray count, repeat number and Mt_prev are kept (R6,
R84). Every queued plan is given up, and with no unit taken before the flush each undecided entry is decided REJECT
FLUSHED with its record, PLAN_FLUSHED carries DISTURBANCE, and each plan's report is handed over. And the flush itself,
for every cause, over the invariants of O58: the undecided entries decided in queue and lane order, one after another,
as O23 states for each, and then PLAN_FLUSHED raised (R83 to R86). That it is raised after the decisions, and after a
changeover taken when they empty the queue in DRAINING, is the model's reading (log 31). -/
def Obligations.DisturbanceFlushes : Prop :=
  (∀ (s : State) (h : Header) (p : List Byte) (o : TakeOrder), s.reads { kind := Frame.cyc, h, payload := p } →
    s.tracker.firstCycle = false →
    (dist s.tracker.pos (BitVec.ofNat 32 (field p 2 4)) < 0
      ∨ (s.jobs.cfg.jump : Int) < dist s.tracker.pos (BitVec.ofNat 32 (field p 2 4))) →
    ∃ t : State, exec (.cycArrival h p o) s = .next t ∧ t.tracker.mode = .unlocked ∧ t.tracker.lock = 0
      ∧ t.tracker.coast = 0 ∧ t.planner.queue = [] ∧ t.tracker.stray = s.tracker.stray
      ∧ t.tracker.repeatNo = s.tracker.repeatNo ∧ t.tracker.mtPrev = s.tracker.mtPrev
      ∧ (s.QueueConsistent → s.RepeatsDistinct → s.settle.GivenUp t
          ∧ (o.points = [] → s.settle.Flushed t 1
              ∧ t.report.rpts = (s.settle.planner.queue.map Plan.flushedReport).foldl reportJoined s.settle.report.rpts)))
    ∧ ∀ (s : State) (cause : FlushCause) (reports : Bool), s.QueueConsistent → s.RepeatsDistinct →
        let code : BitVec 32 := match cause with | .disturbance => 1 | .ringSilence => 2 | .softReset => 3
        let decided := s.undecidedEntries.foldl
          (fun v x => v.decideEntry x.1.repeatNo x.2.lane (.reject .flushed) reports) s
        s.flush cause reports = (if s.planner.queue = [] then s else decided.raise 1 code)
          ∧ s.Flushed (s.flush cause reports) code
          ∧ (s.flush cause reports).report.rpts = (if reports = true ∧ s.report.ringSilent = false
              then (s.planner.queue.map Plan.flushedReport).foldl reportJoined s.report.rpts else s.report.rpts)

/-- The missing-mark test of a cycle frame that is no disturbance, while no changeover is armed and no pitch staged: no
mark is missing before Mp + W; a missing mark drops a lock in progress, and is synthesized in LOCKED and COASTING, with
COASTING and MARK_MISSED below Ncoast and UNLOCKED and REGISTER_LOST at Ncoast (R15 to R17). And the test itself in
every state, staged pitch, arm and repetition included: it is made again after each synthesis, as the cycle frame of O8
makes it. That the lock count is kept when coasting ends (log 24), that the event comes before the hand-over (log 31)
and that a changeover among the syntheses is read by the next test (log 32) are the model's readings. -/
def Obligations.MissingMarkTest : Prop :=
  (∀ (s : State) (h : Header) (p : List Byte) (o : TakeOrder), s.reads { kind := Frame.cyc, h, payload := p } →
    s.jobs.arm = none → s.tracker.staged = none →
    let pos := BitVec.ofNat 32 (field p 2 4)
    let job := s.active.job
    let mp := s.tracker.mtPrev + len job.lr
    let took := s.tracker.take (CycleFrame.ofPayload p)
    (s.tracker.firstCycle = true ∨ (0 ≤ dist s.tracker.pos pos ∧ dist s.tracker.pos pos ≤ s.jobs.cfg.jump)) →
    ∃ t : State, exec (.cycArrival h p o) s = .next t
      ∧ (s.tracker.mode = .unlocked ∨ dist (mp + len job.w) pos < 0 → t.tracker = took)
      ∧ (s.tracker.mode = .locking → 0 ≤ dist (mp + len job.w) pos →
          t.tracker = { took with mode := .unlocked, lock := 0 })
      ∧ (0 ≤ dist (mp + len job.w) pos → dist (mp + len job.lr + len job.w) pos < 0 →
          s.tracker.mode = .locked ∨ s.tracker.mode = .coasting →
          let c := if s.tracker.mode = .locked then 1 else s.tracker.coast + 1
          t.tracker = { took with
              mode := if c < job.ncoast then .coasting else .unlocked, coast := if c < job.ncoast then c else 0,
              mtPrev := mp, repeatNo := s.tracker.repeatNo + 1 }
          ∧ (c < job.ncoast → t.attention.kinds[(9 : Fin 18)].pending = true
              ∧ t.attention.kinds[(9 : Fin 18)].detail = BitVec.ofNat 32 c)
          ∧ (job.ncoast ≤ c → t.attention.kinds[(5 : Fin 18)].pending = true
              ∧ t.attention.kinds[(5 : Fin 18)].detail = s.tracker.repeatNo + 1)))
    ∧ ∀ (n : Nat) (s : State),
        let mp := s.tracker.mtPrev + len s.active.job.lr
        let missing : Prop := 0 ≤ dist (mp + len s.active.job.w) s.tracker.pos
        let c := if s.tracker.mode = .locked then 1 else s.tracker.coast + 1
        let no := s.tracker.repeatNo + 1
        let synth (v : State) (m : TrackMode) (coast : Nat) : State :=
          (v.setTracker { s.tracker with mode := m, coast, mtPrev := mp, repeatNo := no }).handOver
            { repeatNo := no, mt := mp, residual := 0, mode := m, synth := true }
        (¬missing ∨ s.tracker.mode = .unlocked → missingMarks (n + 1) ([], s) = ([], s))
          ∧ (missing → s.tracker.mode = .locking → missingMarks (n + 1) ([], s) =
              ([], s.setTracker { s.tracker with mode := .unlocked, lock := 0 }))
          ∧ (missing → s.tracker.mode = .locked ∨ s.tracker.mode = .coasting →
              (c < s.active.job.ncoast → missingMarks (n + 1) ([], s) =
                missingMarks n ([], synth (s.raise 9 (BitVec.ofNat 32 c)) .coasting c))
              ∧ (s.active.job.ncoast ≤ c → missingMarks (n + 1) ([], s) =
                missingMarks n ([], synth (s.raise 5 no) .unlocked 0)))

/-! ## Marks (chapter 1) -/

/-- A mark taken with an empty active bank, in UNLOCKED and in LOCKING: at its measured position with residual 0, with the
next repeat number, handed over with the state after it (R8, R11, R12, R20, R21). What the planner has still to do of the
last cycle frame is done first (R66, log 2), and REGISTER_LOCKED is raised before the hand-over, the model's reading
(log 31). -/
def Obligations.MarksTakenAsMeasured : Prop :=
  ∀ (s : State) (h : Header) (p : List Byte), s.reads { kind := Frame.mrk, h, payload := p } →
    let u := (s.forward (Frame.bytes { kind := Frame.mrk, h, payload := p })).settlePlanner
    let mm := BitVec.ofNat 32 (field p 0 4)
    let n := u.tracker.repeatNo + 1
    let e := dist (u.tracker.mtPrev + len u.active.job.lr) mm
    let close : Prop := e.natAbs ≤ u.active.job.w ∧ e.natAbs ≤ u.active.job.tol
    let taken (v : State) (m : TrackMode) (lock : Nat) : State :=
      (v.setTracker { u.tracker with mode := m, lock, mtPrev := mm, repeatNo := n }).handOver
        { repeatNo := n, mt := mm, residual := 0, mode := m, synth := false }
    (u.active.isEmpty = true → exec (.mrkArrival h p) s = .next (taken u .unlocked 0))
      ∧ (u.active.isEmpty = false → u.tracker.mode = .unlocked → exec (.mrkArrival h p) s = .next (taken u .locking 1))
      ∧ (u.active.isEmpty = false → u.tracker.mode = .locking → u.tracker.lock = 1 →
          (close → exec (.mrkArrival h p) s = .next (taken (u.raise 10 n) .locked 2))
          ∧ (¬close → exec (.mrkArrival h p) s = .next (taken u .locking 1)))

/-- A mark in LOCKED or COASTING: in the window it is corrected by the error clamped to Cmax, tracked at Mp + c with
residual e - c, and handed over as LOCKED; out of the window it is a stray mark, counted and nothing else (R13, R14, with
the correction of R10 and the saturating count of R19). What the planner has still to do of the last cycle frame is done
first (R66, log 2), and the lock count is kept when coasting ends, the model's reading (log 24). -/
def Obligations.MarksCorrectedOrStray : Prop :=
  ∀ (s : State) (h : Header) (p : List Byte), s.reads { kind := Frame.mrk, h, payload := p } →
    let u := (s.forward (Frame.bytes { kind := Frame.mrk, h, payload := p })).settlePlanner
    let mm := BitVec.ofNat 32 (field p 0 4)
    let n := u.tracker.repeatNo + 1
    let mp := u.tracker.mtPrev + len u.active.job.lr
    let e := dist mp mm
    let cmax : Int := u.active.job.cmax
    let c : Int := if cmax < e then cmax else if e < -cmax then -cmax else e
    let mt := mp + BitVec.ofInt 32 c
    u.active.isEmpty = false → u.tracker.mode = .locked ∨ u.tracker.mode = .coasting →
    (e.natAbs ≤ u.active.job.w → exec (.mrkArrival h p) s = .next ((u.setTracker { u.tracker with
        mode := .locked, coast := if u.tracker.mode = .coasting then 0 else u.tracker.coast,
        mtPrev := mt, repeatNo := n }).handOver { repeatNo := n, mt, residual := e - c, mode := .locked, synth := false }))
      ∧ (u.active.job.w < e.natAbs → exec (.mrkArrival h p) s = .next (u.setTracker { u.tracker with
          stray := if u.tracker.stray < 65535 then u.tracker.stray + 1 else 65535 }))

/-- What becomes of a hand-over by the planner's state, with the staged pitch coming into force after it: discarded in
IDLE and READY; the changeover check in DRAINING; in STAMPING the changeover check and the planning, or with 32 plans
queued the overflow, which leaves the queue, the banks and the arm alone: each lane in use is SUPPRESSED OVERFLOW, with
a record without design and contact start, and counts; the repeat's report is handed over, and PLAN_OVERFLOW raised
(R23, R42, R44, R52, R60, R81, R82, R167, R169). -/
def Obligations.HandOverByPlannerState : Prop :=
  (∀ (s : State) (h : HandOver),
      (s.planner.st = .idle ∨ s.planner.st = .ready → s.handOver h = s.takePitch)
        ∧ (s.planner.st = .draining → s.handOver h = (s.changeoverCheck h.repeatNo).takePitch)
        ∧ (s.planner.st = .stamping → s.planner.queue.length < 32 →
            s.handOver h = ((s.changeoverCheck h.repeatNo).planEntries h (s.jobs.isDue h.repeatNo)).takePitch)
        ∧ (s.planner.st = .stamping → 32 ≤ s.planner.queue.length → ∃ t : State, s.handOver h = t.takePitch
            ∧ t = { s with planner := { s.planner with rejected := t.planner.rejected }, report := t.report,
                           attention := t.attention }
            ∧ (∀ l : Fin 8, t.planner.rejected[l] = if s.active.lanes[l].mode = .off then s.planner.rejected[l]
                else countLabel s.planner.rejected[l])
            ∧ (s.report.log.length ≤ 256 → s.report.LogTook t.report
                ((lanes8.filter fun l => s.active.lanes[l].mode != .off).map fun l => {
                  seq := 0, repeatNo := h.repeatNo, lane := l, design := none, decision := .suppressed .overflow
                  residual := h.residual, contact := none, synth := h.synth, first := false, gap := false }))
            ∧ t.report.ringSilent = s.report.ringSilent
            ∧ t.report.rpts = (if s.report.ringSilent = true then s.report.rpts else reportJoined s.report.rpts {
                repeatNo := h.repeatNo, nip := h.mt + len s.jobs.cfg.d, synth := h.synth, first := false, gap := false
                lanes := Vector.ofFn fun l =>
                  if s.active.lanes[l].mode = .off then none else some (.suppressed .overflow) })
            ∧ t.attention.kinds[(7 : Fin 18)].pending = true
            ∧ t.attention.kinds[(7 : Fin 18)].detail = h.repeatNo))
    ∧ (∀ s : State, s.tracker.staged = none → s.takePitch = s)
    ∧ (∀ (s : State) (l : Nat), s.tracker.staged = some l → s.takePitch =
        (s.setActive { s.active with job := { s.active.job with lr := l } }).setTracker { s.tracker with staged := none })
    ∧ (∀ (s : State) (n : Rep),
        (s.jobs.arm = none → s.changeoverCheck n = s)
        ∧ (s.jobs.arm = some .next → s.changeoverCheck n = s.takeChangeover)
        ∧ ∀ t : Rep, s.jobs.arm = some (.atRepeat t) →
            s.changeoverCheck n = if 0 ≤ dist t n then s.takeChangeover else s)
    ∧ ∀ s : State, let other : Fin 2 := if s.jobs.active = 0 then 1 else 0
        s.takeChangeover = ((s.setJobs { s.jobs with active := other, arm := none }).setTracker
          { s.tracker with staged := none }).raise 12 (BitVec.ofNat 32 other.val)

/-! ## Planning a repeat (chapter 3) -/

/-- The plan of a repeat: its own items from the hand-over and D; one entry for each lane in use whose design, chosen by
the lane's mode and progress (R28), is defined (a lane whose design is not is ruled out by validation, log 22), in
increasing lane number; each entry with the design's items, its contact start, release and late points and the outcome
of the first failing check; a foil entry that stays undecided has a move of its web that serves it, any other undecided
entry has none (R57, R58, R61 to R63, R95). Each web's group is fitted to its room and reserved whole, with the low test
and the saved total, or refused whole with FOIL_OUT (R93, R94, R96, R97; over a web that is absent by log 22). The lanes
whose entry is undecided or INHIBITED move their rotation on, with SEQUENCE_WRAP at a wrap (R64). The entries decided at
planning have their records, and the plan joins the queue's tail when an entry is undecided; otherwise it closes at
once, counted and reported (R65). Nothing else changes but the watch entries and the attention unit. -/
def Obligations.RepeatIsPlanned : Prop :=
  ∀ (s : State) (h : HandOver) (first : Bool),
    let chosen (l : Fin 8) : Option (Fin 64) :=
      let x := s.active.lanes[l]
      match x.mode with
      | .off => none
      | .fixed => some x.slotA
      | .alternate => some (if x.onB then x.slotB else x.slotA)
      | .sequence => (s.active.seq[x.seqStart.val + x.index]?).getD none
    ∃ (t : State) (p : Plan), s.planEntries h first = t
      ∧ p.repeatNo = h.repeatNo ∧ p.mt = h.mt ∧ p.residual = h.residual ∧ p.synth = h.synth ∧ p.first = first
      ∧ p.nip = h.mt + len s.jobs.cfg.d ∧ p.vmin = s.active.job.vmin
      ∧ p.entries.map (·.lane) = lanes8.filter (fun l =>
          ((chosen l).bind fun d => s.active.designs[d]).isSome)
      ∧ p.moves.length ≤ 4
      ∧ (∀ e ∈ p.entries, chosen e.lane = some e.design
          ∧ ∃ r : Design, s.active.designs[e.design] = some r ∧ e.kind = r.kind ∧ e.segment = r.segment ∧ e.web = r.web
            ∧ e.length = r.length ∧ e.pressure = r.pressure
            ∧ e.contact = p.nip + len r.offset + BitVec.ofInt 32 s.active.lanes[e.lane].trim
            ∧ e.release = e.contact - len s.jobs.cfg.lc ∧ e.late = e.contact - len s.jobs.cfg.lmin
            ∧ (∀ why : Reason, s.suppression h e.lane r = some why → e.outcome = some (.suppressed why))
            ∧ (s.suppression h e.lane r = none →
                e.outcome = none ∨ (r.kind.isFoil = true ∧ e.outcome = some (.suppressed .foilOut)))
            ∧ (e.outcome = none → e.phs = .unsent ∧ (r.kind.isFoil = false → e.move = none)
                ∧ (r.kind.isFoil = true → ∃ (i : Nat) (m : Move), e.move = some i ∧ p.moves[i]? = some m
                    ∧ some m.web = r.web ∧ e.lane ∈ m.lanes ∧ m.st = .unsent ∧ m.reserved = m.length ∧ m.chain = false)))
      -- the groups and the foil account
      ∧ (let web (f : Fin 4) : FoilWeb := (s.active.foil[f]).getD { first := 0, last := 0, fm := 0, gmin := 0, low := 0 }
         let group (f : Fin 4) : List Entry := p.entries.filter fun e =>
           e.web == some f && e.kind.isFoil && (e.outcome.isNone || e.outcome == some (.suppressed .foilOut))
         let room (f : Fin 4) : Nat := 4 - (p.moves.filter fun m => decide (m.web < f)).length
           - (webs4.filter fun g => decide (f < g) && !(group g).isEmpty).length
         let runs (f : Fin 4) : List Run := groupRuns (web f) p.nip (room f) (group f)
         let need (f : Fin 4) : Nat := ((runs f).map fun r => (r.stop - r.start).toNat).sum
         let available (f : Fin 4) : Nat := s.foil[f].remaining - s.foil[f].reserved
         let reserves (f : Fin 4) : Prop := group f ≠ [] ∧ need f ≤ available f
         let refuses (f : Fin 4) : Prop := group f ≠ [] ∧ available f < need f
         let goesLow (f : Fin 4) : Prop := reserves f ∧ s.foil[f].low = false ∧ available f - need f < (web f).low
         (∀ f : Fin 4,
           (reserves f → (∀ e ∈ group f, e.outcome = none)
             ∧ p.moves.filter (·.web == f) = (runs f).map (fun r =>
                 { web := f, start := r.start, stop := r.stop, length := (r.stop - r.start).toNat
                   reserved := (r.stop - r.start).toNat, st := .unsent, chain := false, lanes := r.lanes
                   fm := (web f).fm, gmin := (web f).gmin })
             ∧ t.foil[f].remaining = s.foil[f].remaining ∧ t.foil[f].reserved = s.foil[f].reserved + need f
             ∧ t.foil[f].low = (s.foil[f].low || decide (available f - need f < (web f).low))
             ∧ t.foil[f].saved = min 4294967295 (s.foil[f].saved + (s.active.job.lr - need f)))
           ∧ (refuses f → ∀ e ∈ group f, e.outcome = some (.suppressed .foilOut))
           ∧ (¬reserves f → p.moves.filter (·.web == f) = [] ∧ t.foil[f] = s.foil[f]))
         ∧ ((∃ f, refuses f) → t.attention.kinds[(4 : Fin 18)].pending = true
             ∧ ∃ f, refuses f ∧ t.attention.kinds[(4 : Fin 18)].detail = BitVec.ofNat 32 f.val)
         ∧ ((∀ f, ¬refuses f) → t.attention.kinds[(4 : Fin 18)] = s.attention.kinds[(4 : Fin 18)])
         ∧ ((∃ f, goesLow f) → t.attention.kinds[(8 : Fin 18)].pending = true
             ∧ ∃ f, goesLow f ∧ t.attention.kinds[(8 : Fin 18)].detail = BitVec.ofNat 32 f.val)
         ∧ ((∀ f, ¬goesLow f) → t.attention.kinds[(8 : Fin 18)] = s.attention.kinds[(8 : Fin 18)]))
      -- the progress of the lanes
      ∧ (let advances (l : Fin 8) : Prop := ∃ e ∈ p.entries, e.lane = l
           ∧ (e.outcome = none ∨ e.outcome = some (.suppressed .inhibited))
         let x (l : Fin 8) : Lane := s.active.lanes[l]
         let wraps (l : Fin 8) : Prop := advances l ∧ (x l).mode = .sequence ∧ (x l).seqLen ≤ (x l).index + 1
         (∀ l : Fin 8,
           (¬advances l → t.active.lanes[l] = x l)
           ∧ (advances l → t.active.lanes[l] = { x l with
               onB := if (x l).mode = .alternate then !(x l).onB else (x l).onB
               index := if (x l).mode = .sequence then (if (x l).seqLen ≤ (x l).index + 1 then 0 else (x l).index + 1)
                 else (x l).index }))
         ∧ ((∃ l, wraps l) → t.attention.kinds[(13 : Fin 18)].pending = true
             ∧ ∃ l, wraps l ∧ t.attention.kinds[(13 : Fin 18)].detail = BitVec.ofNat 32 l.val)
         ∧ ((∀ l, ¬wraps l) → t.attention.kinds[(13 : Fin 18)] = s.attention.kinds[(13 : Fin 18)]))
      -- the records, and the joining or the closing of the plan
      ∧ (s.report.log.length ≤ 256 →
          s.report.LogTook t.report (p.entries.filterMap fun e => e.outcome.map fun d => p.told e d))
      ∧ t.planner.queue = (if p.entries.any (·.outcome.isNone) then s.planner.queue ++ [p] else s.planner.queue)
      ∧ t.planner.st = s.planner.st ∧ t.planner.stamped = s.planner.stamped
      ∧ (∀ l : Fin 8, t.planner.rejected[l] = if p.entries.any (·.outcome.isNone) = false ∧ l ∈ p.entries.map (·.lane)
          then countLabel s.planner.rejected[l] else s.planner.rejected[l])
      ∧ t.report.rpts = (if p.entries.any (·.outcome.isNone) = true ∨ s.report.ringSilent = true then s.report.rpts
          else reportJoined s.report.rpts {
            repeatNo := h.repeatNo, nip := p.nip, synth := h.synth, first, gap := false
            lanes := Vector.ofFn fun l => (p.entries.find? (·.lane == l)).bind (·.outcome) })
      ∧ t.report.ringSilent = s.report.ringSilent
      ∧ t = { s with planner := t.planner, foil := t.foil, report := t.report, attention := t.attention,
                     jobs := (s.setActive { s.active with lanes := t.active.lanes }).jobs }

/-- The eight checks in their order: the reason is that of the first one that fails (the table of R62). -/
def Obligations.SuppressionInOrder : Prop :=
  ∀ (s : State) (h : HandOver) (l : Fin 8) (r : Design),
    s.suppression h l r = (([
      (s.active.lanes[l].hold, Reason.held),
      (r.inhibit, Reason.inhibited),
      (h.mode == .unlocked || h.mode == .locking, Reason.unlocked),
      (decide ((s.active.job.tol : Int) < h.residual) || decide (h.residual < -(s.active.job.tol : Int)), Reason.register),
      (s.tracker.line != .run || decide (s.tracker.speed < s.active.job.vmin), Reason.speed),
      (r.kind != .embossCold && s.cassettes[l].heat != .ready && s.cassettes[l].heat != .drift, Reason.heat),
      (s.drives[cassetteDrive l].link != .answering, Reason.drive),
      ((r.kind == .foil || r.kind == .foilEmboss)
          && (match r.web with | none => true | some f => s.drives[foilDrive f].link != .answering), Reason.foilDrive)
      ] : List (Bool × Reason)).find? (·.1)).map (·.2)

/-- The runs of a foil web's group whose images lie within the ranges of section 2.1. For every room: no more runs than
the room, every gap between neighbours at least Gmin, every entry's lane in the runs once and in increasing number, and
every entry's foil interval inside a run that holds its lane. While the room allows, the runs are those of R92: from the
start of an interval of theirs to the end of one, each interval the run's first or nearer than Gmin to the end of an
earlier one. Otherwise they are joined one pair at a time: adjacent runs with the smallest gap, the pair nearest the
start (R91 to R93). -/
def Obligations.FoilRunsKeepTheGap : Prop :=
  ∀ (fw : FoilWeb) (nip : Pos) (group : List Entry), fw.fm ≤ 2000 → fw.gmin ≤ 20000 →
    (∀ e ∈ group, e.length ≤ 60000 ∧ -1000 ≤ dist nip e.contact ∧ dist nip e.contact ≤ 201000) →
    let begins (e : Entry) : Pos := e.contact - len fw.fm
    let ends (e : Entry) : Pos := e.contact + len e.length + len fw.fm
    let merged := groupRuns fw nip group.length group
    (∀ room : Nat, 1 ≤ room →
      let runs := groupRuns fw nip room group
      runs.length ≤ room
        ∧ (∀ i : Nat, ∀ h : i + 1 < runs.length, (fw.gmin : Int) ≤ dist runs[i].stop runs[i + 1].start)
        ∧ (runs.flatMap (·.lanes)).Perm (group.map (·.lane)) ∧ (∀ r ∈ runs, r.lanes.Pairwise (· ≤ ·))
        ∧ (∀ e ∈ group, ∃ r ∈ runs, e.lane ∈ r.lanes ∧ 0 ≤ dist r.start (begins e) ∧ 0 ≤ dist (ends e) r.stop)
        ∧ (merged.length ≤ room → runs = merged)
        ∧ (room < merged.length → ∃ (front back : List Run) (a b joined : Run),
            let more := groupRuns fw nip (room + 1) group
            more = front ++ a :: b :: back ∧ runs = front ++ joined :: back
              ∧ joined.start = a.start ∧ joined.stop = (if 0 < dist a.stop b.stop then b.stop else a.stop)
              ∧ joined.lanes.Perm (a.lanes ++ b.lanes)
              ∧ ∀ i : Nat, ∀ h : i + 1 < more.length, dist a.stop b.start ≤ dist more[i].stop more[i + 1].start
                  ∧ (i < front.length → dist a.stop b.start < dist more[i].stop more[i + 1].start)))
      ∧ ∃ parts : List (List Entry), parts.flatten.Perm group ∧ List.Forall₂ (fun (es : List Entry) (r : Run) =>
          r.lanes.Perm (es.map (·.lane)) ∧ (∃ e ∈ es, r.start = begins e) ∧ (∃ e ∈ es, r.stop = ends e)
            ∧ ∀ e ∈ es, begins e = r.start
                ∨ ∃ x ∈ es, dist nip (begins x) < dist nip (begins e) ∧ dist (ends x) (begins e) < (fw.gmin : Int))
          parts merged

/-! ## Cassettes (chapter 5) -/

/-- A temperature report moves every cassette whose heater station is its source by the table of section 5.3 against the
band of its lane, in any order of service, and nothing else but the attention unit, in which CASSETTE_COLD is raised for
each cassette served that was READY, out of band and of a lane with Ndrift 0, in the order of service (R111 to R114,
R118). -/
def Obligations.TemperatureReports : Prop :=
  ∀ (s : State) (h : Header) (p : List Byte) (o : TakeOrder), s.reads { kind := Frame.tmp, h, payload := p } →
    let temp := sfield p 0 2
    let fault := (byteAt p 2).getLsbD 0
    let inBand (c : Fin 8) : Bool :=
      !fault && decide (s.active.lanes[c].lo ≤ temp) && decide (temp ≤ s.active.lanes[c].hi)
    let cold (c : Fin 8) : Bool := s.jobs.cfg.heaters[c] == some h.src && s.cassettes[c].heat == .ready
      && s.active.lanes[c].ndrift == 0 && !inBand c
    ∃ t : State, exec (.tmpArrival h p o) s = .next t
      ∧ (∀ c : Fin 8, t.cassettes[c] = if s.jobs.cfg.heaters[c] = some h.src
          then s.cassettes[c].reported (inBand c) s.active.lanes[c].nsoak s.active.lanes[c].ndrift else s.cassettes[c])
      ∧ (t.setCassettes s.cassettes).setAttention s.attention =
          { s with port := { s.port with down := s.port.down ++ [Frame.bytes { kind := Frame.tmp, h, payload := p }] } }
      ∧ ∃ order : List (Fin 8), order.Perm (lanes8.filter cold) ∧ (o.cassettes = [] → order = lanes8.filter cold)
          ∧ t.attention = (order.foldl (fun v c => v.raise 6 (BitVec.ofNat 32 c.val)) s).attention

/-- A cassette's part of a cycle frame: the count since the last TMP, the timeout before the dwells, the soak and the
drift; the three rows take it when it completes their event, and change nothing when it does not (R115 to R117; logs 2,
3). That Ntmp, Nsoak and Ndrift are read as they stand at the step is the model's choice (log 34). -/
def Obligations.CassetteCycleAndExpiries : Prop :=
  ∀ (s : State) (c : Fin 8),
    let x := s.cassettes[c]
    let l := s.active.lanes[c]
    let since := if x.since < 4000 then x.since + 1 else 4000
    let due : Prop := CycUnit.cassette c ∈ s.cycDue
    let lost : Prop := s.jobs.cfg.ntmp ≤ since ∧ x.heat ≠ .lost
    let soaked : Prop := ¬lost ∧ x.heat = .soak ∧ l.nsoak ≤ x.soak + 1
    let cooled : Prop := ¬lost ∧ x.heat = .drift ∧ l.ndrift ≤ x.drift + 1
    let with_ (y : Cassette) : State :=
      (s.setCycDue (s.cycDue.filter (· != CycUnit.cassette c))).setCassettes (s.cassettes.set c y)
    (due → lost → x.heat = .ready ∨ x.heat = .drift →
        exec (.tmpTimeout c) s = .next ((with_ { x with heat := .lost, since }).raise 6 (BitVec.ofNat 32 c.val)))
      ∧ (due → lost → x.heat ≠ .ready → x.heat ≠ .drift →
          exec (.tmpTimeout c) s = .next (with_ { x with heat := .lost, since }))
      ∧ (due → soaked → exec (.soakComplete c) s = .next (with_ { x with heat := .ready, soak := x.soak + 1, since }))
      ∧ (due → cooled → exec (.driftExpiry c) s =
          .next ((with_ { x with heat := .cold, drift := x.drift + 1, since }).raise 6 (BitVec.ofNat 32 c.val)))
      ∧ (¬(due ∧ lost) → exec (.tmpTimeout c) s = .next s)
      ∧ (¬(due ∧ soaked) → exec (.soakComplete c) s = .next s)
      ∧ (¬(due ∧ cooled) → exec (.driftExpiry c) s = .next s)
      ∧ (due → ¬lost → ¬soaked → ¬cooled → s.takeUnit (.cassette c) = with_ {
          heat := x.heat
          soak := if x.heat = .soak then x.soak + 1 else x.soak
          drift := if x.heat = .drift then x.drift + 1 else x.drift
          since })

/-! ## Drives (chapter 6) -/

/-- A drive status frame takes every drive whose drive station is its source through the five steps, each by its own
mask and link, and leaves the other drives, the tracker's positions, the cassettes and the answers alone. DRIVE_FAULT is
raised for a drive that a faulty frame finds ANSWERING or SILENT, and DRIVE_WARN for one with an unmasked flag that its
last flags did not hold. The planner, the banks, the foil account and the reports change, drive by drive in some order,
by the acknowledgement of the setpoints that the echo covers, oldest first, and the fault notice after it, and by
nothing else: the record whose number the echo equals and every older one leave the list, and the entry or the move of
each becomes ACKNOWLEDGED (R69, R78, R127 to R131). The last echo, which every frame read writes, is the model's item
(log 30). -/
def Obligations.DriveStatusFrames : Prop :=
  ∀ (s : State) (h : Header) (p : List Byte) (o : TakeOrder), s.reads { kind := Frame.dst, h, payload := p } →
    let flags := byteAt p 0
    let echo := byteAt p 1
    let faulty (d : Fin 12) : Bool := flags &&& s.jobs.cfg.masks[d] != 0
    let served (d : Fin 12) : Prop := s.jobs.cfg.driveStations[d] = some h.src
    let faults (d : Fin 12) : Prop := served d ∧ faulty d = true ∧ s.drives[d].link ≠ .faulted
    let warns (d : Fin 12) : Prop := served d ∧ flags &&& ~~~s.jobs.cfg.masks[d] &&& ~~~s.drives[d].last ≠ 0
    let cell (v : State) (k : Fin 18) : EventCell := v.attention.kinds[k]
    ∃ t : State, exec (.dstArrival h p o) s = .next t
      ∧ (∀ d : Fin 12, t.drives[d] = if s.jobs.cfg.driveStations[d] = some h.src
          then s.drives[d].afterDst (faulty d) flags echo else s.drives[d])
      ∧ t.port = { s.port with down := s.port.down ++ [Frame.bytes { kind := Frame.dst, h, payload := p }] }
      ∧ t.cassettes = s.cassettes ∧ t.answers = s.answers ∧ t.cycDue = s.cycDue ∧ t.jobs.cfg = s.jobs.cfg
      ∧ { t.tracker with staged := s.tracker.staged } = s.tracker
      ∧ ((∃ d, faults d) → (cell t 3).pending = true ∧ ∃ d, faults d ∧ (cell t 3).detail = BitVec.ofNat 32 d.val)
      ∧ ((∀ d, ¬faults d) → cell t 3 = cell s 3)
      ∧ ((∃ d, warns d) → (cell t 11).pending = true ∧ ∃ d, warns d ∧ (cell t 11).detail = BitVec.ofNat 32 d.val)
      ∧ ((∀ d, ¬warns d) → cell t 11 = cell s 11)
      ∧ ∃ order : List (Fin 12), order.Nodup ∧ (∀ d : Fin 12, d ∈ order ↔ served d)
          ∧ (o.drives = [] → order.Pairwise (· < ·))
          ∧ (let w := order.foldl (fun v d =>
               let heard := (s.drives[d].out.take (s.drives[d].covered echo)).foldl (fun u r => u.hears r.item) v
               if faulty d && s.drives[d].link != .faulted then heard.notice d .driveFault else heard) s
             t.planner = w.planner ∧ t.jobs = w.jobs ∧ t.foil = w.foil ∧ t.report = w.report)

/-- A drive's part of a cycle frame: every age and the cycles since the last DST counted; a drive that is not SILENT and
meets a timeout enters SILENT with its list, flag and last flags cleared, DRIVE_SILENT is raised and the planner hears
the notice. The two rows take it when it completes their timeout, and change nothing when it does not (R133, R134; logs
2, 3). That Nack is read as it stands at the step is the model's choice (log 34), DRIVE_SILENT before the notice its
reading (log 31), and the last echo, which is kept, its item (log 30). -/
def Obligations.DriveCycleAndTimeouts : Prop :=
  ∀ (s : State) (d : Fin 12),
    let x := s.drives[d]
    let cycles := if x.cycles < 255 then x.cycles + 1 else 255
    let older (a : Nat) : Nat := if a < 255 then a + 1 else 255
    let due : Prop := CycUnit.drive d ∈ s.cycDue ∧ x.link ≠ .silent
    let unanswered : Prop := ∃ r rest, x.out = r :: rest ∧ s.jobs.cfg.nack ≤ older r.age
    let unreported : Prop := s.jobs.cfg.nack ≤ cycles
    let with_ (y : Drive) : State :=
      (s.setCycDue (s.cycDue.filter (· != CycUnit.drive d))).setDrives (s.drives.set d y)
    let silent : State := ((with_ { x with link := .silent, out := [], sent := false, cycles := 0, last := 0 }).raise 2
        (BitVec.ofNat 32 d.val)).notice d (if d.val < 8 then .noAck else .foilNoAck)
    (due → unanswered → exec (.answerTimeout d) s = .next silent)
      ∧ (due → unreported → exec (.dstTimeout d) s = .next silent)
      ∧ (¬(due ∧ unanswered) → exec (.answerTimeout d) s = .next s)
      ∧ (¬(due ∧ unreported) → exec (.dstTimeout d) s = .next s)
      ∧ (CycUnit.drive d ∈ s.cycDue → x.link = .silent ∨ (¬unanswered ∧ ¬unreported) →
          s.takeUnit (.drive d) = with_ { x with cycles, out := x.out.map fun r => { r with age := older r.age } })

/-- A notice of a drive decides REJECT, with the notice's reason, each undecided entry that depends on the drive through
a setpoint that is not acknowledged, plans in queue order and entries in lane order, one after another as O23 states for
each; every other entry keeps its outcome, and a plan that is left without an undecided entry leaves the queue (R77 to
R80). The premises are invariants of the model (O58). -/
def Obligations.NoticeLeavesNoDependentEntry : Prop :=
  ∀ (s : State) (d : Fin 12) (r : Reason), s.RepeatsDistinct → s.QueueConsistent →
    let t := s.notice d r
    let decided : List (Plan × Entry) :=
      s.planner.queue.flatMap fun p => (p.entries.filter (p.waitsFor d)).map fun e => (p, e)
    t = decided.foldl (fun v x => v.decideEntry x.1.repeatNo x.2.lane (.reject r) true) s
      ∧ t.planner.queue.map (fun p => (p.repeatNo, p.entries.map fun e => (e.lane, e.outcome))) =
          (s.planner.queue.filter fun p => p.entries.any fun e => e.outcome.isNone && !p.waitsFor d e).map (fun p =>
            (p.repeatNo, p.entries.map fun e => (e.lane, if p.waitsFor d e then some (.reject r) else e.outcome)))
      ∧ (s.report.log.length ≤ 256 →
          s.report.LogTook t.report (decided.map fun x => x.1.told x.2 (.reject r)))
      ∧ ∀ p ∈ t.planner.queue, ∀ e ∈ p.entries, p.waitsFor d e = false

/-! ## Tests and decisions of the planner (sections 3.4 to 3.9) -/

/-- The tests of an undecided entry on a cycle frame, the late test before the contact test and both before a mere
release, with the contact outcome by the first failing condition. And the tests of an unsent move: at its late point it is
given up, its undecided entries decided REJECT LATE in lane order, the move withdrawn and its reservation given back, the
plan leaving the queue when no other entry of it is undecided; otherwise it is made DUE at its release point (R67, R70 to
R74). The premises are invariants of the model (O58). -/
def Obligations.TestsOfACycleFrame : Prop :=
  (∀ (s : State) (n : Rep) (l : Fin 8) (p : Plan) (e : Entry), s.planner.queue.find? (·.repeatNo == n) = some p →
      p.entries.find? (fun x => x.lane == l && x.outcome.isNone) = some e →
      let unsent : Prop := e.phs = .unsent ∨ e.phs = .due
      let outcome : Decision :=
        match ([(e.phs != .acked, Reason.noAck),
                ((e.kind == .foil || e.kind == .foilEmboss)
                  && (match e.move.bind fun i => p.moves[i]? with | none => true | some m => m.st != .acked),
                  Reason.foilNoAck),
                (e.kind != .embossCold && s.cassettes[e.lane].heat != .ready && s.cassettes[e.lane].heat != .drift,
                  Reason.heat),
                (decide (s.tracker.speed < p.vmin), Reason.speed)] : List (Bool × Reason)).find? (·.1) with
        | none => .stamped
        | some why => .reject why.2
      let tested := s.planTest (.entry n l)
      (unsent → 0 ≤ dist e.late s.tracker.pos → tested = s.decideEntry n l (.reject .late) true)
        ∧ (¬(unsent ∧ 0 ≤ dist e.late s.tracker.pos) → 0 ≤ dist e.contact s.tracker.pos →
            tested = s.decideEntry n l outcome true)
        ∧ (¬(unsent ∧ 0 ≤ dist e.late s.tracker.pos) → dist e.contact s.tracker.pos < 0 →
            0 ≤ dist e.release s.tracker.pos → tested = s.planChanged n fun p => { p with
              entries := atFirst (fun x => x.lane == l && x.outcome.isNone)
                (fun x => { x with phs := if x.phs = .unsent then .due else x.phs }) p.entries })
        ∧ (¬(unsent ∧ 0 ≤ dist e.late s.tracker.pos) → dist e.contact s.tracker.pos < 0 →
            dist e.release s.tracker.pos < 0 → tested = s))
    ∧ ∀ (s : State) (n : Rep) (i : Nat) (p : Plan) (m : Move), s.RepeatsDistinct → s.QueueConsistent →
        s.planner.queue.find? (·.repeatNo == n) = some p → p.moves[i]? = some m → m.st = .unsent ∨ m.st = .due →
        let tested := s.planTest (.move n i)
        let servedBy (e : Entry) : Bool := e.move == some i && e.outcome.isNone
        (0 ≤ dist (m.start - len s.jobs.cfg.lmin) s.tracker.pos →
          tested.foil = s.foil.set m.web { s.foil[m.web] with reserved := s.foil[m.web].reserved - m.reserved }
            ∧ ((∀ e ∈ p.entries, e.outcome = none → e.move = some i) →
                tested.planner.queue = s.planner.queue.eraseP (·.repeatNo == n))
            ∧ ((∃ e ∈ p.entries, e.outcome = none ∧ e.move ≠ some i) →
                tested.planner.queue = (s.planChanged n fun p => { p with
                  entries := p.entries.map fun e => if servedBy e then e.decidedAs (.reject .late) else e
                  moves := p.moves.modify i fun k => { k with st := .withdrawn } }).planner.queue)
            ∧ (p.entries.any servedBy = true → tested =
                (p.entries.filter servedBy).foldl (fun v e => v.decideEntry n e.lane (.reject .late) true) s)
            ∧ (p.entries.any servedBy = false →
                tested = { s with planner := { s.planner with queue := tested.planner.queue }, foil := tested.foil }))
        ∧ (dist (m.start - len s.jobs.cfg.lmin) s.tracker.pos < 0 → 0 ≤ dist (m.start - len s.jobs.cfg.lf) s.tracker.pos →
            tested = s.planChanged n fun p => { p with moves := p.moves.modify i fun k =>
              { k with st := if k.st = .unsent then .due else k.st } })
        ∧ (dist (m.start - len s.jobs.cfg.lmin) s.tracker.pos < 0 → dist (m.start - len s.jobs.cfg.lf) s.tracker.pos < 0 →
            tested = s)

/-- A decision made after planning: one log record of the entry with the next log sequence, GAP when the log was full,
with LOG_OVERWRITE then and LOG_HALF at the 128th record (R79, R169); the record is compared with the watch entries,
with WATCH_HIT for the lowest that matches and the once flags taken (R172); a foil move that serves no undecided entry
any more and was not sent is withdrawn and its reservation given back (R70, R102). While another entry is undecided the
plan keeps its place, with its other entries and the other plans as they stood, and nothing counts; with the last
decision the plan leaves the queue, each of its entries counts once for its lane, its report is handed over, joining the
waiting list or discarded in ring silence, and DRAINING with an empty queue becomes READY; there an armed changeover is
taken, with CHANGEOVER_TAKEN (R42, R43, R55, R80 to R82, R167, R168). Nothing else changes. The premise is an invariant
of the model (O58). -/
def Obligations.DecisionIsLoggedAndCounted : Prop :=
  ∀ (s : State) (n : Rep) (l : Fin 8) (d : Decision) (reports : Bool) (p : Plan) (e : Entry), s.QueueConsistent →
    s.planner.queue.find? (·.repeatNo == n) = some p →
    p.entries.find? (fun x => x.lane == l && x.outcome.isNone) = some e →
    let t := s.decideEntry n l d reports
    let last : Prop := ∀ x ∈ p.entries, x.outcome = none → x.lane = l
    let cell (v : State) (k : Fin 18) : EventCell := v.attention.kinds[k]
    let outcome (k : Fin 8) : Option Decision := if k = l then some d else (p.entries.find? (·.lane == k)).bind (·.outcome)
    let hit (i : Fin 4) : Prop := s.report.watch[i].Matches l (some e.design) d
    let spent (i : Nat) (m : Move) : Prop := e.move = some i ∧ p.moves[i]? = some m ∧ (m.st = .unsent ∨ m.st = .due)
      ∧ ∀ x ∈ p.entries, x.move = some i → x.outcome = none → x.lane = l
    t.report.log = (if s.report.log.length < 256 then s.report.log else s.report.log.drop 1) ++
        [{ seq := s.report.nextLog, repeatNo := n, lane := l, design := some e.design, decision := d,
           residual := p.residual, contact := some e.contact, synth := p.synth, first := p.first,
           gap := decide (256 ≤ s.report.log.length) }]
      ∧ t.report.nextLog = s.report.nextLog + 1
      -- LOG_HALF and LOG_OVERWRITE
      ∧ (s.report.log.length = 127 → (cell t 14).pending = true ∧ (cell t 14).detail = s.report.nextLog.setWidth 32)
      ∧ (s.report.log.length ≠ 127 → cell t 14 = cell s 14)
      ∧ (∀ old rest, 256 ≤ s.report.log.length → s.report.log = old :: rest →
          (cell t 15).pending = true ∧ (cell t 15).detail = old.seq.setWidth 32)
      ∧ (s.report.log.length < 256 → cell t 15 = cell s 15)
      -- the watch entries
      ∧ (∀ i : Fin 4, (hit i → t.report.watch[i] = { s.report.watch[i] with enabled := !s.report.watch[i].once })
          ∧ (¬hit i → t.report.watch[i] = s.report.watch[i]))
      ∧ (∀ i : Fin 4, hit i → (∀ j : Fin 4, hit j → i ≤ j) →
          (cell t 16).pending = true ∧ (cell t 16).detail = BitVec.ofNat 32 i.val)
      ∧ ((∀ i : Fin 4, ¬hit i) → cell t 16 = cell s 16)
      -- the foil of a move that is spent
      ∧ (∀ (i : Nat) (m : Move), spent i m → t.foil =
          s.foil.set m.web { s.foil[m.web] with reserved := s.foil[m.web].reserved - m.reserved })
      ∧ ((∀ (i : Nat) (m : Move), ¬spent i m) → t.foil = s.foil)
      -- the plan
      ∧ (last → t.planner.queue = s.planner.queue.eraseP (·.repeatNo == n))
      ∧ (¬last → t.planner.stamped = s.planner.stamped ∧ t.planner.rejected = s.planner.rejected ∧ t.report.rpts = s.report.rpts
          ∧ t.planner.st = s.planner.st
          ∧ ∃ moves : List Move, t.planner.queue = (s.planChanged n fun q => { q with
                entries := q.entries.map fun x => if x.lane = l then x.decidedAs d else x, moves }).planner.queue
              ∧ (∀ (i : Nat) (m : Move), spent i m → moves = p.moves.set i { m with st := .withdrawn })
              ∧ ((∀ (i : Nat) (m : Move), ¬spent i m) → moves = p.moves))
      ∧ (last → ∀ k : Fin 8,
          t.planner.stamped[k] = (if outcome k = some .stamped then countLabel s.planner.stamped[k]
              else s.planner.stamped[k])
            ∧ t.planner.rejected[k] = (if (outcome k).isSome = true ∧ outcome k ≠ some .stamped
                then countLabel s.planner.rejected[k] else s.planner.rejected[k]))
      ∧ (last → t.report.rpts = if reports = true ∧ s.report.ringSilent = false
          then reportJoined s.report.rpts { repeatNo := n, nip := p.nip, lanes := Vector.ofFn outcome, synth := p.synth,
                                            first := p.first, gap := false }
          else s.report.rpts)
      ∧ t.report.ringSilent = s.report.ringSilent
      ∧ (last → t.planner.st = if s.planner.st = .draining ∧ t.planner.queue = [] then .ready else s.planner.st)
      -- the changeover at the entry to READY
      ∧ (let taken : Prop := last ∧ s.planner.st = .draining ∧ t.planner.queue = [] ∧ s.jobs.arm.isSome = true
         let other : Fin 2 := if s.jobs.active = 0 then 1 else 0
         (taken → t.jobs = { s.jobs with active := other, arm := none }
            ∧ t.tracker = { s.tracker with staged := none }
            ∧ (cell t 12).pending = true ∧ (cell t 12).detail = BitVec.ofNat 32 other.val)
          ∧ (¬taken → t.jobs = s.jobs ∧ t.tracker = s.tracker ∧ cell t 12 = cell s 12))
      ∧ (∀ k : Fin 18, k ≠ 12 → k ≠ 14 → k ≠ 15 → k ≠ 16 → cell t k = cell s k)
      ∧ t = { s with planner := t.planner, foil := t.foil, report := t.report, attention := t.attention, jobs := t.jobs
                     tracker := t.tracker }

/-! ## Slots (section 7.2) -/

/-- A slot of an open window takes the first waiting item by class: an eligible due setpoint, the oldest repeat report,
the oldest answer, with its status code of section 10.3, the waiting ATN; otherwise it passes unused. With no window
open nothing happens, the model's choice for a slot that is not there (log 3); what the last cycle frame left to be
taken is taken first (log 2) (R150, R151, R154). -/
def Obligations.SlotTakesTheFirstClass : Prop :=
  ∀ (s : State) (own : Byte), s.worksAs own →
    (s.port.window = 0 → exec .injectionSlot s = .next s)
      ∧ (s.port.window ≠ 0 →
          let u := s.settle.setPort { s.settle.port with window := s.port.window - 1 }
          let sent (f : Frame) : State := { u with port := { u.port with down := u.port.down ++ [f.bytes] } }
          let header (dest tag : Byte) : Header := { dest, src := own, flags := 0, tag, rsvHi := 0, rsvLo := 0 }
          let number (x : Status) : Byte := match x with
            | .done => 0 | .clamped => 1 | .busy => 2 | .armed => 3 | .notArmed => 4 | .noJob => 5 | .invalid => 6
            | .badIndex => 7 | .badValue => 8 | .badRequest => 9 | .notPending => 10
          (∀ x : Due, u.nextSetpoint = some x → exec .injectionSlot s = .next (u.sendDue own x))
          ∧ (u.nextSetpoint = none →
              (∀ r rest, u.report.rpts = r :: rest → exec .injectionSlot s =
                .next ((sent { kind := 0x12, h := header 0 0, payload := rptPayload r }).setReport
                  { u.report with rpts := rest }))
              ∧ (u.report.rpts = [] → ∀ a rest, u.answers = a :: rest → exec .injectionSlot s =
                .next ((sent { kind := 0x21, h := header a.dest a.tag, payload := a.code :: number a.status :: a.data
                  }).setAnswers rest))
              ∧ (u.report.rpts = [] → u.answers = [] → ∀ k : Fin 18, u.attention.waiting = some k →
                exec .injectionSlot s = .next ((sent { kind := 0x13, h := header 0 0, payload := atnPayload u.attention k
                  }).setAttention { u.attention with waiting := none }))
              ∧ (u.report.rpts = [] → u.answers = [] → u.attention.waiting = none → exec .injectionSlot s = .next u)))

/-- A PHS is sent: to the cassette drive's station with the drive's next sequence number, which counts up; its record
joins the list with age 0 and sets the sent flag; the entry becomes SENT; in a tie the lane moves to the end of the
rotating order, and otherwise the order stands (R68, R107, R132, R153, R154). The destination 0xFF of a drive without a
station, which validation keeps from being planned for, is the model's choice (log 22). -/
def Obligations.PhaseSetpointIsSent : Prop :=
  ∀ (s : State) (own : Byte) (n : Rep) (e : Entry),
    let d := cassetteDrive e.lane
    let x := s.drives[d]
    let tie : Prop := ∃ k y, Due.phs k y ∈ s.waitingSetpoints ∧ y.lane ≠ e.lane ∧ y.release = e.release
    let dest : Byte := (s.jobs.cfg.driveStations[d]).getD 0xFF
    let frame : Frame := { kind := 0x10, h := { dest, src := own, flags := 0, tag := 0, rsvHi := 0, rsvLo := 0 },
                           payload := phsPayload e x.next }
    ∃ order : List (Fin 8), (tie → order = s.port.order.filter (· != e.lane) ++ [e.lane])
      ∧ (¬tie → order = s.port.order)
      ∧ s.sendDue own (.phs n e) = { s with
          port := { s.port with order, down := s.port.down ++ [frame.bytes] }
          drives := s.drives.set d { x with
            next := x.next + 1, sent := true,
            out := x.out ++ [{ seq := x.next, age := 0, item := .phs n e.lane }] }
          planner := { s.planner with queue := atFirst (fun p => p.repeatNo == n) (fun p => { p with
            entries := atFirst (fun y => y.lane == e.lane && y.phs == .due)
              (fun y => { y with phs := .sent x.next }) p.entries }) s.planner.queue } }

/-- An FMV is sent, by its gap g to the successor, the first UNSENT or DUE move of the web among the later moves of the
plan and then those of the plans behind it, if any: a g below 0 chains and trims the successor, a g from 0 to Gmin - 1
that the available foil covers chains and draws the gap, any other is sent without chain. The trimmed successor's start
is raised, its length and reserved amount fall, and its end stands. Remaining falls by the length and the gap drawn,
reserved by the reserved amount and the trim, the drive's list and number and the move's state go on as for a PHS, and
the low test follows a drawn gap (R96, R98 to R101, R132, R154). The reserved amount kept by the sent move (log 28), the
destination 0xFF of a drive without a station and the low test over an absent web (log 22) are the model's. -/
def Obligations.FoilMoveIsSent : Prop :=
  ∀ (s : State) (own : Byte) (n : Rep) (i : Nat) (m : Move),
    let d := foilDrive m.web
    let x := s.drives[d]
    let a := s.foil[m.web]
    let dest : Byte := (s.jobs.cfg.driveStations[d]).getD 0xFF
    let after (v : State) : Option Move :=
      match v.planner.queue.dropWhile fun p => p.repeatNo != n with
      | [] => none
      | p :: behind => (p.moves.drop (i + 1) ++ behind.flatMap (·.moves)).find? fun y =>
          y.web == m.web && (y.st == .unsent || y.st == .due)
    let send (seq : Byte) (chain : Bool) (q : List Plan) : List Plan :=
      atFirst (fun p => p.repeatNo == n) (fun p => { p with
        moves := p.moves.modify i fun k => { k with st := .sent seq, chain } }) q
    let trimmed (by' : Nat) (y : Move) : Move :=
      { y with start := y.start + len by', length := y.length - by', reserved := y.reserved - by' }
    ∃ (chain : Bool) (extra trim : Nat) (t : State), s.sendDue own (.fmv n i m) = t
      ∧ (after s = none → chain = false ∧ extra = 0 ∧ trim = 0)
      ∧ (∀ y : Move, after s = some y →
          let g := dist m.stop y.start
          (g < 0 → chain = true ∧ extra = 0 ∧ (trim : Int) = min (-g) y.length)
            ∧ (0 ≤ g → g < m.gmin → g ≤ ((a.remaining - a.reserved : Nat) : Int) →
                chain = true ∧ (extra : Int) = g ∧ trim = 0)
            ∧ (0 ≤ g → ((a.remaining - a.reserved : Nat) : Int) < g ∨ (m.gmin : Int) ≤ g →
                chain = false ∧ extra = 0 ∧ trim = 0))
      ∧ t.foil[m.web].remaining = a.remaining - (m.length + extra)
      ∧ t.foil[m.web].reserved = a.reserved - trim - m.reserved ∧ t.foil[m.web].saved = a.saved
      -- the low test
      ∧ (let threshold := ((s.active.foil[m.web]).map (·.low)).getD 0
         let under : Prop := extra ≠ 0 ∧ t.foil[m.web].remaining - t.foil[m.web].reserved < threshold
         (under → t.foil[m.web].low = true) ∧ (¬under → t.foil[m.web].low = a.low)
           ∧ (under ∧ a.low = false → t.attention = (s.raise 8 (BitVec.ofNat 32 m.web.val)).attention)
           ∧ (¬(under ∧ a.low = false) → t.attention = s.attention))
      ∧ (∀ f : Fin 4, f ≠ m.web → t.foil[f] = s.foil[f])
      ∧ t.port = { s.port with down := s.port.down ++ [Frame.bytes {
            kind := 0x11
            h := { dest, src := own, flags := 0, tag := 0, rsvHi := 0, rsvLo := 0 }
            payload := fmvPayload m x.next chain }] }
      ∧ t.drives = s.drives.set d { x with
          next := x.next + 1, sent := true, out := x.out ++ [{ seq := x.next, age := 0, item := .fmv n i }] }
      ∧ (∀ p q : Plan, s.planner.queue.find? (·.repeatNo == n) = some p →
          t.planner.queue.find? (·.repeatNo == n) = some q → ∀ k : Move, p.moves[i]? = some k →
          q.moves[i]? = some { k with st := .sent x.next, chain })
      -- the successor trimmed, and the rest of the queue as it was
      ∧ after t = (after s).map (trimmed trim)
      ∧ (trim = 0 → t.planner.queue = send x.next chain s.planner.queue)
      ∧ (trim ≠ 0 → ∃ (j k : Nat) (q : Plan) (y : Move), after s = some y ∧ s.planner.queue[j]? = some q
          ∧ q.moves[k]? = some y
          ∧ t.planner.queue =
              send x.next chain (s.planner.queue.set j { q with moves := q.moves.set k (trimmed trim y) }))
      ∧ t.jobs = s.jobs ∧ t.tracker = s.tracker ∧ t.cassettes = s.cassettes ∧ t.answers = s.answers
      ∧ t.report = s.report ∧ t.planner.st = s.planner.st ∧ t.planner.stamped = s.planner.stamped
      ∧ t.planner.rejected = s.planner.rejected

/-- A setpoint waits at a slot when its state is DUE, a PHS of an entry or an FMV of a move of a queued plan, and its
drive is ANSWERING with fewer than four outstanding (R151). The one taken is one of those with the earliest release
position; among equal ones an FMV stands before every PHS, FMVs go by foil web and PHS by the rotating order, and those
of one web or one lane by repeat number. Positions and repeat numbers are compared as signed distances, so the order is
stated of waiting setpoints within a quarter of the ring of one base (R152). -/
def Obligations.EarliestReleaseFirst : Prop :=
  ∀ s : State,
    let waiting := s.waitingSetpoints
    let drive (x : Due) : Fin 12 := match x with
      | .phs _ e => ⟨e.lane.val, by omega⟩
      | .fmv _ _ m => ⟨8 + m.web.val, by omega⟩
    let release (x : Due) : Pos := match x with
      | .phs _ e => e.release
      | .fmv _ _ m => m.start - len s.jobs.cfg.lf
    let number (x : Due) : Rep := match x with | .phs n _ => n | .fmv n _ _ => n
    let eligible (x : Due) : Prop := s.drives[drive x].link = .answering ∧ s.drives[drive x].out.length < 4
    let near (n k : BitVec 32) : Prop := -1073741824 < dist n k ∧ dist n k < 1073741824
    (∀ (n : Rep) (e : Entry), .phs n e ∈ waiting ↔ eligible (.phs n e)
        ∧ ∃ p ∈ s.planner.queue, p.repeatNo = n ∧ e ∈ p.entries ∧ e.phs = .due)
      ∧ (∀ (n : Rep) (i : Nat) (m : Move), .fmv n i m ∈ waiting ↔ eligible (.fmv n i m)
        ∧ ∃ p ∈ s.planner.queue, p.repeatNo = n ∧ p.moves[i]? = some m ∧ m.st = .due)
      ∧ (s.nextSetpoint = none ↔ waiting = [])
      ∧ (∀ x : Due, s.nextSetpoint = some x → x ∈ waiting)
      ∧ ∀ (base : Pos) (no : Rep), (∀ x ∈ waiting, near base (release x) ∧ near no (number x)) →
          ∀ x : Due, s.nextSetpoint = some x → ∀ y ∈ waiting,
            dist base (release x) ≤ dist base (release y)
              ∧ (dist base (release x) = dist base (release y) →
                  let inTurn : Prop := dist no (number x) ≤ dist no (number y)
                  match x, y with
                  | .fmv _ _ m, .fmv _ _ k => m.web < k.web ∨ (m.web = k.web ∧ inTurn)
                  | .fmv .., .phs .. => True
                  | .phs .., .fmv .. => False
                  | .phs _ e, .phs _ k => s.port.order.idxOf e.lane ≤ s.port.order.idxOf k.lane
                      ∧ (e.lane = k.lane → inTurn))

/-- The payloads of the part's own frames have the lengths of section 10.3 and carry their fields at its offsets, a lane's
outcome and reason by its codes. That bits
3 to 7 of the flags byte of an RPT are 0 is the model's choice (log 36). -/
def Obligations.SentPayloadLayouts : Prop :=
  (∀ (e : Entry) (seq : Byte), e.length ≤ 60000 → let p := phsPayload e seq
      p.length = 11 ∧ (byteAt p 0).toNat = e.lane.val ∧ byteAt p 1 = seq ∧ (byteAt p 2).toNat = e.segment.val
        ∧ field p 3 4 = e.contact.toNat ∧ field p 7 2 = e.length ∧ (byteAt p 9).toNat = e.pressure.val
        ∧ byteAt p 10 = (match e.kind with | .foil => 0 | .foilEmboss => 1 | .embossWarm => 2 | .embossCold => 3))
    ∧ (∀ (m : Move) (seq : Byte) (chain : Bool), m.length < 4294967296 → let p := fmvPayload m seq chain
        p.length = 11 ∧ (byteAt p 0).toNat = m.web.val ∧ byteAt p 1 = seq ∧ field p 2 4 = m.start.toNat
          ∧ field p 6 4 = m.length ∧ byteAt p 10 = if chain then 1 else 0)
    ∧ (∀ r : RepeatReport, let p := rptPayload r
        p.length = 25 ∧ field p 0 4 = r.repeatNo.toNat ∧ field p 4 4 = r.nip.toNat
          ∧ (∀ l : Fin 8, (byteAt p (8 + 2 * l.val)).toNat = (outcomeNumbers r.lanes[l]).1
              ∧ (byteAt p (9 + 2 * l.val)).toNat = (outcomeNumbers r.lanes[l]).2)
          ∧ (byteAt p 24).getLsbD 0 = r.synth ∧ (byteAt p 24).getLsbD 1 = r.first ∧ (byteAt p 24).getLsbD 2 = r.gap
          ∧ (byteAt p 24).toNat < 8)
    ∧ ∀ (a : Attention) (k : Fin 18) (level : Fin 8), (k, level) ∈ a.service → (a.service.map (·.1)).Nodup →
        a.kinds[k].count ≤ 255 → let p := atnPayload a k
        p.length = 7 ∧ (byteAt p 0).toNat = k.val ∧ (byteAt p 1).toNat = level.val
          ∧ field p 2 4 = a.kinds[k].detail.toNat ∧ (byteAt p 6).toNat = a.kinds[k].count

/-! ## Ring silence and soft reset -/

/-- A ring silence at every block: the timer stops and the window closes, the tracker is UNLOCKED at speed 0 in STOP
with the first-cycle flag set, every queued plan is given up with no report left waiting, DRAINING becomes READY (in a
state within the invariant of O57), every cassette is LOST and every drive SILENT, RING_SILENT is raised with the last
cycle number, and the rest of the tracker, the port's other items, the answers and the station configuration are kept.
Where the planner hears no drive before its flush, each undecided entry is decided REJECT FLUSHED with its record and
PLAN_FLUSHED carries RING_SILENCE (R7, R83, R85, R122, R140, R156, R157, R168, R178). With no plan queued and every
drive SILENT the attention unit alone is left to act: it discards a waiting ATN, its kind leaving service, with a
selection after the discard, and raises RING_SILENT, in either order (R175, R178). A timer that does not run does not
expire, the model's choice (log 3), as is the settling of what the last cycle frame left (log 2). A drive already SILENT
left with its cycles is the model's reading (log 29), and the last echo kept its choice (log 30). -/
def Obligations.RingSilenceAtEveryBlock : Prop :=
  ∀ (s : State) (o : TakeOrder) (own : Byte), s.worksAs own →
    (s.port.timerOn = false → exec (.ringSilence o) s = .next s)
      ∧ (s.port.timerOn = true → ∃ t : State, exec (.ringSilence o) s = .next t
          ∧ t.port = { s.port with timerOn := false, window := 0 }
          ∧ { t.tracker with staged := s.tracker.staged } = { s.tracker with
              mode := .unlocked, lock := 0, coast := 0, speed := 0, line := .stop, firstCycle := true }
          ∧ t.planner.queue = []
          ∧ (s.QueueConsistent → s.RepeatsDistinct → s.settle.GivenUp t ∧ (o.drives = [] → s.settle.Flushed t 2))
          ∧ (s.JobConsistent → t.planner.st = (if s.planner.st = .draining then .ready else s.planner.st))
          ∧ (s.planner.st ≠ .draining → t.jobs.arm = s.jobs.arm ∧ t.tracker.staged = s.tracker.staged
              ∧ t.jobs.active = s.jobs.active)
          ∧ t.jobs.banks = s.jobs.banks
          ∧ (∀ c : Fin 8, t.cassettes[c] = { heat := .lost, soak := 0, drift := 0, since := 0 })
          ∧ (∀ d : Fin 12, t.drives[d] = s.settle.drives[d].madeSilent)
          ∧ t.report.rpts = [] ∧ t.report.ringSilent = true ∧ t.answers = s.answers ∧ t.jobs.cfg = s.jobs.cfg
          ∧ t.attention.kinds[(0 : Fin 18)].pending = true
          ∧ t.attention.kinds[(0 : Fin 18)].detail = s.tracker.cycleNo.setWidth 32
          ∧ (let raised (v : State) : State := v.raise 0 (s.tracker.cycleNo.setWidth 32)
             let discarded (v : State) : State := match v.attention.waiting with
               | none => v
               | some k => v.setAttention (Attention.select { v.attention with
                   service := v.attention.service.filter fun m => m.1 != k, waiting := none })
             s.cycDue = [] → s.planner.queue = [] → s.planner.st ≠ .draining → (∀ d : Fin 12, s.drives[d].link = .silent) →
               t.attention = (if o.raiseFirst then discarded (raised s) else raised (discarded s)).attention)
          ∧ t.cycDue = [])

/-- A soft reset that is taken: the tracker by R26, the arm cleared with banks, pointer and station configuration kept,
every queued plan given up and the planner in READY or IDLE by the active bank, remaining foil, low flags and saved
totals kept, every cassette LOST, every drive SILENT with its number kept, the port kept, enables and levels kept and
nothing but the flush's events pending; then the answer DONE behind the answers that waited. Where the planner hears no
drive before its flush, each undecided entry is decided REJECT FLUSHED with its record, PLAN_FLUSHED carries SOFT_RESET,
and no report is handed over (R26, R51, R83, R86, R90, R123, R141, R158, R160, R165, R178; log 2). A drive already
SILENT left with its cycles is the model's reading (log 29), and the last echo kept its choice (log 30). -/
def Obligations.SoftResetInEveryBlock : Prop :=
  ∀ (s : State) (h : Header) (q : Req) (o : TakeOrder), s.takes h q →
    ∃ t : State, exec (.softReset h q o) s = .next (t.answered h 0x1C .done [])
      ∧ t.answers = s.answers ∧ t.port = s.port ∧ t.pending = s.pending ∧ t.freeCount = s.freeCount
      ∧ t.tracker = { s.tracker with
          speed := 0, line := .stop, firstCycle := true, mode := .unlocked, lock := 0, coast := 0, stray := 0,
          repeatNo := 0, staged := none }
      ∧ t.jobs.arm = none ∧ t.jobs.banks = s.jobs.banks ∧ t.jobs.cfg = s.jobs.cfg
      ∧ (s.planner.st ≠ .draining → t.jobs.active = s.jobs.active)
      ∧ t.planner.queue = [] ∧ t.planner.st = (if t.active.isEmpty = true then .idle else .ready)
      ∧ (s.QueueConsistent → s.RepeatsDistinct → s.settle.GivenUp t ∧ (o.drives = [] → s.settle.Flushed t 3))
      ∧ (∀ f : Fin 4, t.foil[f].remaining = s.foil[f].remaining ∧ t.foil[f].low = s.foil[f].low
          ∧ t.foil[f].saved = s.foil[f].saved)
      ∧ (∀ c : Fin 8, t.cassettes[c] = { heat := .lost, soak := 0, drift := 0, since := 0 })
      ∧ (∀ d : Fin 12, t.drives[d] = s.settle.drives[d].madeSilent ∧ t.drives[d].link = .silent
          ∧ t.drives[d].next = s.drives[d].next)
      ∧ t.report.ringSilent = s.report.ringSilent
      ∧ (o.drives = [] → t.report.rpts = s.settle.report.rpts)
      ∧ (∀ k : Fin 18, t.attention.kinds[k].enabled = s.attention.kinds[k].enabled
          ∧ t.attention.kinds[k].level = s.attention.kinds[k].level
          ∧ (t.attention.kinds[k].pending = true → k = 1 ∨ k = 14 ∨ k = 15 ∨ k = 16))
      ∧ t.cycDue = []

/-! ## Writing and reading the banks (chapter 2) -/

/-- WRITE DESIGN, WRITE LANE, WRITE SEQUENCE and WRITE FOIL MAP: the tests of R161 and R29 in their order with their
answers, and the write of the whole entry into the standby bank, answered CLAMPED for a lane whose trim was clamped. And
what the data hold: each field at its offset of section 10.4, refused when a field lies outside its range (R30 to R32,
R181). The active bank is the one of the pointer and the standby bank the other, and a write of either writes that one
whole (R27). -/
def Obligations.StandbyWrites : Prop :=
  (∀ (s : State) (h : Header) (q : Req), s.takes h q →
    s.WritesEntry h 0x01 q (exec (.writeDesign h q) s) 64 (if q.data.head? = some 0 then 12 else 1) (decodeDesign q.data)
        (fun i v b => { b with designs := b.designs.set i v }) .done
      ∧ s.WritesEntry h 0x02 q (exec (.writeLane h q) s) 8 16 (decodeLane q.data)
        (fun i v b => { b with lanes := b.lanes.set i v })
        (if sfield q.data 5 2 < -1000 ∨ 1000 < sfield q.data 5 2 then .clamped else .done)
      ∧ s.WritesEntry h 0x03 q (exec (.writeSequence h q) s) 128 1 (decodeSequence q.data)
        (fun i v b => { b with seq := b.seq.set i v }) .done
      ∧ s.WritesEntry h 0x04 q (exec (.writeFoilMap h q) s) 4 (if q.data.head? = some 0 then 11 else 1) (decodeFoil q.data)
        (fun i v b => { b with foil := b.foil.set i v }) .done)
    ∧ (∀ (s : State) (b : Bank), let other : Fin 2 := if s.jobs.active = 0 then 1 else 0
        s.active = s.jobs.banks[s.jobs.active] ∧ s.standby = s.jobs.banks[other]
          ∧ s.setActive b = { s with jobs := { s.jobs with banks := s.jobs.banks.set s.jobs.active b } }
          ∧ s.setStandby b = { s with jobs := { s.jobs with banks := s.jobs.banks.set other b } })
    ∧ ∀ d : List Byte,
        let at' (off : Nat) : Nat := (byteAt d off).toNat
        (∀ v : Option Design, decodeDesign d = some v ↔ (at' 0 = 255 ∧ v = none) ∨ (at' 0 = 0 ∧ ∃ x : Design, v = some x
            ∧ at' 1 = (match x.kind with | .foil => 0 | .foilEmboss => 1 | .embossWarm => 2 | .embossCold => 3)
            ∧ at' 2 = x.segment.val
            ∧ (if x.kind = .foil ∨ x.kind = .foilEmboss then ∃ w : Fin 4, x.web = some w ∧ at' 3 = w.val else x.web = none)
            ∧ field d 4 4 = x.offset ∧ x.offset ≤ 200000 ∧ field d 8 2 = x.length ∧ 100 ≤ x.length ∧ x.length ≤ 60000
            ∧ at' 10 = x.pressure.val ∧ (x.inhibit = true ↔ at' 11 ≠ 0)))
          ∧ (∀ x : Lane, decodeLane d = some x ↔
              at' 0 = (match x.mode with | .off => 0 | .fixed => 1 | .alternate => 2 | .sequence => 3)
              ∧ at' 1 = x.slotA.val ∧ at' 2 = x.slotB.val ∧ at' 3 = x.seqStart.val ∧ at' 4 = x.seqLen
              ∧ 1 ≤ x.seqLen ∧ x.seqLen ≤ 16 ∧ x.trim = max (-1000) (min 1000 (sfield d 5 2)) ∧ (x.hold = true ↔ at' 7 ≠ 0)
              ∧ sfield d 8 2 = x.lo ∧ -400 ≤ x.lo ∧ x.lo ≤ 3000 ∧ sfield d 10 2 = x.hi ∧ -400 ≤ x.hi ∧ x.hi ≤ 3000
              ∧ field d 12 2 = x.nsoak ∧ field d 14 2 = x.ndrift ∧ x.ndrift ≤ 4000 ∧ x.onB = false ∧ x.index = 0)
          ∧ (∀ v : Option (Fin 64), decodeSequence d = some v ↔
              (at' 0 = 255 ∧ v = none) ∨ ∃ i : Fin 64, v = some i ∧ at' 0 = i.val)
          ∧ ∀ v : Option FoilWeb, decodeFoil d = some v ↔ (at' 0 = 255 ∧ v = none) ∨ (at' 0 = 0 ∧ ∃ x : FoilWeb, v = some x
              ∧ at' 1 = x.first.val ∧ at' 2 = x.last.val ∧ x.first ≤ x.last ∧ field d 3 2 = x.fm ∧ x.fm ≤ 2000
              ∧ field d 5 2 = x.gmin ∧ x.gmin ≤ 20000 ∧ field d 7 4 = x.low ∧ x.low ≤ 2147483648)

/-- WRITE JOB writes all six job parameters into the standby bank when each lies in its range of section 2.1.5, and none
otherwise; the tests of R161 and R29 go first, and the entry number is not read (R33). -/
def Obligations.WriteJob : Prop :=
  ∀ (s : State) (h : Header) (q : Req), s.takes h q →
    let j : Job := { lr := field q.data 0 4, w := field q.data 4 2, cmax := field q.data 6 2, tol := field q.data 8 2,
                     ncoast := (byteAt q.data 10).toNat, vmin := field q.data 11 4 }
    let good : Prop := (2000 ≤ j.lr ∧ j.lr ≤ 200000) ∧ (50 ≤ j.w ∧ j.w ≤ 5000) ∧ (1 ≤ j.cmax ∧ j.cmax ≤ 2000)
        ∧ j.tol ≤ 1000 ∧ (1 ≤ j.ncoast ∧ j.ncoast ≤ 8) ∧ j.vmin ≤ 500000
    (q.data.length < 15 → exec (.writeJob h q) s = .next (s.answered h 0x05 .badValue []))
      ∧ (15 ≤ q.data.length → s.jobs.arm.isSome = true → exec (.writeJob h q) s = .next (s.answered h 0x05 .armed []))
      ∧ (15 ≤ q.data.length → s.jobs.arm = none → q.bank ≠ 1 ∨ ¬good →
          exec (.writeJob h q) s = .next (s.answered h 0x05 .badValue []))
      ∧ (15 ≤ q.data.length → s.jobs.arm = none → q.bank = 1 → good →
          exec (.writeJob h q) s = .next ((s.setStandby { s.standby with job := j }).answered h 0x05 .done []))

/-- READ: the tests of the bank selector, the table and the entry number with their answers, and the entry of the bank
named, with the bank's number and the entry number, in the form in which it is written; for the station configuration the
selector is not read and the bank byte is a free value (R39, R161; logs 11, 16, 17). READ changes nothing but the model's
counter of free values. And the form of each record: each field at its offset of section 10.4, a lane followed by its
progress; the one byte 0xFF of an entry that is not there is log 16, and the 1 of a set flag log 33. -/
def Obligations.ReadAnswersTheEntry : Prop :=
  (∀ (s : State) (h : Header) (q : Req), s.takes h q →
    let refuse (st : Status) : Prop := exec (.read h q) s = .next (s.answered h 0x06 st [])
    let answers (n : Fin 2) (e : List Byte) : Prop :=
      exec (.read h q) s = .next (s.answered h 0x06 .done ([BitVec.ofNat 8 n.val, q.index] ++ e))
    (q.table ≠ 5 → q.bank ≠ 0 → q.bank ≠ 1 → refuse .badValue)
      ∧ (5 < q.table.toNat → refuse .badValue)
      ∧ (∀ n : Fin 2, (q.bank = 0 ∧ n = s.jobs.active) ∨ (q.bank = 1 ∧ n ≠ s.jobs.active) →
          (q.table = 0 → (64 ≤ q.index.toNat → refuse .badIndex)
              ∧ ∀ i : Fin 64, q.index.toNat = i.val → answers n (encodeDesign s.jobs.banks[n].designs[i]))
          ∧ (q.table = 1 → (8 ≤ q.index.toNat → refuse .badIndex)
              ∧ ∀ i : Fin 8, q.index.toNat = i.val → answers n (encodeLane s.jobs.banks[n].lanes[i]))
          ∧ (q.table = 2 → (128 ≤ q.index.toNat → refuse .badIndex)
              ∧ ∀ i : Fin 128, q.index.toNat = i.val → answers n [optByte s.jobs.banks[n].seq[i]])
          ∧ (q.table = 3 → (4 ≤ q.index.toNat → refuse .badIndex)
              ∧ ∀ i : Fin 4, q.index.toNat = i.val → answers n (encodeFoil s.jobs.banks[n].foil[i]))
          ∧ (q.table = 4 → (1 ≤ q.index.toNat → refuse .badIndex)
              ∧ (q.index = 0 → answers n (encodeJob s.jobs.banks[n].job))))
      ∧ (q.table = 5 → (38 ≤ q.index.toNat → refuse .badIndex)
          ∧ ∀ i : Item, Item.ofNat q.index.toNat = some i → ∃ bank : Byte, exec (.read h q) s =
              .next ((s.setFreeCount (s.freeCount + 1)).answered h 0x06 .done ([bank, q.index] ++ s.jobs.cfg.encode i))))
    ∧ encodeDesign none = [0xFF] ∧ encodeFoil none = [0xFF]
    ∧ (∀ x : Design, x.InRange → let b := encodeDesign (some x)
        b.length = 12 ∧ byteAt b 0 = 0
          ∧ byteAt b 1 = (match x.kind with | .foil => 0 | .foilEmboss => 1 | .embossWarm => 2 | .embossCold => 3)
          ∧ (byteAt b 2).toNat = x.segment.val ∧ (∀ w : Fin 4, x.web = some w → (byteAt b 3).toNat = w.val)
          ∧ (x.web = none → byteAt b 3 = 0xFF) ∧ field b 4 4 = x.offset ∧ field b 8 2 = x.length
          ∧ (byteAt b 10).toNat = x.pressure.val ∧ byteAt b 11 = if x.inhibit then 1 else 0)
    ∧ (∀ x : Lane, x.InRange → let b := encodeLane x
        b.length = 18
          ∧ byteAt b 0 = (match x.mode with | .off => 0 | .fixed => 1 | .alternate => 2 | .sequence => 3)
          ∧ (byteAt b 1).toNat = x.slotA.val ∧ (byteAt b 2).toNat = x.slotB.val ∧ (byteAt b 3).toNat = x.seqStart.val
          ∧ (byteAt b 4).toNat = x.seqLen ∧ sfield b 5 2 = x.trim ∧ (byteAt b 7 = if x.hold then 1 else 0)
          ∧ sfield b 8 2 = x.lo ∧ sfield b 10 2 = x.hi ∧ field b 12 2 = x.nsoak ∧ field b 14 2 = x.ndrift
          ∧ (byteAt b 16 = if x.onB then 1 else 0) ∧ (byteAt b 17).toNat = x.index)
    ∧ (∀ v : Option (Fin 64), optByte v = (match v with | none => 0xFF | some i => BitVec.ofNat 8 i.val))
    ∧ (∀ x : FoilWeb, x.InRange → let b := encodeFoil (some x)
        b.length = 11 ∧ byteAt b 0 = 0 ∧ (byteAt b 1).toNat = x.first.val ∧ (byteAt b 2).toNat = x.last.val
          ∧ field b 3 2 = x.fm ∧ field b 5 2 = x.gmin ∧ field b 7 4 = x.low)
    ∧ (∀ x : Job, x.inRange = true → let b := encodeJob x
        b.length = 15 ∧ field b 0 4 = x.lr ∧ field b 4 2 = x.w ∧ field b 6 2 = x.cmax ∧ field b 8 2 = x.tol
          ∧ (byteAt b 10).toNat = x.ncoast ∧ field b 11 4 = x.vmin)
    ∧ ∀ c : StationCfg, c.InRange →
        (let station (v : Option Byte) : List Byte := [v.getD 0xFF]
         c.encode .sensor = station c.sensor ∧ (∀ k : Fin 8, c.encode (.heater k) = station c.heaters[k])
           ∧ ∀ k : Fin 12, c.encode (.driveStation k) = station c.driveStations[k])
          ∧ ((c.encode .d).length = 4 ∧ field (c.encode .d) 0 4 = c.d)
          ∧ (let b := c.encode .leads
             b.length = 6 ∧ field b 0 2 = c.lc ∧ field b 2 2 = c.lf ∧ field b 4 2 = c.lmin)
          ∧ (c.encode .nack = [BitVec.ofNat 8 c.nack]) ∧ ((c.encode .ntmp).length = 2 ∧ field (c.encode .ntmp) 0 2 = c.ntmp)
          ∧ ((c.encode .jump).length = 2 ∧ field (c.encode .jump) 0 2 = c.jump)
          ∧ ∀ k : Fin 12, c.encode (.mask k) = [c.masks[k]]

/-- WRITE STATION: data cut short, BUSY, the item number and the value in this order, with the ranges of section 2.4,
and the write of the one item; which item each number names and how many bytes it reads (section 10.4); an unknown item
reads no data, the model's reading (R37, R161; log 19). -/
def Obligations.WriteStation : Prop :=
  (∀ (s : State) (h : Header) (q : Req), s.takes h q →
      let busy : Prop := s.planner.st = .stamping ∨ s.planner.st = .draining
      (38 ≤ q.index.toNat → exec (.writeStation h q) s =
          .next (s.answered h 0x07 (if s.planner.st = .stamping ∨ s.planner.st = .draining then .busy else .badIndex) []))
        ∧ ∀ i : Item, Item.ofNat q.index.toNat = some i →
            (q.data.length < i.need → exec (.writeStation h q) s = .next (s.answered h 0x07 .badValue []))
            ∧ (i.need ≤ q.data.length → busy → exec (.writeStation h q) s = .next (s.answered h 0x07 .busy []))
            ∧ (i.need ≤ q.data.length → ¬busy → s.jobs.cfg.write i q.data = none →
                exec (.writeStation h q) s = .next (s.answered h 0x07 .badValue []))
            ∧ ∀ c : StationCfg, i.need ≤ q.data.length → ¬busy → s.jobs.cfg.write i q.data = some c →
                exec (.writeStation h q) s = .next ((s.setJobs { s.jobs with cfg := c }).answered h 0x07 .done []))
    ∧ (∀ n : Nat, (Item.ofNat n).isSome = true ↔ n ≤ 37)
    ∧ (Item.ofNat 0 = some .sensor ∧ (∀ c : Fin 8, Item.ofNat (1 + c.val) = some (.heater c))
        ∧ (∀ d : Fin 12, Item.ofNat (9 + d.val) = some (.driveStation d)) ∧ Item.ofNat 21 = some .d
        ∧ Item.ofNat 22 = some .leads ∧ Item.ofNat 23 = some .nack ∧ Item.ofNat 24 = some .ntmp ∧ Item.ofNat 25 = some .jump
        ∧ ∀ d : Fin 12, Item.ofNat (26 + d.val) = some (.mask d))
    ∧ (∀ i : Item, i.need = match i with
        | .sensor => 1 | .heater _ => 1 | .driveStation _ => 1 | .d => 4 | .leads => 6 | .nack => 1 | .ntmp => 2
        | .jump => 2 | .mask _ => 1)
    ∧ ∀ (c : StationCfg) (d : List Byte),
        let station : Option (Option Byte) := if byteAt d 0 = 0xFF then some none
          else if 1 ≤ (byteAt d 0).toNat ∧ (byteAt d 0).toNat ≤ 62 then some (some (byteAt d 0)) else none
        c.write .sensor d = station.map (fun v => { c with sensor := v })
          ∧ (∀ k : Fin 8, c.write (.heater k) d = station.map fun v => { c with heaters := c.heaters.set k v })
          ∧ (∀ k : Fin 12, c.write (.driveStation k) d =
              station.map fun v => { c with driveStations := c.driveStations.set k v })
          ∧ (c.write .d d = if 1000 ≤ field d 0 4 ∧ field d 0 4 ≤ 2000000 then some { c with d := field d 0 4 } else none)
          ∧ (c.write .leads d = if field d 0 2 ≤ 50000 ∧ field d 2 2 ≤ 50000 ∧ field d 4 2 ≤ 10000
                ∧ field d 4 2 < field d 0 2 ∧ field d 4 2 < field d 2 2
              then some { c with lc := field d 0 2, lf := field d 2 2, lmin := field d 4 2 } else none)
          ∧ (c.write .nack d = if 2 ≤ (byteAt d 0).toNat ∧ (byteAt d 0).toNat ≤ 32 then
              some { c with nack := (byteAt d 0).toNat } else none)
          ∧ (c.write .ntmp d = if 4 ≤ field d 0 2 ∧ field d 0 2 ≤ 4000 then some { c with ntmp := field d 0 2 } else none)
          ∧ (c.write .jump d = if 100 ≤ field d 0 2 ∧ field d 0 2 ≤ 50000 then some { c with jump := field d 0 2 }
              else none)
          ∧ ∀ k : Fin 12, c.write (.mask k) d = some { c with masks := c.masks.set k (byteAt d 0) }

/-- Validation makes the eight checks of R40's table in their order and reports the first that fails with its index: Lr
in range (0); every lane in use references defined designs (the lane); every referenced design ends within the repeat
(the design); every foil design has a present web that covers the lane (the lane); no two present webs overlap (the
higher web of the first pair); every band has lo below hi (the lane); the stations are assigned (the lane, or 8 + the
web); some lane is in use (0). The bank is valid when none fails, and empty when no lane is in use. A FIXED lane
references slot A, an ALTERNATE lane both slots, a SEQUENCE lane each entry of its span, past the table's end none
(section 2.5.1, R27). -/
def Obligations.ValidBank : Prop :=
  ∀ (b : Bank) (cfg : StationCfg),
    let refs (l : Fin 8) : List (Option (Fin 64)) :=
      let x := b.lanes[l]
      match x.mode with
      | .off => []
      | .fixed => [some x.slotA]
      | .alternate => [some x.slotA, some x.slotB]
      | .sequence => (List.range x.seqLen).map fun i => (b.seq[x.seqStart.val + i]?).getD none
    let inUse (l : Fin 8) : Prop := b.lanes[l].mode ≠ .off
    let ok1 : Prop := 2000 ≤ b.job.lr ∧ b.job.lr ≤ 200000
    let ok2 (l : Fin 8) : Prop := ∀ r ∈ refs l, ∃ (d : Fin 64) (x : Design), r = some d ∧ b.designs[d] = some x
    let ok3 (d : Fin 64) : Prop := ∀ (l : Fin 8) (x : Design), some d ∈ refs l → b.designs[d] = some x →
      x.offset + x.length ≤ b.job.lr
    let ok4 (l : Fin 8) : Prop := ∀ (d : Fin 64) (x : Design), some d ∈ refs l → b.designs[d] = some x →
      x.kind = .foil ∨ x.kind = .foilEmboss →
      ∃ (w : Fin 4) (f : FoilWeb), x.web = some w ∧ b.foil[w] = some f ∧ f.first ≤ l ∧ l ≤ f.last
    let ok5 (v w : Fin 4) : Prop := ∀ f g : FoilWeb, b.foil[v] = some f → b.foil[w] = some g →
      f.last < g.first ∨ g.last < f.first
    let ok6 (l : Fin 8) : Prop := inUse l → b.lanes[l].lo < b.lanes[l].hi
    let ok7 (l : Fin 8) : Prop := inUse l →
      cfg.driveStations[cassetteDrive l].isSome = true ∧ cfg.heaters[l].isSome = true
    let ok7web (f : Fin 4) : Prop := b.foil[f].isSome = true → cfg.driveStations[foilDrive f].isSome = true
    let ok8 : Prop := ∃ l : Fin 8, inUse l
    -- the checks before each one pass
    let to2 : Prop := ok1 ∧ ∀ l, ok2 l
    let to3 : Prop := to2 ∧ ∀ d, ok3 d
    let to4 : Prop := to3 ∧ ∀ l, ok4 l
    let to5 : Prop := to4 ∧ ∀ v w, v < w → ok5 v w
    let to6 : Prop := to5 ∧ ∀ l, ok6 l
    let to7 : Prop := to6 ∧ (∀ l, ok7 l) ∧ ∀ f, ok7web f
    (b.validate cfg = none ↔ to7 ∧ ok8)
      ∧ (∀ check index : Nat, b.validate cfg = some (check, index) ↔
          (check = 1 ∧ ¬ok1 ∧ index = 0)
            ∨ (check = 2 ∧ ok1 ∧ ∃ l, FirstFailing ok2 l ∧ index = l.val)
            ∨ (check = 3 ∧ to2 ∧ ∃ d, FirstFailing ok3 d ∧ index = d.val)
            ∨ (check = 4 ∧ to3 ∧ ∃ l, FirstFailing ok4 l ∧ index = l.val)
            ∨ (check = 5 ∧ to4 ∧ ∃ v w : Fin 4, v < w ∧ ¬ok5 v w ∧ index = w.val
                ∧ ∀ v' w' : Fin 4, v' < w' → v' < v ∨ (v' = v ∧ w' < w) → ok5 v' w')
            ∨ (check = 6 ∧ to5 ∧ ∃ l, FirstFailing ok6 l ∧ index = l.val)
            ∨ (check = 7 ∧ to6 ∧ ((∃ l, FirstFailing ok7 l ∧ index = l.val)
                ∨ ((∀ l, ok7 l) ∧ ∃ f, FirstFailing ok7web f ∧ index = 8 + f.val)))
            ∨ (check = 8 ∧ to7 ∧ ¬ok8 ∧ index = 0))
      ∧ (b.isEmpty = true ↔ ¬ok8)

/-! ## Changeover, START and STOP -/

/-- ARM CHANGEOVER: data cut short and an unknown selector are BAD_VALUE; an invalid standby bank is answered INVALID with
the check and the index; otherwise IDLE and READY take the changeover and stand in READY, STAMPING and DRAINING arm it
with the target (R41, R43, R161; that the five data bytes are read for both selectors is the model's reading, log 18). -/
def Obligations.ArmChangeover : Prop :=
  ∀ (s : State) (h : Header) (q : Req), s.takes h q →
    (q.data.length < 5 → exec (.armChangeover h q) s = .next (s.answered h 0x08 .badValue []))
      ∧ (5 ≤ q.data.length → byteAt q.data 0 ≠ 0 → byteAt q.data 0 ≠ 1 →
          exec (.armChangeover h q) s = .next (s.answered h 0x08 .badValue []))
      ∧ ∀ t : Target, 5 ≤ q.data.length →
          (byteAt q.data 0 = 0 ∧ t = .atRepeat (BitVec.ofNat 32 (field q.data 1 4))) ∨ (byteAt q.data 0 = 1 ∧ t = .next) →
          (∀ k i : Nat, s.standby.validate s.jobs.cfg = some (k, i) → exec (.armChangeover h q) s =
            .next (s.answered h 0x08 .invalid [BitVec.ofNat 8 k, BitVec.ofNat 8 i]))
          ∧ (s.standby.validate s.jobs.cfg = none → s.planner.st = .idle ∨ s.planner.st = .ready →
              exec (.armChangeover h q) s = .next ((s.takeChangeover.setPlanner { s.planner with st := .ready }).answered
                h 0x08 .done []))
          ∧ (s.standby.validate s.jobs.cfg = none → s.planner.st = .stamping ∨ s.planner.st = .draining →
              exec (.armChangeover h q) s = .next ((s.setJobs { s.jobs with arm := some t }).answered h 0x08 .done []))

/-- CANCEL CHANGEOVER clears an arm, or answers NOT_ARMED; COPY ACTIVE TO STANDBY copies every table of the active bank,
or answers ARMED (R46, R47). -/
def Obligations.CancelAndCopy : Prop :=
  ∀ (s : State) (h : Header) (q : Req), s.takes h q →
    (s.jobs.arm.isSome = true →
        exec (.cancelChangeover h q) s = .next ((s.setJobs { s.jobs with arm := none }).answered h 0x09 .done [])
        ∧ exec (.copyActiveToStandby h q) s = .next (s.answered h 0x0A .armed []))
      ∧ (s.jobs.arm = none →
        exec (.cancelChangeover h q) s = .next (s.answered h 0x09 .notArmed [])
        ∧ exec (.copyActiveToStandby h q) s = .next ((s.setStandby s.active).answered h 0x0A .done []))

/-- CLEAR STANDBY gives the standby bank the cleared contents of R27 and touches neither the active bank nor the station
configuration; it is refused with ARMED while a changeover is armed (R48). -/
def Obligations.ClearStandby : Prop :=
  ∀ (s : State) (h : Header) (q : Req), s.takes h q →
    (s.jobs.arm.isSome = true → exec (.clearStandby h q) s = .next (s.answered h 0x0B .armed []))
      ∧ (s.jobs.arm = none → ∃ b : Bank,
          exec (.clearStandby h q) s = .next ((s.setStandby b).answered h 0x0B .done [])
          ∧ (s.setStandby b).standby = b ∧ (s.setStandby b).active = s.active ∧ (s.setStandby b).jobs.cfg = s.jobs.cfg
          ∧ (∀ i : Fin 64, b.designs[i] = none) ∧ (∀ i : Fin 128, b.seq[i] = none) ∧ (∀ f : Fin 4, b.foil[f] = none)
          ∧ (∀ l : Fin 8, b.lanes[l] =
              { mode := .off, slotA := 0, slotB := 0, seqStart := 0, seqLen := 1, onB := false, index := 0, trim := 0,
                hold := false, lo := 0, hi := 0, nsoak := 0, ndrift := 0 })
          ∧ b.job = { lr := 0, w := 0, cmax := 0, tol := 0, ncoast := 0, vmin := 0 })

/-- START is NO_JOB in IDLE and DONE without change in STAMPING; in READY and DRAINING it revalidates the active bank, and
enters STAMPING or answers INVALID. STOP enters DRAINING from STAMPING, and READY at once when the queue is empty, taking
an armed changeover; elsewhere it is DONE without change (R53 to R55, R43). -/
def Obligations.StartAndStop : Prop :=
  ∀ (s : State) (h : Header) (q : Req), s.takes h q →
    (s.planner.st = .idle → exec (.start h q) s = .next (s.answered h 0x0C .noJob []))
      ∧ (s.planner.st = .stamping → exec (.start h q) s = .next (s.answered h 0x0C .done []))
      ∧ (s.planner.st = .ready ∨ s.planner.st = .draining →
          (∀ k i : Nat, s.active.validate s.jobs.cfg = some (k, i) → exec (.start h q) s =
            .next (s.answered h 0x0C .invalid [BitVec.ofNat 8 k, BitVec.ofNat 8 i]))
          ∧ (s.active.validate s.jobs.cfg = none → exec (.start h q) s =
            .next ((s.setPlanner { s.planner with st := .stamping }).answered h 0x0C .done [])))
      ∧ (s.planner.st ≠ .stamping → exec (.stop h q) s = .next (s.answered h 0x0D .done []))
      ∧ (s.planner.st = .stamping → s.planner.queue ≠ [] → exec (.stop h q) s =
          .next ((s.setPlanner { s.planner with st := .draining }).answered h 0x0D .done []))
      ∧ (s.planner.st = .stamping → s.planner.queue = [] →
          let ready := s.setPlanner { s.planner with st := .ready }
          (s.jobs.arm = none → exec (.stop h q) s = .next (ready.answered h 0x0D .done []))
          ∧ (s.jobs.arm.isSome = true → exec (.stop h q) s = .next (ready.takeChangeover.answered h 0x0D .done [])))

/-! ## Live fields, pitch and foil -/

/-- HOLD LANE, RELEASE LANE and SET TRIM act on the lane of the active bank alone, the trim clamped to -1,000 and +1,000
with CLAMPED; NO_JOB over an empty active bank and BAD_INDEX past lane 7 go first (R34, R35, R161). -/
def Obligations.HoldReleaseTrim : Prop :=
  ∀ (s : State) (h : Header) (q : Req), s.takes h q →
    let b := s.active
    let trim := sfield q.data 0 2
    let lane (l : Fin 8) (x : Lane) : State := s.setActive { b with lanes := b.lanes.set l x }
    (b.isEmpty = true → exec (.holdLane h q) s = .next (s.answered h 0x0E .noJob [])
        ∧ exec (.releaseLane h q) s = .next (s.answered h 0x0F .noJob [])
        ∧ (2 ≤ q.data.length → exec (.setTrim h q) s = .next (s.answered h 0x10 .noJob [])))
      ∧ (b.isEmpty = false → 8 ≤ q.index.toNat → exec (.holdLane h q) s = .next (s.answered h 0x0E .badIndex [])
        ∧ exec (.releaseLane h q) s = .next (s.answered h 0x0F .badIndex [])
        ∧ (2 ≤ q.data.length → exec (.setTrim h q) s = .next (s.answered h 0x10 .badIndex [])))
      ∧ (q.data.length < 2 → exec (.setTrim h q) s = .next (s.answered h 0x10 .badValue []))
      ∧ ∀ l : Fin 8, b.isEmpty = false → q.index.toNat = l.val →
          exec (.holdLane h q) s = .next ((lane l { b.lanes[l] with hold := true }).answered h 0x0E .done [])
          ∧ exec (.releaseLane h q) s = .next ((lane l { b.lanes[l] with hold := false }).answered h 0x0F .done [])
          ∧ (2 ≤ q.data.length → -1000 ≤ trim → trim ≤ 1000 → exec (.setTrim h q) s =
              .next ((lane l { b.lanes[l] with trim := trim }).answered h 0x10 .done []))
          ∧ (2 ≤ q.data.length → trim < -1000 → exec (.setTrim h q) s =
              .next ((lane l { b.lanes[l] with trim := -1000 }).answered h 0x10 .clamped []))
          ∧ (2 ≤ q.data.length → 1000 < trim → exec (.setTrim h q) s =
              .next ((lane l { b.lanes[l] with trim := 1000 }).answered h 0x10 .clamped []))

/-- SET PITCH stages the length, brought into 2,000 to 200,000 with CLAMPED, and changes nothing else: not Lr, not the
prediction, not the window; over an empty active bank it is NO_JOB, with the staged pitch unchanged (R22). -/
def Obligations.SetPitch : Prop :=
  ∀ (s : State) (h : Header) (q : Req), s.takes h q →
    let l := field q.data 0 4
    let staged (v : Nat) : State := s.setTracker { s.tracker with staged := some v }
    (q.data.length < 4 → exec (.setPitch h q) s = .next (s.answered h 0x11 .badValue []))
      ∧ (4 ≤ q.data.length → s.active.isEmpty = true → exec (.setPitch h q) s = .next (s.answered h 0x11 .noJob []))
      ∧ (4 ≤ q.data.length → s.active.isEmpty = false →
          (l < 2000 → exec (.setPitch h q) s = .next ((staged 2000).answered h 0x11 .clamped []))
          ∧ (200000 < l → exec (.setPitch h q) s = .next ((staged 200000).answered h 0x11 .clamped []))
          ∧ (2000 ≤ l → l ≤ 200000 → exec (.setPitch h q) s = .next ((staged l).answered h 0x11 .done [])))

/-- LOAD FOIL: BAD_INDEX for a web past 3 or absent in the active foil map, BAD_VALUE past 2,147,483,648 counts; otherwise
remaining becomes the larger of the length and the reserved foil, CLAMPED when that raised it, and the low test is made
both ways: the flag clears at or above the threshold, and below it is set, with FOIL_LOW if it was clear (R104). -/
def Obligations.LoadFoil : Prop :=
  ∀ (s : State) (h : Header) (q : Req), s.takes h q →
    let n := field q.data 0 4
    (q.data.length < 4 → exec (.loadFoil h q) s = .next (s.answered h 0x12 .badValue []))
      ∧ (4 ≤ q.data.length → 4 ≤ q.index.toNat → exec (.loadFoil h q) s = .next (s.answered h 0x12 .badIndex []))
      ∧ ∀ f : Fin 4, 4 ≤ q.data.length → q.index.toNat = f.val →
          (s.active.foil[f] = none → exec (.loadFoil h q) s = .next (s.answered h 0x12 .badIndex []))
          ∧ ∀ w : FoilWeb, s.active.foil[f] = some w →
              (2147483648 < n → exec (.loadFoil h q) s = .next (s.answered h 0x12 .badValue []))
              ∧ (n ≤ 2147483648 →
                  let a := s.foil[f]
                  let remaining := if n < a.reserved then a.reserved else n
                  let under : Prop := remaining - a.reserved < w.low
                  let st : Status := if n < a.reserved then .clamped else .done
                  let loaded (low : Bool) : State := s.setFoil (s.foil.set f { a with remaining, low })
                  (¬under → exec (.loadFoil h q) s = .next ((loaded false).answered h 0x12 st []))
                  ∧ (under → a.low = true → exec (.loadFoil h q) s = .next ((loaded true).answered h 0x12 st []))
                  ∧ (under → a.low = false → exec (.loadFoil h q) s =
                      .next (((loaded true).raise 8 (BitVec.ofNat 32 f.val)).answered h 0x12 st [])))

/-! ## Attention (section 9.4) -/

/-- EVENT ENABLE and EVENT DISABLE write the flags of the kinds named and answer the flags of all eighteen; SET LEVEL
writes one level, BAD_INDEX past kind 17 and BAD_VALUE past level 7; a selection follows each (R174). That bits 18 to 23
of the answered set are 0 is the model's choice (log 36). -/
def Obligations.EventSettings : Prop :=
  ∀ (s : State) (h : Header) (q : Req), s.takes h q →
    let named (k : Fin 18) : Bool := (field q.data 0 3).testBit k.val
    let written (on : Bool) : Attention := { s.attention with
      kinds := Vector.ofFn fun k =>
        if named k then { s.attention.kinds[k] with enabled := on } else s.attention.kinds[k] }
    let tells (data : List Byte) (a : Attention) : Prop :=
      data.length = 3 ∧ field data 0 3 < 2 ^ 18 ∧ ∀ k : Fin 18, (field data 0 3).testBit k.val = a.kinds[k].enabled
    (q.data.length < 3 → exec (.eventEnable h q) s = .next (s.answered h 0x13 .badValue [])
        ∧ exec (.eventDisable h q) s = .next (s.answered h 0x14 .badValue []))
      ∧ (3 ≤ q.data.length →
          (∃ data, tells data (written true) ∧ exec (.eventEnable h q) s =
            .next ((s.setAttention (written true).select).answered h 0x13 .done data))
          ∧ ∃ data, tells data (written false) ∧ exec (.eventDisable h q) s =
            .next ((s.setAttention (written false).select).answered h 0x14 .done data))
      ∧ (q.data.length < 1 → exec (.setLevel h q) s = .next (s.answered h 0x15 .badValue []))
      ∧ (1 ≤ q.data.length → 18 ≤ q.index.toNat → exec (.setLevel h q) s = .next (s.answered h 0x15 .badIndex []))
      ∧ ∀ k : Fin 18, 1 ≤ q.data.length → q.index.toNat = k.val →
          (8 ≤ (byteAt q.data 0).toNat → exec (.setLevel h q) s = .next (s.answered h 0x15 .badValue []))
          ∧ ∀ l : Fin 8, (byteAt q.data 0).toNat = l.val → exec (.setLevel h q) s =
              .next ((s.setAttention (Attention.select { s.attention with
                kinds := s.attention.kinds.set k { s.attention.kinds[k] with level := l } })).answered h 0x15 .done [])

/-- ACK EVENT: BAD_INDEX past kind 17; a kind in service or pending leaves service, its pending flag and count cleared,
its detail kept, a waiting ATN of it discarded, a selection after it; any other is NOT_PENDING with no change (R176). -/
def Obligations.AckEvent : Prop :=
  ∀ (s : State) (h : Header) (q : Req), s.takes h q →
    (18 ≤ q.index.toNat → exec (.ackEvent h q) s = .next (s.answered h 0x16 .badIndex []))
      ∧ ∀ k : Fin 18, q.index.toNat = k.val →
          let a := s.attention
          let served : Prop := ∃ m ∈ a.service, m.1 = k
          let cleared : Attention :=
            { kinds := a.kinds.set k { a.kinds[k] with pending := false, count := 0 }
              service := a.service.filter fun m => m.1 != k
              waiting := if a.waiting = some k then none else a.waiting }
          (served ∨ a.kinds[k].pending = true →
              exec (.ackEvent h q) s = .next ((s.setAttention cleared.select).answered h 0x16 .done []))
          ∧ (¬served → a.kinds[k].pending = false → exec (.ackEvent h q) s = .next (s.answered h 0x16 .notPending []))

/-- POLL EVENTS answers the winner of a selection, or none with five bytes of free value, the kind whose ATN waits, and
one group for each kind in service in some order; it changes nothing but the model's counter of free values (R177; logs
12, 13). -/
def Obligations.PollEvents : Prop :=
  ∀ (s : State) (h : Header) (q : Req), s.takes h q →
    let a := s.attention
    let group (k : Fin 18) (level : Fin 8) : List Byte :=
      [BitVec.ofNat 8 (k.val + 32 * level.val)] ++ be 4 a.kinds[k].detail.toNat ++ [BitVec.ofNat 8 a.kinds[k].count]
    ∃ (first : List Byte) (order : List (Fin 18 × Fin 8)), order.Perm a.service
      ∧ (∀ k, a.winner = some k → first = group k a.kinds[k].level)
      ∧ (a.winner = none → first.length = 6 ∧ first.head? = some 0xFF)
      ∧ exec (.pollEvents h q) s = .next ((s.setFreeCount (s.freeCount + 5 + a.service.length)).answered h 0x17 .done
          (first ++ [match a.waiting with | none => 0xFF | some k => BitVec.ofNat 8 k.val]
            ++ order.flatMap fun m => group m.1 m.2))

/-- The winner is the candidate of lowest level, the lower kind among equal levels. A selection without a candidate, or
with a winner not more urgent than every kind in service, does nothing; otherwise the winner's ATN waits, it enters
service with its level, and a kind whose ATN waited leaves service. A raising sets pending, replaces the detail, counts
the occurrence up to 255, and a selection follows (R173, R175); that it follows also where the kind is in service and
another one is then queued is the model's choice (log 37). -/
def Obligations.SelectionAndRaising : Prop :=
  (∀ a : Attention,
      (a.winner = none ↔ ∀ k, a.candidate k = false)
        ∧ (∀ k, a.winner = some k ↔ a.candidate k = true ∧ ∀ j, a.candidate j = true →
            a.kinds[k].level < a.kinds[j].level ∨ (a.kinds[k].level = a.kinds[j].level ∧ k ≤ j))
        ∧ (∀ k, a.candidate k = true ↔ a.kinds[k].pending = true ∧ a.kinds[k].enabled = true ∧ ∀ m ∈ a.service, m.1 ≠ k)
        ∧ (a.winner = none → a.select = a)
        ∧ ∀ k, a.winner = some k →
            ((∃ m ∈ a.service, m.2 ≤ a.kinds[k].level) → a.select = a)
            ∧ ((∀ m ∈ a.service, a.kinds[k].level < m.2) → a.select =
                { kinds := a.kinds, waiting := some k
                  service := (a.service.filter fun m => decide (a.waiting ≠ some m.1)) ++ [(k, a.kinds[k].level)] }))
    ∧ ∀ (s : State) (k : Fin 18) (v : BitVec 32), s.raise k v = s.setAttention (Attention.select { s.attention with
        kinds := s.attention.kinds.set k { s.attention.kinds[k] with
          pending := true, detail := v,
          count := if s.attention.kinds[k].count < 255 then s.attention.kinds[k].count + 1 else 255 } })

/-! ## Log, watch, snapshot, identity -/

/-- FETCH LOG with n up to 4 answers how many records stay and the n oldest, oldest first, and removes them from the
log; a greater n is BAD_VALUE with the log unchanged. A record takes 15 bytes by R182's layout, its outcome and reason
by the codes of section 10.3 (R170, R161); that its bits without a value are 0 is the model's choice (log 36). -/
def Obligations.FetchLog : Prop :=
  (∀ (s : State) (h : Header) (q : Req), s.takes h q →
      let n := (byteAt q.data 0).toNat
      let log := s.report.log
      (q.data.length < 1 → exec (.fetchLog h q) s = .next (s.answered h 0x18 .badValue []))
        ∧ (1 ≤ q.data.length → 4 < n → exec (.fetchLog h q) s = .next (s.answered h 0x18 .badValue []))
        ∧ (1 ≤ q.data.length → n ≤ 4 → exec (.fetchLog h q) s =
            .next ((s.setReport { s.report with log := log.drop n }).answered h 0x18 .done
              (be 2 (log.drop n).length ++ (log.take n).flatMap LogRecord.encode))))
    ∧ ∀ r : LogRecord, -32768 ≤ r.residual → r.residual < 32768 → let b := r.encode
        b.length = 15 ∧ field b 0 2 = r.seq.toNat ∧ field b 2 4 = r.repeatNo.toNat
          ∧ (byteAt b 6).toNat % 8 = r.lane.val ∧ (byteAt b 6).getLsbD 4 = r.synth ∧ (byteAt b 6).getLsbD 5 = r.first
          ∧ (byteAt b 6).getLsbD 6 = r.gap ∧ (byteAt b 6).getLsbD 3 = false ∧ (byteAt b 6).getLsbD 7 = false
          ∧ (∀ d, r.design = some d → (byteAt b 7).toNat = d.val) ∧ (r.design = none → byteAt b 7 = 0xFF)
          ∧ (byteAt b 8).toNat = (outcomeNumbers (some r.decision)).2 + 16 * (outcomeNumbers (some r.decision)).1
          ∧ sfield b 9 2 = r.residual ∧ field b 11 4 = (r.contact.getD 0).toNat

/-- SET WATCH writes the whole entry: BAD_VALUE for data cut short, BAD_INDEX past entry 3, BAD_VALUE for a lane past 7, a
design past 63 or an unknown class whether or not its field enable is set (R172, R161). -/
def Obligations.SetWatch : Prop :=
  ∀ (s : State) (h : Header) (q : Req), s.takes h q →
    let d := q.data
    (d.length < 8 → exec (.setWatch h q) s = .next (s.answered h 0x19 .badValue []))
      ∧ (8 ≤ d.length → 4 ≤ q.index.toNat → exec (.setWatch h q) s = .next (s.answered h 0x19 .badIndex []))
      ∧ ∀ i : Fin 4, 8 ≤ d.length → q.index.toNat = i.val →
          (8 ≤ (byteAt d 1).toNat ∨ 64 ≤ (byteAt d 3).toNat ∨ 3 ≤ (byteAt d 5).toNat →
              exec (.setWatch h q) s = .next (s.answered h 0x19 .badValue []))
          ∧ ∀ (lane : Fin 8) (design : Fin 64) (cls : OutcomeClass), (byteAt d 1).toNat = lane.val →
              (byteAt d 3).toNat = design.val →
              (byteAt d 5).toNat = (match cls with | .stamped => 0 | .suppressed => 1 | .reject => 2) →
              let w : Watch :=
                { enabled := byteAt d 0 != 0, lane, laneOn := byteAt d 2 != 0, design, designOn := byteAt d 4 != 0, cls,
                  clsOn := byteAt d 6 != 0, once := byteAt d 7 != 0 }
              exec (.setWatch h q) s =
                .next ((s.setReport { s.report with watch := s.report.watch.set i w }).answered h 0x19 .done [])

/-- SNAPSHOT answers the items of its part in the layout of section 10.5, 58 or 62 bytes, and changes nothing; any other
part is BAD_VALUE. The lane group's code is a free value (R161, R162; log 14). -/
def Obligations.Snapshot : Prop :=
  ∀ (s : State) (h : Header) (q : Req), s.takes h q →
    let armed : Byte × Nat := match s.jobs.arm with
      | none => (0, 0) | some (.atRepeat n) => (1, n.toNat) | some .next => (2, 0)
    let heat (c : Fin 8) : Nat := match s.cassettes[c].heat with
      | .lost => 0 | .cold => 1 | .soak => 2 | .ready => 3 | .drift => 4
    let link (d : Fin 12) : Nat := match s.drives[d].link with | .silent => 0 | .answering => 1 | .faulted => 2
    let part1 : List Byte := be 4 s.tracker.pos.toNat ++ be 4 s.tracker.speed
      ++ [match s.tracker.line with | .stop => 0 | .crawl => 1 | .run => 2] ++ be 2 s.tracker.cycleNo.toNat
      ++ [match s.tracker.mode with | .unlocked => 0 | .locking => 1 | .locked => 2 | .coasting => 3]
      ++ be 4 s.tracker.repeatNo.toNat ++ be 2 s.tracker.stray
      ++ [match s.planner.st with | .idle => 0 | .ready => 1 | .stamping => 2 | .draining => 3]
      ++ [BitVec.ofNat 8 s.planner.queue.length, BitVec.ofNat 8 s.jobs.active.val, armed.1] ++ be 4 armed.2
      ++ [0, 1, 2, 3].flatMap (fun f : Fin 4 => be 4 s.foil[f].remaining)
      ++ [0, 1, 2, 3].flatMap (fun f : Fin 4 => be 4 s.foil[f].reserved)
    let part2 (group : Byte) (lanes : List (Fin 8)) : List Byte := be 2 s.tracker.cycleNo.toNat ++ [group]
      ++ lanes.flatMap (fun l => be 4 s.planner.stamped[l] ++ be 4 s.planner.rejected[l])
      ++ [0, 1, 2, 3].flatMap (fun f : Fin 4 => be 4 s.foil[f].saved)
      ++ [(0, 1), (2, 3), (4, 5), (6, 7)].map (fun c : Fin 8 × Fin 8 => BitVec.ofNat 8 (heat c.1 + 16 * heat c.2))
      ++ [0, 1, 2].map (fun i : Fin 3 => BitVec.ofNat 8 (link ⟨4 * i.val, by omega⟩ + 4 * link ⟨4 * i.val + 1, by omega⟩
          + 16 * link ⟨4 * i.val + 2, by omega⟩ + 64 * link ⟨4 * i.val + 3, by omega⟩))
      ++ be 2 s.port.damaged ++ be 2 s.report.log.length
    part1.length = 58 ∧ (part2 0 [0, 1, 2, 3]).length = 62 ∧ (part2 0 [4, 5, 6, 7]).length = 62
      ∧ (q.data.length < 1 → exec (.snapshot h q) s = .next (s.answered h 0x1A .badValue []))
      ∧ (1 ≤ q.data.length → 2 < (byteAt q.data 0).toNat →
          exec (.snapshot h q) s = .next (s.answered h 0x1A .badValue []))
      ∧ (1 ≤ q.data.length → byteAt q.data 0 = 0 → exec (.snapshot h q) s = .next (s.answered h 0x1A .done part1))
      ∧ (1 ≤ q.data.length → byteAt q.data 0 = 1 →
          ∃ g : Byte, exec (.snapshot h q) s = .next (s.answered h 0x1A .done (part2 g [0, 1, 2, 3])))
      ∧ (1 ≤ q.data.length → byteAt q.data 0 = 2 →
          ∃ g : Byte, exec (.snapshot h q) s = .next (s.answered h 0x1A .done (part2 g [4, 5, 6, 7])))

/-- IDENTIFY is answered DONE in every state with the vendor code, the part code, the revision and the part's own
station number, 1 to 62 by the invariant of O54, and changes no state; a part in through-only state passes the request
on and gives no answer (R164). -/
def Obligations.Identify : Prop :=
  (∀ (s : State) (h : Header) (q : Req), s.takes h q →
      exec (.identify h q) s = .next (s.answered h 0x1B .done [0x45, 0x02, 0x08, 3, h.dest])
        ∧ s.port.station = some h.dest ∧ (s.port.Consistent → 1 ≤ h.dest.toNat ∧ h.dest.toNat ≤ 62))
    ∧ ∀ (s : State) (h : Header) (q : Req), s.port.resetIn = false → s.port.station = none →
        ∃ t : State, exec (.identify h q) s = .next t ∧ t.answers = s.answers

/-- A request code that the part does not know is answered BAD_REQUEST, whatever its other fields hold (R161). -/
def Obligations.UnknownCode : Prop :=
  ∀ (s : State) (h : Header) (code : Byte) (q : Req), s.takes h q → code.toNat = 0 ∨ 28 < code.toNat →
    exec (.unknownRequestCode h code q) s = .next (s.answered h code .badRequest [])

/-! ## Encodings -/

/-- A record within its ranges is read back from the form in which READ answers it: writing what was read gives the same
entry, a lane's progress reset, and an item of the station configuration by itself (R30 to R33, R37, R39). The form of an
entry that is UNDEFINED or ABSENT is the model's reading (log 16). -/
def Obligations.RecordsReadBackAsWritten : Prop :=
  (∀ d : Option Design, (∀ x, d = some x → x.InRange) → decodeDesign (encodeDesign d) = some d)
    ∧ (∀ l : Lane, l.InRange → decodeLane (encodeLane l) = some { l with onB := false, index := 0 })
    ∧ (∀ v : Option (Fin 64), decodeSequence [optByte v] = some v)
    ∧ (∀ f : Option FoilWeb, (∀ x, f = some x → x.InRange) → decodeFoil (encodeFoil f) = some f)
    ∧ (∀ j : Job, j.inRange = true → decodeJob (encodeJob j) = some j)
    ∧ ∀ (a b : StationCfg) (i : Item), a.InRange → ∃ c : StationCfg, b.write i (a.encode i) = some c
        ∧ c.encode i = a.encode i ∧ ∀ j : Item, j ≠ i → c.encode j = b.encode j

/-! ## Invariants -/

/-- The machine right after reset, and after every power-on reset, meets every invariant below. -/
def Obligations.ResetMeetsTheInvariants : Prop :=
  ∀ s : State, s = State.reset ∨ (∃ (u : State) (straps : BitVec 6), s = u.poweredOn straps) →
    s.ListsBounded ∧ s.port.Consistent ∧ s.CountsInRange ∧ s.report.LogConsecutive
      ∧ (∀ d : Fin 12, s.drives[d].Consistent) ∧ s.attention.Consistent ∧ s.JobConsistent ∧ s.QueueConsistent
      ∧ s.RepeatsDistinct ∧ s.FoilConsistent ∧ s.RecordsSent ∧ s.TrackerConsistent

/-- Every step keeps the bounds of the waiting lists and queues, the eight lanes of the rotating order, a station number
of 1 to 62, the log sequences consecutive, and of each drive the sequence numbers consecutive and the list empty while
it is SILENT. -/
def Obligations.ListsAndSequencesKept : Prop :=
  (∀ s t : State, s.ListsBounded → step s = .next t → t.ListsBounded)
    ∧ (∀ s t : State, s.port.Consistent → step s = .next t → t.port.Consistent)
    ∧ (∀ s t : State, s.report.LogConsecutive → step s = .next t → t.report.LogConsecutive)
    ∧ ∀ s t : State, (∀ d : Fin 12, s.drives[d].Consistent) → step s = .next t → ∀ d : Fin 12, t.drives[d].Consistent

/-- Every step keeps the bank entries, the station configuration and the saturating counts in their ranges. -/
def Obligations.CountsKept : Prop :=
  ∀ s t : State, s.CountsInRange → step s = .next t → t.CountsInRange

/-- Every step keeps the events in service pending and at different levels, and a waiting ATN in service (R175). -/
def Obligations.AttentionKept : Prop :=
  ∀ s t : State, s.attention.Consistent → step s = .next t → t.attention.Consistent

/-- Every step keeps planner state, queue, active bank and arm in agreement (section 3.1, R41, R42, R55). -/
def Obligations.JobKept : Prop :=
  ∀ s t : State, s.JobConsistent → step s = .next t → t.JobConsistent

/-- Every step keeps each plan of the queue with an undecided entry, entries in lane order and at most four moves; and
the repeat numbers stay distinct while no plan of the queue is as old as the numbers that the next marks will take: a
plan does not outlive 2^32 repeats (R56). -/
def Obligations.QueueKept : Prop :=
  (∀ s t : State, s.QueueConsistent → step s = .next t → t.QueueConsistent)
    ∧ ∀ s t : State, s.RepeatsDistinct →
        (∀ p ∈ s.planner.queue, ∀ k : Nat, 1 ≤ k → k ≤ 256 → p.repeatNo ≠ s.tracker.repeatNo + BitVec.ofNat 32 k) →
        step s = .next t → t.RepeatsDistinct

/-- Every step keeps each web's reserved foil within its remaining foil and equal to the sum over its unsent moves, each
of which reserves its length and serves an undecided entry (R70, R88, R89), while the foil moves that the drives'
records name were sent. And every step keeps that of the records, while none of them is as old as the repeat numbers
that the next marks will take (R68, R132). -/
def Obligations.FoilKept : Prop :=
  (∀ s t : State, s.FoilConsistent → s.QueueConsistent → s.RepeatsDistinct → s.RecordsSent → step s = .next t →
      t.FoilConsistent)
    ∧ ∀ s t : State, s.RecordsSent → s.RepeatsDistinct →
        (∀ d : Fin 12, ∀ r ∈ s.drives[d].out, ∀ k i : Nat, 1 ≤ k → k ≤ 256 →
          r.item ≠ .fmv (s.tracker.repeatNo + BitVec.ofNat 32 k) i) →
        step s = .next t → t.RecordsSent

/-- Every step keeps the tracker's items in agreement with its state, over a consistent job (R4, R8, R12, R15, R17,
R22). -/
def Obligations.TrackerKept : Prop :=
  ∀ s t : State, s.JobConsistent → s.TrackerConsistent → step s = .next t → t.TrackerConsistent

end
end

