-- ==== Sys2Proof/Laws/State.lean ====
section
/-! SUPPORT. What each update of a block gives and leaves alone, field by field. -/

namespace Sys2Proof.Machine.State

variable (s : State)

section
variable (v : List Instr)
@[simp] theorem setPending_pending : (s.setPending v).pending = v := rfl
@[simp] theorem setPending_port : (s.setPending v).port = s.port := rfl
@[simp] theorem setPending_tracker : (s.setPending v).tracker = s.tracker := rfl
@[simp] theorem setPending_jobs : (s.setPending v).jobs = s.jobs := rfl
@[simp] theorem setPending_planner : (s.setPending v).planner = s.planner := rfl
@[simp] theorem setPending_foil : (s.setPending v).foil = s.foil := rfl
@[simp] theorem setPending_cassettes : (s.setPending v).cassettes = s.cassettes := rfl
@[simp] theorem setPending_drives : (s.setPending v).drives = s.drives := rfl
@[simp] theorem setPending_answers : (s.setPending v).answers = s.answers := rfl
@[simp] theorem setPending_report : (s.setPending v).report = s.report := rfl
@[simp] theorem setPending_attention : (s.setPending v).attention = s.attention := rfl
@[simp] theorem setPending_cycDue : (s.setPending v).cycDue = s.cycDue := rfl
@[simp] theorem setPending_freeCount : (s.setPending v).freeCount = s.freeCount := rfl
end

section
variable (v : Port)
@[simp] theorem setPort_pending : (s.setPort v).pending = s.pending := rfl
@[simp] theorem setPort_port : (s.setPort v).port = v := rfl
@[simp] theorem setPort_tracker : (s.setPort v).tracker = s.tracker := rfl
@[simp] theorem setPort_jobs : (s.setPort v).jobs = s.jobs := rfl
@[simp] theorem setPort_planner : (s.setPort v).planner = s.planner := rfl
@[simp] theorem setPort_foil : (s.setPort v).foil = s.foil := rfl
@[simp] theorem setPort_cassettes : (s.setPort v).cassettes = s.cassettes := rfl
@[simp] theorem setPort_drives : (s.setPort v).drives = s.drives := rfl
@[simp] theorem setPort_answers : (s.setPort v).answers = s.answers := rfl
@[simp] theorem setPort_report : (s.setPort v).report = s.report := rfl
@[simp] theorem setPort_attention : (s.setPort v).attention = s.attention := rfl
@[simp] theorem setPort_cycDue : (s.setPort v).cycDue = s.cycDue := rfl
@[simp] theorem setPort_freeCount : (s.setPort v).freeCount = s.freeCount := rfl
end

section
variable (v : Tracker)
@[simp] theorem setTracker_pending : (s.setTracker v).pending = s.pending := rfl
@[simp] theorem setTracker_port : (s.setTracker v).port = s.port := rfl
@[simp] theorem setTracker_tracker : (s.setTracker v).tracker = v := rfl
@[simp] theorem setTracker_jobs : (s.setTracker v).jobs = s.jobs := rfl
@[simp] theorem setTracker_planner : (s.setTracker v).planner = s.planner := rfl
@[simp] theorem setTracker_foil : (s.setTracker v).foil = s.foil := rfl
@[simp] theorem setTracker_cassettes : (s.setTracker v).cassettes = s.cassettes := rfl
@[simp] theorem setTracker_drives : (s.setTracker v).drives = s.drives := rfl
@[simp] theorem setTracker_answers : (s.setTracker v).answers = s.answers := rfl
@[simp] theorem setTracker_report : (s.setTracker v).report = s.report := rfl
@[simp] theorem setTracker_attention : (s.setTracker v).attention = s.attention := rfl
@[simp] theorem setTracker_cycDue : (s.setTracker v).cycDue = s.cycDue := rfl
@[simp] theorem setTracker_freeCount : (s.setTracker v).freeCount = s.freeCount := rfl
end

section
variable (v : Jobs)
@[simp] theorem setJobs_pending : (s.setJobs v).pending = s.pending := rfl
@[simp] theorem setJobs_port : (s.setJobs v).port = s.port := rfl
@[simp] theorem setJobs_tracker : (s.setJobs v).tracker = s.tracker := rfl
@[simp] theorem setJobs_jobs : (s.setJobs v).jobs = v := rfl
@[simp] theorem setJobs_planner : (s.setJobs v).planner = s.planner := rfl
@[simp] theorem setJobs_foil : (s.setJobs v).foil = s.foil := rfl
@[simp] theorem setJobs_cassettes : (s.setJobs v).cassettes = s.cassettes := rfl
@[simp] theorem setJobs_drives : (s.setJobs v).drives = s.drives := rfl
@[simp] theorem setJobs_answers : (s.setJobs v).answers = s.answers := rfl
@[simp] theorem setJobs_report : (s.setJobs v).report = s.report := rfl
@[simp] theorem setJobs_attention : (s.setJobs v).attention = s.attention := rfl
@[simp] theorem setJobs_cycDue : (s.setJobs v).cycDue = s.cycDue := rfl
@[simp] theorem setJobs_freeCount : (s.setJobs v).freeCount = s.freeCount := rfl
end

section
variable (v : Planner)
@[simp] theorem setPlanner_pending : (s.setPlanner v).pending = s.pending := rfl
@[simp] theorem setPlanner_port : (s.setPlanner v).port = s.port := rfl
@[simp] theorem setPlanner_tracker : (s.setPlanner v).tracker = s.tracker := rfl
@[simp] theorem setPlanner_jobs : (s.setPlanner v).jobs = s.jobs := rfl
@[simp] theorem setPlanner_planner : (s.setPlanner v).planner = v := rfl
@[simp] theorem setPlanner_foil : (s.setPlanner v).foil = s.foil := rfl
@[simp] theorem setPlanner_cassettes : (s.setPlanner v).cassettes = s.cassettes := rfl
@[simp] theorem setPlanner_drives : (s.setPlanner v).drives = s.drives := rfl
@[simp] theorem setPlanner_answers : (s.setPlanner v).answers = s.answers := rfl
@[simp] theorem setPlanner_report : (s.setPlanner v).report = s.report := rfl
@[simp] theorem setPlanner_attention : (s.setPlanner v).attention = s.attention := rfl
@[simp] theorem setPlanner_cycDue : (s.setPlanner v).cycDue = s.cycDue := rfl
@[simp] theorem setPlanner_freeCount : (s.setPlanner v).freeCount = s.freeCount := rfl
end

section
variable (v : Vector FoilAccount 4)
@[simp] theorem setFoil_pending : (s.setFoil v).pending = s.pending := rfl
@[simp] theorem setFoil_port : (s.setFoil v).port = s.port := rfl
@[simp] theorem setFoil_tracker : (s.setFoil v).tracker = s.tracker := rfl
@[simp] theorem setFoil_jobs : (s.setFoil v).jobs = s.jobs := rfl
@[simp] theorem setFoil_planner : (s.setFoil v).planner = s.planner := rfl
@[simp] theorem setFoil_foil : (s.setFoil v).foil = v := rfl
@[simp] theorem setFoil_cassettes : (s.setFoil v).cassettes = s.cassettes := rfl
@[simp] theorem setFoil_drives : (s.setFoil v).drives = s.drives := rfl
@[simp] theorem setFoil_answers : (s.setFoil v).answers = s.answers := rfl
@[simp] theorem setFoil_report : (s.setFoil v).report = s.report := rfl
@[simp] theorem setFoil_attention : (s.setFoil v).attention = s.attention := rfl
@[simp] theorem setFoil_cycDue : (s.setFoil v).cycDue = s.cycDue := rfl
@[simp] theorem setFoil_freeCount : (s.setFoil v).freeCount = s.freeCount := rfl
end

section
variable (v : Vector Cassette 8)
@[simp] theorem setCassettes_pending : (s.setCassettes v).pending = s.pending := rfl
@[simp] theorem setCassettes_port : (s.setCassettes v).port = s.port := rfl
@[simp] theorem setCassettes_tracker : (s.setCassettes v).tracker = s.tracker := rfl
@[simp] theorem setCassettes_jobs : (s.setCassettes v).jobs = s.jobs := rfl
@[simp] theorem setCassettes_planner : (s.setCassettes v).planner = s.planner := rfl
@[simp] theorem setCassettes_foil : (s.setCassettes v).foil = s.foil := rfl
@[simp] theorem setCassettes_cassettes : (s.setCassettes v).cassettes = v := rfl
@[simp] theorem setCassettes_drives : (s.setCassettes v).drives = s.drives := rfl
@[simp] theorem setCassettes_answers : (s.setCassettes v).answers = s.answers := rfl
@[simp] theorem setCassettes_report : (s.setCassettes v).report = s.report := rfl
@[simp] theorem setCassettes_attention : (s.setCassettes v).attention = s.attention := rfl
@[simp] theorem setCassettes_cycDue : (s.setCassettes v).cycDue = s.cycDue := rfl
@[simp] theorem setCassettes_freeCount : (s.setCassettes v).freeCount = s.freeCount := rfl
end

section
variable (v : Vector Drive 12)
@[simp] theorem setDrives_pending : (s.setDrives v).pending = s.pending := rfl
@[simp] theorem setDrives_port : (s.setDrives v).port = s.port := rfl
@[simp] theorem setDrives_tracker : (s.setDrives v).tracker = s.tracker := rfl
@[simp] theorem setDrives_jobs : (s.setDrives v).jobs = s.jobs := rfl
@[simp] theorem setDrives_planner : (s.setDrives v).planner = s.planner := rfl
@[simp] theorem setDrives_foil : (s.setDrives v).foil = s.foil := rfl
@[simp] theorem setDrives_cassettes : (s.setDrives v).cassettes = s.cassettes := rfl
@[simp] theorem setDrives_drives : (s.setDrives v).drives = v := rfl
@[simp] theorem setDrives_answers : (s.setDrives v).answers = s.answers := rfl
@[simp] theorem setDrives_report : (s.setDrives v).report = s.report := rfl
@[simp] theorem setDrives_attention : (s.setDrives v).attention = s.attention := rfl
@[simp] theorem setDrives_cycDue : (s.setDrives v).cycDue = s.cycDue := rfl
@[simp] theorem setDrives_freeCount : (s.setDrives v).freeCount = s.freeCount := rfl
end

section
variable (v : List Answer)
@[simp] theorem setAnswers_pending : (s.setAnswers v).pending = s.pending := rfl
@[simp] theorem setAnswers_port : (s.setAnswers v).port = s.port := rfl
@[simp] theorem setAnswers_tracker : (s.setAnswers v).tracker = s.tracker := rfl
@[simp] theorem setAnswers_jobs : (s.setAnswers v).jobs = s.jobs := rfl
@[simp] theorem setAnswers_planner : (s.setAnswers v).planner = s.planner := rfl
@[simp] theorem setAnswers_foil : (s.setAnswers v).foil = s.foil := rfl
@[simp] theorem setAnswers_cassettes : (s.setAnswers v).cassettes = s.cassettes := rfl
@[simp] theorem setAnswers_drives : (s.setAnswers v).drives = s.drives := rfl
@[simp] theorem setAnswers_answers : (s.setAnswers v).answers = v := rfl
@[simp] theorem setAnswers_report : (s.setAnswers v).report = s.report := rfl
@[simp] theorem setAnswers_attention : (s.setAnswers v).attention = s.attention := rfl
@[simp] theorem setAnswers_cycDue : (s.setAnswers v).cycDue = s.cycDue := rfl
@[simp] theorem setAnswers_freeCount : (s.setAnswers v).freeCount = s.freeCount := rfl
end

section
variable (v : Report)
@[simp] theorem setReport_pending : (s.setReport v).pending = s.pending := rfl
@[simp] theorem setReport_port : (s.setReport v).port = s.port := rfl
@[simp] theorem setReport_tracker : (s.setReport v).tracker = s.tracker := rfl
@[simp] theorem setReport_jobs : (s.setReport v).jobs = s.jobs := rfl
@[simp] theorem setReport_planner : (s.setReport v).planner = s.planner := rfl
@[simp] theorem setReport_foil : (s.setReport v).foil = s.foil := rfl
@[simp] theorem setReport_cassettes : (s.setReport v).cassettes = s.cassettes := rfl
@[simp] theorem setReport_drives : (s.setReport v).drives = s.drives := rfl
@[simp] theorem setReport_answers : (s.setReport v).answers = s.answers := rfl
@[simp] theorem setReport_report : (s.setReport v).report = v := rfl
@[simp] theorem setReport_attention : (s.setReport v).attention = s.attention := rfl
@[simp] theorem setReport_cycDue : (s.setReport v).cycDue = s.cycDue := rfl
@[simp] theorem setReport_freeCount : (s.setReport v).freeCount = s.freeCount := rfl
end

section
variable (v : Attention)
@[simp] theorem setAttention_pending : (s.setAttention v).pending = s.pending := rfl
@[simp] theorem setAttention_port : (s.setAttention v).port = s.port := rfl
@[simp] theorem setAttention_tracker : (s.setAttention v).tracker = s.tracker := rfl
@[simp] theorem setAttention_jobs : (s.setAttention v).jobs = s.jobs := rfl
@[simp] theorem setAttention_planner : (s.setAttention v).planner = s.planner := rfl
@[simp] theorem setAttention_foil : (s.setAttention v).foil = s.foil := rfl
@[simp] theorem setAttention_cassettes : (s.setAttention v).cassettes = s.cassettes := rfl
@[simp] theorem setAttention_drives : (s.setAttention v).drives = s.drives := rfl
@[simp] theorem setAttention_answers : (s.setAttention v).answers = s.answers := rfl
@[simp] theorem setAttention_report : (s.setAttention v).report = s.report := rfl
@[simp] theorem setAttention_attention : (s.setAttention v).attention = v := rfl
@[simp] theorem setAttention_cycDue : (s.setAttention v).cycDue = s.cycDue := rfl
@[simp] theorem setAttention_freeCount : (s.setAttention v).freeCount = s.freeCount := rfl
end

section
variable (v : List CycUnit)
@[simp] theorem setCycDue_pending : (s.setCycDue v).pending = s.pending := rfl
@[simp] theorem setCycDue_port : (s.setCycDue v).port = s.port := rfl
@[simp] theorem setCycDue_tracker : (s.setCycDue v).tracker = s.tracker := rfl
@[simp] theorem setCycDue_jobs : (s.setCycDue v).jobs = s.jobs := rfl
@[simp] theorem setCycDue_planner : (s.setCycDue v).planner = s.planner := rfl
@[simp] theorem setCycDue_foil : (s.setCycDue v).foil = s.foil := rfl
@[simp] theorem setCycDue_cassettes : (s.setCycDue v).cassettes = s.cassettes := rfl
@[simp] theorem setCycDue_drives : (s.setCycDue v).drives = s.drives := rfl
@[simp] theorem setCycDue_answers : (s.setCycDue v).answers = s.answers := rfl
@[simp] theorem setCycDue_report : (s.setCycDue v).report = s.report := rfl
@[simp] theorem setCycDue_attention : (s.setCycDue v).attention = s.attention := rfl
@[simp] theorem setCycDue_cycDue : (s.setCycDue v).cycDue = v := rfl
@[simp] theorem setCycDue_freeCount : (s.setCycDue v).freeCount = s.freeCount := rfl
end

section
variable (v : Nat)
@[simp] theorem setFreeCount_pending : (s.setFreeCount v).pending = s.pending := rfl
@[simp] theorem setFreeCount_port : (s.setFreeCount v).port = s.port := rfl
@[simp] theorem setFreeCount_tracker : (s.setFreeCount v).tracker = s.tracker := rfl
@[simp] theorem setFreeCount_jobs : (s.setFreeCount v).jobs = s.jobs := rfl
@[simp] theorem setFreeCount_planner : (s.setFreeCount v).planner = s.planner := rfl
@[simp] theorem setFreeCount_foil : (s.setFreeCount v).foil = s.foil := rfl
@[simp] theorem setFreeCount_cassettes : (s.setFreeCount v).cassettes = s.cassettes := rfl
@[simp] theorem setFreeCount_drives : (s.setFreeCount v).drives = s.drives := rfl
@[simp] theorem setFreeCount_answers : (s.setFreeCount v).answers = s.answers := rfl
@[simp] theorem setFreeCount_report : (s.setFreeCount v).report = s.report := rfl
@[simp] theorem setFreeCount_attention : (s.setFreeCount v).attention = s.attention := rfl
@[simp] theorem setFreeCount_cycDue : (s.setFreeCount v).cycDue = s.cycDue := rfl
@[simp] theorem setFreeCount_freeCount : (s.setFreeCount v).freeCount = v := rfl
end

end Sys2Proof.Machine.State
end

