-- ==== Sys2Proof/Laws/Frames.lean ====
section
/-! SUPPORT. What the shared operations leave alone, one lemma for each: those of the report unit change the report unit
and the attention unit only, those on plans leave the port, the lists, the cassettes and the drives alone. -/

namespace Sys2Proof.Machine

/-! ## Frames -/

/-- Nothing but the report unit and the attention unit has changed. -/
structure ReportFrame (s t : State) : Prop where
  pending : t.pending = s.pending
  port : t.port = s.port
  tracker : t.tracker = s.tracker
  jobs : t.jobs = s.jobs
  planner : t.planner = s.planner
  foil : t.foil = s.foil
  cassettes : t.cassettes = s.cassettes
  drives : t.drives = s.drives
  answers : t.answers = s.answers
  cycDue : t.cycDue = s.cycDue
  freeCount : t.freeCount = s.freeCount

/-- What decisions, closings, tests and notices leave alone: all but plans, foil, reports, events, the bank pointer, the
arm and the staged pitch. -/
structure PlanFrame (s t : State) : Prop where
  pending : t.pending = s.pending
  port : t.port = s.port
  cassettes : t.cassettes = s.cassettes
  drives : t.drives = s.drives
  answers : t.answers = s.answers
  cycDue : t.cycDue = s.cycDue
  freeCount : t.freeCount = s.freeCount
  cfg : t.jobs.cfg = s.jobs.cfg
  banks : t.jobs.banks = s.jobs.banks
  tracker : t.tracker = { s.tracker with staged := t.tracker.staged }

namespace ReportFrame

theorem refl (s : State) : ReportFrame s s := ⟨rfl, rfl, rfl, rfl, rfl, rfl, rfl, rfl, rfl, rfl, rfl⟩

theorem trans {s t u : State} (a : ReportFrame s t) (b : ReportFrame t u) : ReportFrame s u :=
  ⟨b.pending.trans a.pending, b.port.trans a.port, b.tracker.trans a.tracker, b.jobs.trans a.jobs,
   b.planner.trans a.planner, b.foil.trans a.foil, b.cassettes.trans a.cassettes, b.drives.trans a.drives,
   b.answers.trans a.answers, b.cycDue.trans a.cycDue, b.freeCount.trans a.freeCount⟩

theorem plan {s t : State} (a : ReportFrame s t) : PlanFrame s t :=
  ⟨a.pending, a.port, a.cassettes, a.drives, a.answers, a.cycDue, a.freeCount, by rw [a.jobs], by rw [a.jobs],
   by rw [a.tracker]⟩

end ReportFrame

namespace PlanFrame

theorem refl (s : State) : PlanFrame s s := ⟨rfl, rfl, rfl, rfl, rfl, rfl, rfl, rfl, rfl, rfl⟩

theorem trans {s t u : State} (a : PlanFrame s t) (b : PlanFrame t u) : PlanFrame s u :=
  ⟨b.pending.trans a.pending, b.port.trans a.port, b.cassettes.trans a.cassettes, b.drives.trans a.drives,
   b.answers.trans a.answers, b.cycDue.trans a.cycDue, b.freeCount.trans a.freeCount, b.cfg.trans a.cfg,
   b.banks.trans a.banks, by rw [b.tracker, a.tracker]⟩

/-- A frame goes through a fold when each of its steps has it. -/
theorem foldl {α : Type} {f : State → α → State} (h : ∀ s x, PlanFrame s (f s x)) :
    ∀ (xs : List α) (s : State), PlanFrame s (xs.foldl f s)
  | [], s => refl s
  | x :: xs, s => (h s x).trans (foldl h xs (f s x))

end PlanFrame

/-! ## The report unit and the attention unit -/

theorem raise_frame (s : State) (k : Fin 18) (d : BitVec 32) : ReportFrame s (s.raise k d) :=
  ⟨rfl, rfl, rfl, rfl, rfl, rfl, rfl, rfl, rfl, rfl, rfl⟩

theorem raiseOverwrite_frame (rep : Report) (s : State) : ReportFrame s (raiseOverwrite rep s) := by
  unfold raiseOverwrite; split
  · exact .refl s
  · split
    · exact .refl s
    · exact raise_frame ..

theorem raiseHalf_frame (rep : Report) (s : State) : ReportFrame s (raiseHalf rep s) := by
  unfold raiseHalf; split
  · exact raise_frame ..
  · exact .refl s

theorem raiseWatch_frame (rep : Report) (r : LogRecord) (s : State) : ReportFrame s (raiseWatch rep r s) := by
  unfold raiseWatch; split
  · exact .refl s
  · exact raise_frame ..

theorem setReport_frame (s : State) (r : Report) : ReportFrame s (s.setReport r) :=
  ⟨rfl, rfl, rfl, rfl, rfl, rfl, rfl, rfl, rfl, rfl, rfl⟩

theorem writeLog_frame (s : State) (r : LogRecord) : ReportFrame s (s.writeLog r) :=
  (((setReport_frame s _).trans (raiseOverwrite_frame _ _)).trans (raiseHalf_frame _ _)).trans
    (raiseWatch_frame _ _ _)

theorem handReport_frame (s : State) (r : RepeatReport) : ReportFrame s (s.handReport r) := setReport_frame ..

/-- Raising an event leaves the report unit's lists alone. -/
@[simp] theorem raise_report (s : State) (k : Fin 18) (d : BitVec 32) : (s.raise k d).report = s.report := rfl

/-- What writing a record does to the report unit (R169, R172). -/
theorem writeLog_report (s : State) (r : LogRecord) : (s.writeLog r).report = s.report.write r := by
  unfold State.writeLog raiseWatch raiseHalf raiseOverwrite
  split <;> split <;> split <;> (try split) <;> rfl

/-! ## Changeovers, plans and foil accounts -/

theorem setPlanner_frame (s : State) (p : Planner) : PlanFrame s (s.setPlanner p) :=
  ⟨rfl, rfl, rfl, rfl, rfl, rfl, rfl, rfl, rfl, rfl⟩

theorem setFoil_frame (s : State) (v : Vector FoilAccount 4) : PlanFrame s (s.setFoil v) :=
  ⟨rfl, rfl, rfl, rfl, rfl, rfl, rfl, rfl, rfl, rfl⟩

theorem modPlan_frame (s : State) (n : Rep) (f : Plan → Plan) : PlanFrame s (s.modPlan n f) := setPlanner_frame ..

theorem dropPlan_frame (s : State) (n : Rep) : PlanFrame s (s.dropPlan n) := setPlanner_frame ..

theorem countPlan_frame (s : State) (p : Plan) : PlanFrame s (s.countPlan p) := setPlanner_frame ..

theorem modFoil_frame (s : State) (f : Fin 4) (g : FoilAccount → FoilAccount) : PlanFrame s (s.modFoil f g) :=
  setFoil_frame ..

theorem takeChangeover_frame (s : State) : PlanFrame s s.takeChangeover :=
  ⟨rfl, rfl, rfl, rfl, rfl, rfl, rfl, rfl, rfl, rfl⟩

theorem changeoverCheck_frame (s : State) (n : Rep) : PlanFrame s (s.changeoverCheck n) := by
  unfold State.changeoverCheck; split
  · exact takeChangeover_frame s
  · exact .refl s

theorem enterReady_frame (s : State) : PlanFrame s s.enterReady := by
  unfold State.enterReady; simp only; split
  · exact (setPlanner_frame s _).trans (takeChangeover_frame _)
  · exact setPlanner_frame ..

theorem drainCheck_frame (s : State) : PlanFrame s s.drainCheck := by
  unfold State.drainCheck; split
  · exact enterReady_frame s
  · exact .refl s

theorem releaseSpent_frame (s : State) (p : Plan) (i : Option Nat) : PlanFrame s (s.releaseSpent p i) := by
  unfold State.releaseSpent; split
  · exact .refl s
  · exact modFoil_frame ..

/-! ## Closing, deciding, flushing, notices -/

theorem closePlan_frame (s : State) (p : Plan) (reports : Bool) : PlanFrame s (s.closePlan p reports) := by
  have h : PlanFrame s (if reports then (s.countPlan p).handReport p.report else s.countPlan p) := by
    split
    · exact (countPlan_frame s p).trans (handReport_frame _ _).plan
    · exact countPlan_frame s p
  exact (h.trans (dropPlan_frame _ _)).trans (drainCheck_frame _)

theorem decideIn_frame (s : State) (p : Plan) (l : Fin 8) (e : Entry) (d : Decision) (reports : Bool) :
    PlanFrame s (s.decideIn p l e d reports) := by
  have h : PlanFrame s (((s.releaseSpent (p.modOpen l fun e => e.decide d) e.move).modPlan p.repeatNo
      fun _ => p.decideOpen l e d).writeLog (p.record e d)) :=
    ((releaseSpent_frame s _ _).trans (modPlan_frame _ _ _)).trans (writeLog_frame _ _).plan
  unfold State.decideIn; simp only; split
  · exact h.trans (closePlan_frame _ _ _)
  · exact h

theorem decideEntry_frame (s : State) (n : Rep) (l : Fin 8) (d : Decision) (reports : Bool) :
    PlanFrame s (s.decideEntry n l d reports) := by
  unfold State.decideEntry; split
  · exact .refl s
  · split
    · exact .refl s
    · exact decideIn_frame ..

theorem decideAll_frame (s : State) (keys : List EntryKey) (d : Decision) (reports : Bool) :
    PlanFrame s (s.decideAll keys d reports) := by
  unfold State.decideAll
  exact PlanFrame.foldl (fun s (k : EntryKey) => decideEntry_frame s k.1 k.2 d reports) keys s

theorem flushHead_frame (s : State) (reports : Bool) : PlanFrame s (s.flushHead reports) := by
  unfold State.flushHead State.closeSpent; split
  · exact .refl s
  · split
    · exact (decideAll_frame ..).trans (closePlan_frame ..)
    · exact decideAll_frame ..

theorem flushPlans_frame (reports : Bool) : ∀ (n : Nat) (s : State), PlanFrame s (State.flushPlans reports n s)
  | 0, s => .refl s
  | n + 1, s => (flushHead_frame s reports).trans (flushPlans_frame reports n _)

theorem flush_frame (s : State) (c : FlushCause) (reports : Bool) : PlanFrame s (s.flush c reports) := by
  unfold State.flush; simp only; split
  · exact flushPlans_frame ..
  · exact (flushPlans_frame ..).trans (raise_frame ..).plan

theorem notice_frame (s : State) (d : Fin 12) (r : Reason) : PlanFrame s (s.notice d r) := decideAll_frame ..

/-! ## The planner's tests and acknowledgements -/

theorem giveUpMove_frame (s : State) (p : Plan) (i : Nat) (m : Move) : PlanFrame s (s.giveUpMove p i m) := by
  unfold State.giveUpMove; split
  · exact (modPlan_frame ..).trans (modFoil_frame ..)
  · exact decideAll_frame ..

theorem testMove_frame (s : State) (n : Rep) (i : Nat) : PlanFrame s (s.testMove n i) := by
  unfold State.testMove
  repeat' split
  all_goals first
    | exact .refl s
    | exact giveUpMove_frame ..
    | exact modPlan_frame ..

theorem testEntry_frame (s : State) (n : Rep) (l : Fin 8) : PlanFrame s (s.testEntry n l) := by
  unfold State.testEntry
  repeat' split
  all_goals first
    | exact .refl s
    | exact decideEntry_frame ..
    | exact modPlan_frame ..

theorem planTest_frame (s : State) (t : PlanTest) : PlanFrame s (s.planTest t) := by
  cases t
  · exact testMove_frame ..
  · exact testEntry_frame ..

theorem acknowledge_frame (s : State) (i : PlanItem) : PlanFrame s (s.acknowledge i) := by
  cases i <;> exact modPlan_frame ..

/-! ## The foil allocator -/

theorem lowTest_frame (s : State) (f : Fin 4) : PlanFrame s (s.lowTest f) := by
  unfold State.lowTest; split
  · exact (modFoil_frame ..).trans (raise_frame ..).plan
  · exact .refl s

theorem reserveFoil_frame (s : State) (f : Fin 4) (n : Nat) : PlanFrame s (s.reserveFoil f n) :=
  ((modFoil_frame ..).trans (lowTest_frame ..)).trans (modFoil_frame ..)

theorem loadTest_frame (s : State) (f : Fin 4) : PlanFrame s (s.loadTest f) := by
  unfold State.loadTest; split
  · exact modFoil_frame ..
  · exact lowTest_frame ..

theorem sendFoil_frame (s : State) (n : Rep) (i : Nat) (m : Move) (c : SendPlan) :
    PlanFrame s (s.sendFoil n i m c) := by
  have h : PlanFrame s (s.trimNext n i m c) := by
    unfold State.trimNext; split
    · exact .refl s
    · exact setPlanner_frame ..
  unfold State.sendFoil; simp only; split
  · exact h.trans (modFoil_frame ..)
  · exact (h.trans (modFoil_frame ..)).trans (lowTest_frame ..)

theorem group_frame (nip : Pos) (f : Fin 4) (later : List (Fin 4)) (d : Draft) :
    PlanFrame d.s (d.group nip f later).s := by
  unfold Draft.group; simp only; split
  · exact .refl _
  · split
    · exact (raise_frame ..).plan
    · exact reserveFoil_frame ..

theorem groups_frame (nip : Pos) : ∀ (fs : List (Fin 4)) (d : Draft), PlanFrame d.s (Draft.groups nip fs d).s
  | [], _ => .refl _
  | f :: later, d => (group_frame nip f later d).trans (groups_frame nip later _)

theorem draft_frame (s : State) (h : HandOver) : PlanFrame s (s.draft h).s :=
  groups_frame _ webs4 { s, entries := lanes8.filterMap (s.laneEntry h (h.mt + len s.jobs.cfg.d)), moves := [] }

end Sys2Proof.Machine
end

