-- ==== Sys2Proof/Laws/CycleFrames.lean ====
section
/-! SUPPORT. What the units of a cycle frame, a hand-over and a whole cycle frame leave alone. -/

namespace Sys2Proof.Machine

/-! ## Cassettes and drives -/

/-- What a cassette or a drive leaves alone at an arrival: what a decision does, but for cassettes, drives and the units
that are due. -/
structure UnitFrame (s t : State) : Prop where
  pending : t.pending = s.pending
  port : t.port = s.port
  answers : t.answers = s.answers
  freeCount : t.freeCount = s.freeCount
  cfg : t.jobs.cfg = s.jobs.cfg
  banks : t.jobs.banks = s.jobs.banks
  tracker : t.tracker = { s.tracker with staged := t.tracker.staged }

theorem PlanFrame.unit {s t : State} (a : PlanFrame s t) : UnitFrame s t :=
  ⟨a.pending, a.port, a.answers, a.freeCount, a.cfg, a.banks, a.tracker⟩

namespace UnitFrame

theorem refl (s : State) : UnitFrame s s := ⟨rfl, rfl, rfl, rfl, rfl, rfl, rfl⟩

theorem trans {s t u : State} (a : UnitFrame s t) (b : UnitFrame t u) : UnitFrame s u :=
  ⟨b.pending.trans a.pending, b.port.trans a.port, b.answers.trans a.answers, b.freeCount.trans a.freeCount,
   b.cfg.trans a.cfg, b.banks.trans a.banks, by rw [b.tracker, a.tracker]⟩

theorem foldl {α : Type} {f : State → α → State} (h : ∀ s x, UnitFrame s (f s x)) :
    ∀ (xs : List α) (s : State), UnitFrame s (xs.foldl f s)
  | [], s => refl s
  | x :: xs, s => (h s x).trans (foldl h xs (f s x))

end UnitFrame

theorem setCassettes_frame (s : State) (v : Vector Cassette 8) : UnitFrame s (s.setCassettes v) :=
  ⟨rfl, rfl, rfl, rfl, rfl, rfl, rfl⟩

theorem setDrives_frame (s : State) (v : Vector Drive 12) : UnitFrame s (s.setDrives v) :=
  ⟨rfl, rfl, rfl, rfl, rfl, rfl, rfl⟩

theorem setCycDue_frame (s : State) (v : List CycUnit) : UnitFrame s (s.setCycDue v) :=
  ⟨rfl, rfl, rfl, rfl, rfl, rfl, rfl⟩

theorem modCassette_frame (s : State) (c : Fin 8) (f : Cassette → Cassette) : UnitFrame s (s.modCassette c f) :=
  setCassettes_frame ..

theorem modDrive_frame (s : State) (d : Fin 12) (f : Drive → Drive) : UnitFrame s (s.modDrive d f) :=
  setDrives_frame ..

theorem silenceDrive_frame (s : State) (d : Fin 12) : UnitFrame s (s.silenceDrive d) :=
  (modDrive_frame ..).trans (notice_frame ..).unit

theorem quietDrive_frame (s : State) (d : Fin 12) : UnitFrame s (s.quietDrive d) := by
  unfold State.quietDrive; split
  · exact .refl s
  · exact silenceDrive_frame ..

theorem driveCycle_frame (s : State) (d : Fin 12) : UnitFrame s (s.driveCycle d) := by
  unfold State.driveCycle; simp only; split
  · exact ((modDrive_frame ..).trans (raise_frame ..).plan.unit).trans (silenceDrive_frame ..)
  · exact modDrive_frame ..

theorem cassetteCycle_frame (s : State) (c : Fin 8) : UnitFrame s (s.cassetteCycle c) := by
  unfold State.cassetteCycle; simp only; split
  · exact (modCassette_frame ..).trans (raise_frame ..).plan.unit
  · exact modCassette_frame ..

theorem readTmp_frame (s : State) (c : Fin 8) (temp : Int) (fault : Bool) : UnitFrame s (s.readTmp c temp fault) := by
  unfold State.readTmp; simp only
  repeat' split
  all_goals first
    | exact (modCassette_frame ..).trans (modCassette_frame ..)
    | exact ((modCassette_frame ..).trans (modCassette_frame ..)).trans (raise_frame ..).plan.unit

theorem echo_frame (s : State) (d : Fin 12) (e : Byte) : UnitFrame s (s.echo d e) := by
  unfold State.echo
  exact (PlanFrame.foldl (fun s (o : Outstanding) => acknowledge_frame s o.item) _ s).unit.trans (modDrive_frame ..)

theorem judgeFlags_frame (s : State) (d : Fin 12) (flags : Byte) : UnitFrame s (s.judgeFlags d flags) := by
  unfold State.judgeFlags; split
  · exact ((modDrive_frame ..).trans (raise_frame ..).plan.unit).trans (notice_frame ..).unit
  · exact .refl s

theorem warn_frame (s : State) (d : Fin 12) (flags : Byte) : UnitFrame s (s.warn d flags) := by
  unfold State.warn; split
  · exact (raise_frame ..).plan.unit
  · exact .refl s

theorem recover_frame (s : State) (d : Fin 12) (flags e : Byte) : UnitFrame s (s.recover d flags e) := by
  unfold State.recover; split
  · exact modDrive_frame ..
  · exact .refl s

theorem readDst_frame (s : State) (d : Fin 12) (flags e : Byte) : UnitFrame s (s.readDst d flags e) := by
  unfold State.readDst
  exact (((((modDrive_frame ..).trans (echo_frame ..)).trans (judgeFlags_frame ..)).trans (warn_frame ..)).trans
    (recover_frame ..)).trans (modDrive_frame ..)

/-! ## The units of a cycle frame -/

theorem unitPart_frame (s : State) (u : CycUnit) : UnitFrame s (s.unitPart u) := by
  cases u
  · exact (PlanFrame.foldl planTest_frame s.tests s).unit
  · exact cassetteCycle_frame ..
  · exact driveCycle_frame ..

theorem takeUnit_frame (s : State) (u : CycUnit) : UnitFrame s (s.takeUnit u) := by
  unfold State.takeUnit; split
  · exact (setCycDue_frame ..).trans (unitPart_frame ..)
  · exact .refl s

theorem takeUnits_frame (s : State) (us : List CycUnit) : UnitFrame s (s.takeUnits us) :=
  UnitFrame.foldl takeUnit_frame us s

theorem settle_frame (s : State) : UnitFrame s s.settle := takeUnits_frame ..

theorem settlePlanner_frame (s : State) : UnitFrame s s.settlePlanner := takeUnit_frame ..

theorem quietAndFlush_frame (s : State) (first : List (Fin 12)) (c : FlushCause) :
    UnitFrame s (s.quietAndFlush first c) :=
  ((UnitFrame.foldl quietDrive_frame first s).trans (flush_frame ..).unit).trans
    (UnitFrame.foldl quietDrive_frame drives12 _)

/-! ## Hand-overs -/

/-- What a mark leaves alone: all that a decision does but for the banks and the tracker's register items. -/
structure MarkFrame (s t : State) : Prop where
  pending : t.pending = s.pending
  port : t.port = s.port
  cassettes : t.cassettes = s.cassettes
  drives : t.drives = s.drives
  answers : t.answers = s.answers
  cycDue : t.cycDue = s.cycDue
  freeCount : t.freeCount = s.freeCount
  cfg : t.jobs.cfg = s.jobs.cfg
  pos : t.tracker.pos = s.tracker.pos
  speed : t.tracker.speed = s.tracker.speed
  line : t.tracker.line = s.tracker.line
  cycleNo : t.tracker.cycleNo = s.tracker.cycleNo
  firstCycle : t.tracker.firstCycle = s.tracker.firstCycle

/-- A hand-over, as a frame: of the tracker only the staged pitch may change. -/
structure HandFrame (s t : State) : Prop extends MarkFrame s t where
  tracker : t.tracker = { s.tracker with staged := t.tracker.staged }

theorem PlanFrame.mark {s t : State} (a : PlanFrame s t) : MarkFrame s t :=
  ⟨a.pending, a.port, a.cassettes, a.drives, a.answers, a.cycDue, a.freeCount, a.cfg, by rw [a.tracker],
   by rw [a.tracker], by rw [a.tracker], by rw [a.tracker], by rw [a.tracker]⟩

theorem PlanFrame.hand {s t : State} (a : PlanFrame s t) : HandFrame s t := ⟨a.mark, a.tracker⟩

theorem MarkFrame.refl (s : State) : MarkFrame s s := (PlanFrame.refl s).mark

theorem MarkFrame.trans {s t u : State} (a : MarkFrame s t) (b : MarkFrame t u) : MarkFrame s u :=
  ⟨b.pending.trans a.pending, b.port.trans a.port, b.cassettes.trans a.cassettes, b.drives.trans a.drives,
   b.answers.trans a.answers, b.cycDue.trans a.cycDue, b.freeCount.trans a.freeCount, b.cfg.trans a.cfg,
   b.pos.trans a.pos, b.speed.trans a.speed, b.line.trans a.line, b.cycleNo.trans a.cycleNo,
   b.firstCycle.trans a.firstCycle⟩

theorem HandFrame.trans {s t u : State} (a : HandFrame s t) (b : HandFrame t u) : HandFrame s u :=
  ⟨a.toMarkFrame.trans b.toMarkFrame, by rw [b.tracker, a.tracker]⟩

theorem HandFrame.foldl {α : Type} {f : State → α → State} (h : ∀ s x, HandFrame s (f s x)) :
    ∀ (xs : List α) (s : State), HandFrame s (xs.foldl f s)
  | [], s => (PlanFrame.refl s).hand
  | x :: xs, s => (h s x).trans (HandFrame.foldl h xs (f s x))

theorem setActive_frame (s : State) (b : Bank) : HandFrame s (s.setActive b) :=
  ⟨⟨rfl, rfl, rfl, rfl, rfl, rfl, rfl, rfl, rfl, rfl, rfl, rfl, rfl⟩, rfl⟩

theorem advanceLane_frame (s : State) (l : Fin 8) : HandFrame s (s.advanceLane l) := by
  unfold State.advanceLane; simp only; split
  · exact (setActive_frame ..).trans (raise_frame ..).plan.hand
  · exact setActive_frame ..

theorem advanceLanes_frame (s : State) (es : List Entry) : HandFrame s (s.advanceLanes es) := by
  unfold State.advanceLanes
  exact HandFrame.foldl (fun s (e : Entry) => advanceLane_frame s e.lane) _ s

theorem logPlanned_frame (s : State) (p : Plan) : PlanFrame s (s.logPlanned p) := by
  unfold State.logPlanned
  refine PlanFrame.foldl (fun s e => ?_) _ s
  split
  · exact .refl s
  · exact (writeLog_frame ..).plan

theorem joinOrClose_frame (s : State) (p : Plan) : PlanFrame s (s.joinOrClose p) := by
  unfold State.joinOrClose; split
  · exact (countPlan_frame ..).trans (handReport_frame ..).plan
  · exact setPlanner_frame ..

theorem overflow_frame (s : State) (h : HandOver) : PlanFrame s (s.overflow h) := by
  have f : ∀ s l, PlanFrame s (State.overflowLane h s l) := fun s l =>
    (writeLog_frame s _).plan.trans (setPlanner_frame ..)
  exact ((PlanFrame.foldl f _ s).trans (handReport_frame ..).plan).trans (raise_frame ..).plan

theorem planEntries_frame (s : State) (h : HandOver) (first : Bool) : HandFrame s (s.planEntries h first) :=
  (((draft_frame s h).hand.trans (advanceLanes_frame ..)).trans (logPlanned_frame ..).hand).trans
    (joinOrClose_frame ..).hand

theorem planRepeat_frame (s : State) (h : HandOver) : HandFrame s (s.planRepeat h) := by
  unfold State.planRepeat; split
  · exact (overflow_frame s h).hand
  · exact (changeoverCheck_frame ..).hand.trans (planEntries_frame ..)

theorem plannerTakes_frame (s : State) (h : HandOver) : HandFrame s (s.plannerTakes h) := by
  unfold State.plannerTakes; split
  · exact (PlanFrame.refl s).hand
  · exact (PlanFrame.refl s).hand
  · exact planRepeat_frame ..
  · exact (changeoverCheck_frame ..).hand

theorem takePitch_frame (s : State) : HandFrame s s.takePitch := by
  unfold State.takePitch; split
  · exact (PlanFrame.refl s).hand
  · exact ⟨⟨rfl, rfl, rfl, rfl, rfl, rfl, rfl, rfl, rfl, rfl, rfl, rfl, rfl⟩, rfl⟩

theorem handOver_frame (s : State) (h : HandOver) : HandFrame s (s.handOver h) :=
  (plannerTakes_frame s h).trans (takePitch_frame _)

/-! ## Marks -/

/-- What a tracked mark makes of the tracker: the given state, numbered and tracked (R20, R21), and a staged pitch taken
or kept. -/
theorem takeMark_tracker (s : State) (t : Tracker) (mt : Pos) (r : Int) (synth : Bool) :
    (s.takeMark t mt r synth).tracker =
      { t with mtPrev := mt, repeatNo := s.tracker.repeatNo + 1,
               staged := (s.takeMark t mt r synth).tracker.staged } :=
  (handOver_frame _ _).tracker

theorem takeMark_frame (s : State) (t : Tracker) (mt : Pos) (r : Int) (synth : Bool)
    (h : t.pos = s.tracker.pos ∧ t.speed = s.tracker.speed ∧ t.line = s.tracker.line
      ∧ t.cycleNo = s.tracker.cycleNo ∧ t.firstCycle = s.tracker.firstCycle) :
    MarkFrame s (s.takeMark t mt r synth) := by
  have a : MarkFrame s (s.setTracker { t with mtPrev := mt, repeatNo := s.tracker.repeatNo + 1 }) :=
    ⟨rfl, rfl, rfl, rfl, rfl, rfl, rfl, rfl, h.1, h.2.1, h.2.2.1, h.2.2.2.1, h.2.2.2.2⟩
  exact a.trans (handOver_frame _ _).toMarkFrame

theorem synthesize_frame (s : State) : MarkFrame s s.synthesize := by
  unfold State.synthesize; simp only; split
  · exact (raise_frame s _ _).plan.mark.trans (takeMark_frame _ _ _ _ _ ⟨rfl, rfl, rfl, rfl, rfl⟩)
  · exact (raise_frame s _ _).plan.mark.trans (takeMark_frame _ _ _ _ _ ⟨rfl, rfl, rfl, rfl, rfl⟩)

theorem setTracker_frame (s : State) (t : Tracker)
    (h : t.pos = s.tracker.pos ∧ t.speed = s.tracker.speed ∧ t.line = s.tracker.line
      ∧ t.cycleNo = s.tracker.cycleNo ∧ t.firstCycle = s.tracker.firstCycle) : MarkFrame s (s.setTracker t) :=
  ⟨rfl, rfl, rfl, rfl, rfl, rfl, rfl, rfl, h.1, h.2.1, h.2.2.1, h.2.2.2.1, h.2.2.2.2⟩

theorem readMark_frame (s : State) (mm : Pos) : MarkFrame s (s.readMark mm) := by
  have a : ∀ mm, MarkFrame s (s.markStartsLock mm) := fun mm => takeMark_frame _ _ _ _ _ ⟨rfl, rfl, rfl, rfl, rfl⟩
  have b : ∀ t mm, t.pos = s.tracker.pos ∧ t.speed = s.tracker.speed ∧ t.line = s.tracker.line
      ∧ t.cycleNo = s.tracker.cycleNo ∧ t.firstCycle = s.tracker.firstCycle → MarkFrame s (s.markCorrected t mm) :=
    fun _ _ h => takeMark_frame _ _ _ _ _ h
  have c : MarkFrame s s.markStray := setTracker_frame _ _ ⟨rfl, rfl, rfl, rfl, rfl⟩
  have d : MarkFrame s (s.markLocks mm) := by
    unfold State.markLocks; split
    · exact (raise_frame s _ _).plan.mark.trans (takeMark_frame _ _ _ _ _ ⟨rfl, rfl, rfl, rfl, rfl⟩)
    · exact takeMark_frame _ _ _ _ _ ⟨rfl, rfl, rfl, rfl, rfl⟩
  unfold State.readMark
  repeat' split
  all_goals first
    | exact takeMark_frame _ _ _ _ _ ⟨rfl, rfl, rfl, rfl, rfl⟩
    | exact a _
    | exact d
    | exact b _ _ ⟨rfl, rfl, rfl, rfl, rfl⟩
    | exact c

/-! ## A whole cycle frame -/

/-- What a cycle frame leaves alone once the port has opened its window. -/
structure ArrivalFrame (s t : State) : Prop where
  pending : t.pending = s.pending
  port : t.port = s.port
  answers : t.answers = s.answers
  freeCount : t.freeCount = s.freeCount
  cfg : t.jobs.cfg = s.jobs.cfg
  pos : t.tracker.pos = s.tracker.pos
  speed : t.tracker.speed = s.tracker.speed
  line : t.tracker.line = s.tracker.line
  cycleNo : t.tracker.cycleNo = s.tracker.cycleNo
  firstCycle : t.tracker.firstCycle = s.tracker.firstCycle

theorem MarkFrame.arrival {s t : State} (a : MarkFrame s t) : ArrivalFrame s t :=
  ⟨a.pending, a.port, a.answers, a.freeCount, a.cfg, a.pos, a.speed, a.line, a.cycleNo, a.firstCycle⟩

theorem UnitFrame.arrival {s t : State} (a : UnitFrame s t) : ArrivalFrame s t :=
  ⟨a.pending, a.port, a.answers, a.freeCount, a.cfg, by rw [a.tracker], by rw [a.tracker], by rw [a.tracker],
   by rw [a.tracker], by rw [a.tracker]⟩

theorem ArrivalFrame.refl (s : State) : ArrivalFrame s s := (MarkFrame.refl s).arrival

theorem ArrivalFrame.trans {s t u : State} (a : ArrivalFrame s t) (b : ArrivalFrame t u) : ArrivalFrame s u :=
  ⟨b.pending.trans a.pending, b.port.trans a.port, b.answers.trans a.answers, b.freeCount.trans a.freeCount,
   b.cfg.trans a.cfg, b.pos.trans a.pos, b.speed.trans a.speed, b.line.trans a.line, b.cycleNo.trans a.cycleNo,
   b.firstCycle.trans a.firstCycle⟩

theorem atPoint_frame (t : Thread) : ArrivalFrame t.2 (atPoint t).2 := (takeUnits_frame ..).arrival

theorem missingMarks_frame : ∀ (n : Nat) (t : Thread), ArrivalFrame t.2 (missingMarks n t).2
  | 0, t => .refl _
  | n + 1, t => by
    have g : ArrivalFrame t.2 (missingMarks n (atPoint (t.1, t.2.synthesize))).2 :=
      (((synthesize_frame t.2).arrival).trans (atPoint_frame (t.1, t.2.synthesize))).trans (missingMarks_frame n _)
    unfold missingMarks; split
    · exact .refl _
    · split
      · exact .refl _
      · exact (setTracker_frame t.2 { t.2.tracker with mode := .unlocked, lock := 0 }
          ⟨rfl, rfl, rfl, rfl, rfl⟩).arrival
      · exact g
      · exact g

theorem testsAtPoints_frame : ∀ (ts : List PlanTest) (t : Thread), ArrivalFrame t.2 (testsAtPoints ts t).2
  | [], _ => .refl _
  | k :: ts, t => ((atPoint_frame t).trans (planTest_frame _ k).unit.arrival).trans
      (testsAtPoints_frame ts ((atPoint t).1, (atPoint t).2.planTest k))

theorem plannerAtPoints_frame (own : List CycUnit) (t : Thread) : ArrivalFrame t.2 (plannerAtPoints own t).2 := by
  unfold plannerAtPoints; split
  · exact (setCycDue_frame t.2 _).arrival.trans
      (testsAtPoints_frame _ (t.1, t.2.setCycDue (t.2.cycDue.filter (· != .planner))))
  · exact .refl _

/-- The tracker's taking of a frame: the frame's values, and then nothing of them changes (R4 to R6). -/
theorem trackerTakes_frame (f : CycleFrame) (t : Thread) :
    ArrivalFrame (t.2.setTracker (t.2.tracker.take f)) (trackerTakes f t).2 := by
  unfold trackerTakes; simp only; split
  · refine (setTracker_frame (t.2.setTracker (t.2.tracker.take f)) (t.2.tracker.take f).unlock
      ⟨rfl, rfl, rfl, rfl, rfl⟩).arrival.trans ?_
    exact (flush_frame ((t.2.setTracker (t.2.tracker.take f)).setTracker (t.2.tracker.take f).unlock) .disturbance
      true).unit.arrival
  · exact missingMarks_frame Config.maxSynth (t.1, t.2.setTracker (t.2.tracker.take f))

end Sys2Proof.Machine
end

