-- ==== Sys2Proof/Laws/Arrivals.lean ====
section
/-! SUPPORT. What an arrival comes to: a request that is taken, a frame that is read, a part in reset or in through-only
state. -/

namespace Sys2Proof.Machine

/-! ## Cases of an arrival -/

/-- A frame lost in reset (R148). -/
theorem arrive_resetIn {s : State} (h : s.port.resetIn = true) (raw : List Byte) (rc : Except Damage Frame)
    (read : Frame → State → State) (act : Byte → Act) : s.arrive raw rc read act = s := by
  simp [State.arrive, h]

/-- A frame in through-only state (R149). -/
theorem arrive_throughOnly {s : State} (h : s.port.resetIn = false) (g : s.port.station = none) (raw : List Byte)
    (rc : Except Damage Frame) (read : Frame → State → State) (act : Byte → Act) :
    s.arrive raw rc read act = s.forward raw := by
  simp [State.arrive, h, g]

/-- A frame at a working part. -/
theorem arrive_works {s : State} {own : Byte} (h : s.worksAs own) (raw : List Byte) (rc : Except Damage Frame)
    (read : Frame → State → State) (act : Byte → Act) :
    s.arrive raw rc read act = match rc with
      | .error d => s.frameError d
      | .ok f => s.dispose own raw f read act := by
  simp only [State.arrive, h.1, h.2]; rfl

theorem received_ok {f : Frame} (h : f.payload.length ≤ 64) : f.received = .ok f := by simp [Frame.received, h]

/-! ## Requests (R145, R147, R159) -/

theorem reqOfPayload_reqPayload (q : Req) (code : Byte) : reqOfPayload (reqPayload q code) = q := rfl

theorem requestFrame_received {q : Req} (h : Header) (code : Byte) (g : q.data.length ≤ 60) :
    (requestFrame h code q).received = .ok (requestFrame h code q) := by
  refine received_ok ?_
  simp only [requestFrame, reqPayload, List.length_cons]; omega

theorem isRead_requestFrame (c : StationCfg) (h : Header) (code : Byte) (q : Req) :
    isRead c (requestFrame h code q) = false := rfl

/-- A request that is taken acts on the state, and one answer joins the list (R159). -/
theorem request_of_takes {s : State} {h : Header} {q : Req} (t : s.takes h q) (code : Byte) (act : Act) :
    s.request h code q act = (act q s).1.answered h code (act q s).2.status (act q s).2.data := by
  obtain ⟨w, src, bounced, room, data⟩ := t
  have k : isRequest h.dest (requestFrame h code q) = true := by
    simp only [isRequest, Frame.bounced, requestFrame, beq_self_eq_true, Bool.true_and, Bool.not_eq_true']
    exact bounced
  have d : s.disposition h.dest (requestFrame h code q) = .consumed := by
    have l : leastPayload (requestFrame h code q).kind = 4 := rfl
    have p : (requestFrame h code q).payload.length = q.data.length + 4 := rfl
    have r : (requestFrame h code q).h.src ≠ h.dest := src
    simp [State.disposition, isRead_requestFrame, k, l, p, r, Config.answerDepth, room]
  unfold State.request
  simp only
  rw [arrive_works w, requestFrame_received h code data]
  simp only [State.dispose, d]
  rfl

/-! ## Frames that are read (R144 to R146) -/

theorem isRead_kind {c : StationCfg} {f : Frame} (h : isRead c f = true) : f.kind ≠ Frame.mgq := by
  intro e; simp [isRead, e, Frame.mgq, Frame.cyc, Frame.mrk, Frame.tmp, Frame.dst] at h

/-- A frame that is read is forwarded, and its reader acts (R145, R146, R148). -/
theorem arriveRead_of_reads {s : State} {f : Frame} (r : s.reads f) (read : Frame → State → State) :
    s.arriveRead f read = read f (s.forward f.bytes) := by
  obtain ⟨⟨own, w, src⟩, g, least, most⟩ := r
  have k : isRequest own f = false := by simp [isRequest, isRead_kind g]
  have d : s.disposition own f = .readOn := by
    simp [State.disposition, g, k, src, Nat.not_lt.mpr least]
  unfold State.arriveRead
  rw [arrive_works w, received_ok most]
  simp only [State.dispose, d]

/-! ## What is left of the last cycle frame -/

/-- Nothing left: nothing is taken. -/
theorem settle_of_nil {s : State} (h : s.cycDue = []) : s.settle = s := by
  simp [State.settle, State.takeUnits, h]

/-- A forwarded frame changes the record of frames sent and nothing else. -/
theorem forward_frame (s : State) (raw : List Byte) :
    s.forward raw = { s with port := { s.port with down := s.port.down ++ [raw] } } := rfl

/-- A whole cycle frame, once the port has opened its window: the frame's values stand and the rest of the port, the
answers and the station configuration are untouched (R4, R38, R150, R160). -/
theorem readCycle_frame (s : State) (o : TakeOrder) (f : CycleFrame) :
    ∃ u : State, ArrivalFrame (s.settle.openCycle) u ∧
      ArrivalFrame (u.setTracker (u.tracker.take f)) (s.readCycle o f) := by
  let t₀ := atPoint (o.points, s.settle.openCycle)
  refine ⟨t₀.2, atPoint_frame (o.points, s.settle.openCycle), ?_⟩
  let t₁ := trackerTakes f t₀
  have a := trackerTakes_frame f t₀
  have b : ArrivalFrame t₁.2 (plannerDue t₁).2 := (setCycDue_frame ..).arrival
  have c : ArrivalFrame (plannerDue t₁).2 (atPoint (plannerDue t₁)).2 := atPoint_frame ..
  have d := plannerAtPoints_frame o.own (atPoint (plannerDue t₁))
  have e : ArrivalFrame (plannerAtPoints o.own (atPoint (plannerDue t₁))).2 (s.readCycle o f) :=
    (takeUnits_frame ..).arrival
  exact (((a.trans b).trans c).trans d).trans e

end Sys2Proof.Machine
end

