-- ==== Sys2Proof/Laws/Forms.lean ====
section
/-! SUPPORT. The forms in which the statements spell out the plan queue, the codes, a unit's part of a cycle frame and the
records of a log, and what the model does in them. -/

namespace Sys2Proof.Machine

/-! ## Lists, codes, the plan queue -/

/-- The model's change of a list's first member is the one that the statements spell out. -/
theorem updateFirst_eq_atFirst {α : Type} (p : α → Bool) (f : α → α) (l : List α) : updateFirst p f l = atFirst p f l := by
  induction l with
  | nil => rfl
  | cons x xs ih => by_cases h : p x <;> simp [updateFirst, atFirst, List.findIdx_cons, h, ih]

/-- The model's removal of a list's first member is the library's. -/
theorem removeFirst_eq_eraseP {α : Type} (p : α → Bool) (l : List α) : removeFirst p l = l.eraseP p := by
  induction l with
  | nil => rfl
  | cons x xs ih => by_cases h : p x <;> simp [removeFirst, h, ih]

theorem reasonNumber_eq (r : Reason) : reasonNumber r = r.code := by cases r <;> rfl

theorem outcomeNumbers_eq (o : Option Decision) : outcomeNumbers o = laneCodes o := by
  rcases o with _ | _ | r | r <;> rfl

theorem modPlan_eq_planChanged (s : State) (n : Rep) (f : Plan → Plan) : s.modPlan n f = s.planChanged n f := by
  simp only [State.modPlan, State.planChanged, State.setPlanner, updateFirst_eq_atFirst]
  rfl

/-- An acknowledgement does at the planner what the statements spell out (R69). -/
theorem acknowledge_eq_hears (s : State) (i : PlanItem) : s.acknowledge i = s.hears i := by
  cases i <;>
    simp only [State.acknowledge, State.hears, modPlan_eq_planChanged, Plan.modEntry, Plan.modMove, updateFirst_eq_atFirst]

/-- An echo acknowledges the records that the statements spell out (R128). -/
theorem ackedBy_eq_covered (x : Drive) (echo : Byte) : ackedBy echo x.out = x.covered echo := by
  rcases x with ⟨link, next, out, sent, cycles, last, lastEcho⟩
  simp only [Drive.covered]
  induction out with
  | nil => rfl
  | cons r rs ih =>
    by_cases h : r.seq = echo
    · simp [ackedBy, List.findIdx?_cons, h]
    · simp only [ackedBy] at ih ⊢
      simp only [List.findIdx?_cons, List.any_cons, List.takeWhile_cons, beq_eq_false_iff_ne.mpr h, bne, Bool.not_false,
        Bool.false_or, if_true, List.length_cons]
      cases f : List.findIdx? (fun o : Outstanding => o.seq == echo) rs <;> rw [f] at ih <;>
        cases a : rs.any (fun o : Outstanding => o.seq == echo) <;> simp_all [bne]

theorem decide_eq_decidedAs (e : Entry) (d : Decision) : e.decide d = e.decidedAs d := by
  simp only [Entry.decide, Entry.decidedAs, SetState.withdraw, SetState.isUnsent]
  cases e.phs <;> simp

theorem record_eq_told (p : Plan) (e : Entry) (d : Decision) : p.record e d = p.told e d := rfl

/-- The model's dependence on a drive is the one that the statements spell out (R77). -/
theorem dependsOn_eq_waitsFor (p : Plan) (d : Fin 12) (e : Entry) : p.dependsOn (driveRole d) e = p.waitsFor d e := by
  have waits : ∀ t : SetState, t.isOpen = (t != .acked && t != .withdrawn) := fun t => by cases t <;> rfl
  have lane : ∀ (l : Fin 8) (h : d.val < 8), (l == (⟨d.val, h⟩ : Fin 8)) = (l.val == d.val) := fun l h => by
    rw [Bool.eq_iff_iff]
    simp only [beq_iff_eq, Fin.ext_iff]
  have web : ∀ (f : Fin 4) (h : ¬d.val < 8), (f == (⟨d.val - 8, by omega⟩ : Fin 4)) = (f.val + 8 == d.val) := fun f h => by
    rw [Bool.eq_iff_iff]
    simp only [beq_iff_eq, Fin.ext_iff]
    omega
  have noWeb : ∀ f : Fin 4, d.val < 8 → (f.val + 8 == d.val) = false := fun f h => by
    simp only [beq_eq_false_iff_ne]
    omega
  have noLane : ∀ l : Fin 8, ¬d.val < 8 → (l.val == d.val) = false := fun l h => by
    simp only [beq_eq_false_iff_ne]
    omega
  simp only [Plan.dependsOn, Plan.waitsFor, driveRole, Plan.moveOf, Entry.undecided]
  by_cases h : d.val < 8
  · simp only [h, dite_true, waits, lane]
    cases e.move.bind fun i => p.moves[i]? <;> simp [noWeb _ h]
  · simp only [h, dite_false, waits, noLane _ h, Bool.false_and, Bool.false_or]
    cases e.move.bind fun i => p.moves[i]? <;> simp [web _ h]

/-! ## Units -/

/-- A cassette's part of a cycle frame is the one that the statements spell out (R115 to R117). -/
theorem Cassette.cycled_eq_afterCycle (x : Cassette) (ntmp nsoak ndrift : Nat) :
    x.cycled ntmp nsoak ndrift = x.afterCycle ntmp nsoak ndrift := by
  rcases x with ⟨heat, soak, drift, since⟩
  have up : (Cassette.sinceNext ⟨heat, soak, drift, since⟩) = if since < 4000 then since + 1 else 4000 := rfl
  simp only [Cassette.cycled, Cassette.afterCycle, Cassette.tmpOut, Cassette.dwelt, up]
  generalize (if since < 4000 then since + 1 else 4000) = n
  cases heat <;> by_cases h : ntmp ≤ n <;> simp [h]

/-- A drive's part of a cycle frame is the one that the statements spell out (R133, R134). -/
theorem Drive.afterCycle_eq (x : Drive) (nack : Nat) :
    x.afterCycle nack = if x.counted.timedOut nack then x.counted.silenced else x.counted := by
  have spelled : x.afterCycle nack =
      if nack ≤ x.counted.cycles || (x.counted.out.head?.any fun r => decide (nack ≤ r.age)) then x.counted.madeSilent
      else x.counted := rfl
  rw [spelled]
  generalize x.counted = y
  rcases y with ⟨link, next, out, sent, cycles, last, lastEcho⟩
  simp only [Drive.timedOut, Drive.silenced, Drive.madeSilent, Drive.answerOut, Drive.dstOut]
  cases link <;> cases out <;> by_cases h : nack ≤ cycles <;> simp [h]

/-! ## The log -/

/-- No record taken leaves the log. -/
theorem Report.LogTook.nil {r : Report} (h : r.log.length ≤ 256) : r.LogTook r [] := by
  refine ⟨by simp, ?_⟩
  have : r.log.length - 256 = 0 := by omega
  simp [this]

/-- Writing takes one record (R169). -/
theorem Report.logTook_write {r : Report} (h : r.log.length ≤ 256) (d : LogRecord) : r.LogTook (r.write d) [d] := by
  refine ⟨rfl, ?_⟩
  have seq : ∀ n : BitVec 16, n + BitVec.ofNat 16 0 = n := fun n => by simp
  have dep : Config.logDepth = 256 := rfl
  by_cases g : r.log.length < 256
  · have : r.log.length + 1 - 256 = 0 := by omega
    simp only [Report.write, Report.kept, Report.stampRecord, dep, g, if_true, List.mapIdx_cons, List.mapIdx_nil,
      List.length_cons, List.length_nil, Nat.zero_add, this, List.drop_zero, seq, Nat.add_zero]
  · have one : r.log.length + 1 - 256 = 1 := by omega
    have le : 1 - r.log.length = 0 := by omega
    simp only [Report.write, Report.kept, Report.stampRecord, dep, g, if_false, List.mapIdx_cons, List.mapIdx_nil,
      List.length_cons, List.length_nil, Nat.zero_add, one, List.drop_append, le, List.drop_zero, seq, Nat.add_zero]

/-- How many records a log holds after it has taken some. -/
theorem Report.LogTook.length {r u : Report} {ds : List LogRecord} (a : r.LogTook u ds) :
    u.log.length = r.log.length + ds.length - (r.log.length + ds.length - 256) := by
  rw [a.2]
  simp

/-- Records taken one list after another are taken as one list. -/
theorem Report.LogTook.trans {r u v : Report} {ds es : List LogRecord} (h : r.log.length ≤ 256) (a : r.LogTook u ds)
    (b : u.LogTook v es) : r.LogTook v (ds ++ es) := by
  have len := a.length
  obtain ⟨a1, a2⟩ := a
  obtain ⟨b1, b2⟩ := b
  refine ⟨by rw [b1, a1, List.length_append, BitVec.ofNat_add, BitVec.add_assoc], ?_⟩
  have stamp : (fun (i : Nat) (d : LogRecord) =>
        { d with seq := u.nextLog + BitVec.ofNat 16 i, gap := decide (256 ≤ u.log.length + i) })
      = fun (i : Nat) (d : LogRecord) => { d with
          seq := r.nextLog + BitVec.ofNat 16 (i + ds.length), gap := decide (256 ≤ r.log.length + (i + ds.length)) } := by
    funext i d
    have full : (256 ≤ u.log.length + i) = (256 ≤ r.log.length + (i + ds.length)) := by
      apply propext
      omega
    simp only [full, a1, BitVec.add_assoc, ← BitVec.ofNat_add, Nat.add_comm ds.length]
  have count : r.log.length + ds.length - 256
      + (r.log.length + ds.length - (r.log.length + ds.length - 256) + es.length - 256)
      = r.log.length + (ds.length + es.length) - 256 := by omega
  rw [b2, stamp, len, a2, List.mapIdx_append, ← List.append_assoc, List.length_append, ← List.drop_append_of_le_length
    (by simp), List.drop_drop, count]

/-! ## Ring silence -/

/-- Where no ATN waits nothing is discarded, and no selection follows (R178). -/
theorem discardAtn_of_none {s : State} (h : s.attention.waiting = none) : s.discardAtn = s := by
  simp [State.discardAtn, h]

/-- A waiting ATN is discarded, its kind leaves service, and a selection follows (R175, R178). -/
theorem discardAtn_of_some {s : State} {k : Fin 18} (h : s.attention.waiting = some k) :
    s.discardAtn = s.setAttention (Attention.select { s.attention with
      service := s.attention.service.filter fun m => m.1 != k, waiting := none }) := by
  have same : (s.attention.service.filter fun m => s.attention.waiting != some m.1)
      = s.attention.service.filter fun m => m.1 != k := by
    congr 1
    funext m
    rw [h, Bool.eq_iff_iff]
    simp only [bne_iff_ne, ne_eq, Option.some.injEq]
    exact not_congr eq_comm
  simp only [State.discardAtn, h, Option.isNone_some, Bool.false_eq_true, if_false, Attention.discardWaiting,
    Attention.serviceWithoutWaiting, ← same]

/-- Whichever it takes first, the attention unit alone acts (R178). -/
theorem silentAttention_attention (s : State) (b : Bool) : ∃ a : Attention, s.silentAttention b = s.setAttention a := by
  unfold State.silentAttention State.discardAtn
  split <;> split <;> exact ⟨_, rfl⟩

end Sys2Proof.Machine
end

