-- ==== Sys2Proof/Laws/PerInstr.lean ====
section
/-! SUPPORT. What holds of every command as syntax, one lemma per constructor: the header of a well-formed command names a
destination and a source of the ring (section 10.1). -/

namespace Sys2Proof.Laws.WellFormedHeader

/-- The header a command carries, none for an event that is no frame of fields. -/
def headerOf : Instr → Option Header
  | .powerOnReset _ => none
  | .cycArrival h _ _ => some h
  | .mrkArrival h _ => some h
  | .tmpArrival h _ _ => some h
  | .dstArrival h _ _ => some h
  | .frameArrival _ _ => none
  | .injectionSlot => none
  | .ringSilence _ => none
  | .tmpTimeout _ => none
  | .soakComplete _ => none
  | .driftExpiry _ => none
  | .answerTimeout _ => none
  | .dstTimeout _ => none
  | .writeDesign h _ => some h
  | .writeLane h _ => some h
  | .writeSequence h _ => some h
  | .writeFoilMap h _ => some h
  | .writeJob h _ => some h
  | .read h _ => some h
  | .writeStation h _ => some h
  | .armChangeover h _ => some h
  | .cancelChangeover h _ => some h
  | .copyActiveToStandby h _ => some h
  | .clearStandby h _ => some h
  | .start h _ => some h
  | .stop h _ => some h
  | .holdLane h _ => some h
  | .releaseLane h _ => some h
  | .setTrim h _ => some h
  | .setPitch h _ => some h
  | .loadFoil h _ => some h
  | .eventEnable h _ => some h
  | .eventDisable h _ => some h
  | .setLevel h _ => some h
  | .ackEvent h _ => some h
  | .pollEvents h _ => some h
  | .fetchLog h _ => some h
  | .setWatch h _ => some h
  | .snapshot h _ => some h
  | .identify h _ => some h
  | .softReset h _ _ => some h
  | .unknownRequestCode h _ _ => some h
  | .powerOnResetRelease => none

/-- The header of a well-formed command lies in the ring's numbering. -/
def Statement (i : Instr) : Prop := WellFormed i = true → ∀ h, headerOf i = some h → h.wf = true

/-- A request's header is tested by its well-formedness. -/
theorem of_req {h : Header} {q : Req} (w : q.wf h = true) : ∀ k, some h = some k → k.wf = true := by
  intro k e; cases e; simp only [Req.wf, Bool.and_eq_true] at w; exact w.1.1

/-- An event without a header has nothing to show. -/
theorem of_none {i : Instr} (e : headerOf i = none) : Statement i := by
  intro _ h w; rw [e] at w; cases w

theorem powerOnReset (straps : BitVec 6) : Statement (.powerOnReset straps) := of_none rfl
theorem cycArrival (h : Header) (payload : List Byte) (o : TakeOrder) : Statement (.cycArrival h payload o) := by
  intro w k e; cases e; simp only [WellFormed, Bool.and_eq_true] at w; exact w.1.1.1.1
theorem mrkArrival (h : Header) (payload : List Byte) : Statement (.mrkArrival h payload) := by
  intro w k e; cases e; simp only [WellFormed, Bool.and_eq_true] at w; exact w.1.1
theorem tmpArrival (h : Header) (payload : List Byte) (o : TakeOrder) : Statement (.tmpArrival h payload o) := by
  intro w k e; cases e; simp only [WellFormed, Bool.and_eq_true] at w; exact w.1.1.1
theorem dstArrival (h : Header) (payload : List Byte) (o : TakeOrder) : Statement (.dstArrival h payload o) := by
  intro w k e; cases e; simp only [WellFormed, Bool.and_eq_true] at w; exact w.1.1.1
theorem frameArrival (raw : List Byte) (o : TakeOrder) : Statement (.frameArrival raw o) := of_none rfl
theorem injectionSlot : Statement .injectionSlot := of_none rfl
theorem ringSilence (o : TakeOrder) : Statement (.ringSilence o) := of_none rfl
theorem tmpTimeout (c : Fin 8) : Statement (.tmpTimeout c) := of_none rfl
theorem soakComplete (c : Fin 8) : Statement (.soakComplete c) := of_none rfl
theorem driftExpiry (c : Fin 8) : Statement (.driftExpiry c) := of_none rfl
theorem answerTimeout (d : Fin 12) : Statement (.answerTimeout d) := of_none rfl
theorem dstTimeout (d : Fin 12) : Statement (.dstTimeout d) := of_none rfl
theorem writeDesign (h : Header) (q : Req) : Statement (.writeDesign h q) := fun w => of_req w
theorem writeLane (h : Header) (q : Req) : Statement (.writeLane h q) := fun w => of_req w
theorem writeSequence (h : Header) (q : Req) : Statement (.writeSequence h q) := fun w => of_req w
theorem writeFoilMap (h : Header) (q : Req) : Statement (.writeFoilMap h q) := fun w => of_req w
theorem writeJob (h : Header) (q : Req) : Statement (.writeJob h q) := fun w => of_req w
theorem read (h : Header) (q : Req) : Statement (.read h q) := fun w => of_req w
theorem writeStation (h : Header) (q : Req) : Statement (.writeStation h q) := fun w => of_req w
theorem armChangeover (h : Header) (q : Req) : Statement (.armChangeover h q) := fun w => of_req w
theorem cancelChangeover (h : Header) (q : Req) : Statement (.cancelChangeover h q) := fun w => of_req w
theorem copyActiveToStandby (h : Header) (q : Req) : Statement (.copyActiveToStandby h q) := fun w => of_req w
theorem clearStandby (h : Header) (q : Req) : Statement (.clearStandby h q) := fun w => of_req w
theorem start (h : Header) (q : Req) : Statement (.start h q) := fun w => of_req w
theorem stop (h : Header) (q : Req) : Statement (.stop h q) := fun w => of_req w
theorem holdLane (h : Header) (q : Req) : Statement (.holdLane h q) := fun w => of_req w
theorem releaseLane (h : Header) (q : Req) : Statement (.releaseLane h q) := fun w => of_req w
theorem setTrim (h : Header) (q : Req) : Statement (.setTrim h q) := fun w => of_req w
theorem setPitch (h : Header) (q : Req) : Statement (.setPitch h q) := fun w => of_req w
theorem loadFoil (h : Header) (q : Req) : Statement (.loadFoil h q) := fun w => of_req w
theorem eventEnable (h : Header) (q : Req) : Statement (.eventEnable h q) := fun w => of_req w
theorem eventDisable (h : Header) (q : Req) : Statement (.eventDisable h q) := fun w => of_req w
theorem setLevel (h : Header) (q : Req) : Statement (.setLevel h q) := fun w => of_req w
theorem ackEvent (h : Header) (q : Req) : Statement (.ackEvent h q) := fun w => of_req w
theorem pollEvents (h : Header) (q : Req) : Statement (.pollEvents h q) := fun w => of_req w
theorem fetchLog (h : Header) (q : Req) : Statement (.fetchLog h q) := fun w => of_req w
theorem setWatch (h : Header) (q : Req) : Statement (.setWatch h q) := fun w => of_req w
theorem snapshot (h : Header) (q : Req) : Statement (.snapshot h q) := fun w => of_req w
theorem identify (h : Header) (q : Req) : Statement (.identify h q) := fun w => of_req w
theorem softReset (h : Header) (q : Req) (o : TakeOrder) : Statement (.softReset h q o) := by
  intro w; simp only [WellFormed, Bool.and_eq_true] at w; exact of_req w.1
theorem unknownRequestCode (h : Header) (code : Byte) (q : Req) : Statement (.unknownRequestCode h code q) := by
  intro w; simp only [WellFormed, Bool.and_eq_true] at w; exact of_req w.1
theorem powerOnResetRelease : Statement .powerOnResetRelease := of_none rfl

end Sys2Proof.Laws.WellFormedHeader
end

