-- ==== Sys2Proof/Tests/Slice0.lean ====
section
/-! SUPPORT. Our own tests: ill-formed commands, worked examples of the manual, and for every statement a state and
operands that meet its premises, at the boundary values of each clause. -/

set_option Elab.async false

namespace Sys2Proof.Tests

open Sys2Proof.Machine

/-! ## Helpers -/

/-- A header from station 5 to the part, station 1. -/
def hq : Header := { dest := 1, src := 5, flags := 0, tag := 9, rsvHi := 0, rsvLo := 0 }

/-- A header of a report to all stations. -/
def from' (src : Byte) : Header := { dest := 0, src, flags := 0, tag := 0, rsvHi := 0, rsvLo := 0 }

/-- A request for the standby bank. -/
def rq (index : Byte) (data : List Byte) : Req := { bank := 1, table := 0, index, data }

def cycPayload (no pos speed : Nat) (line : Byte) : List Byte := be 2 no ++ be 4 pos ++ be 4 speed ++ [line]

def mrkPayload (mm : Nat) : List Byte := be 4 mm ++ [0, 0]

/-- The state after a command. -/
def after (c : Instr) (s : State) : State := match exec c s with
  | .next t => t
  | .fault _ => s
  | .refused _ => s

/-- The statuses of the answers that a request gives. -/
def answered (c : Instr) (s : State) : List Status := (after c s).answers.map (·.status)

/-- A design in foil on web 0, a cold design, a lane in use. -/
def foilDesign : Design :=
  { kind := .foil, segment := 0, web := some 0, offset := 100, length := 1000, pressure := 3, inhibit := false }

def coldDesign : Design :=
  { kind := .embossCold, segment := 1, web := none, offset := 200, length := 500, pressure := 1, inhibit := false }

def fixedLane (d : Fin 64) : Lane :=
  { Lane.cleared with mode := .fixed, slotA := d, lo := -100, hi := 2000, nsoak := 1, ndrift := 3 }

def web0 : FoilWeb := { first := 0, last := 0, fm := 20, gmin := 500, low := 1000 }

/-- A valid bank: lane 0 in foil, lane 1 cold. -/
def jobBank : Bank :=
  { Bank.cleared with
    designs := (Bank.cleared.designs.set 1 (some foilDesign)).set 2 (some coldDesign)
    lanes := (Bank.cleared.lanes.set 0 (fixedLane 1)).set 1 (fixedLane 2)
    foil := Bank.cleared.foil.set 0 (some web0)
    job := { lr := 10000, w := 1000, cmax := 200, tol := 80, ncoast := 3, vmin := 100 } }

def cfg : StationCfg :=
  { StationCfg.powerOn with
    sensor := some 10, d := 20000
    heaters := (StationCfg.powerOn.heaters.set 0 (some 20)).set 1 (some 21)
    driveStations := ((StationCfg.powerOn.driveStations.set 0 (some 30)).set 1 (some 31)).set 8 (some 38) }

/-- The job in bank 0 as the active bank, bank 1 cleared, the planner READY. -/
def ready : State :=
  { State.reset with
    jobs := { banks := #v[jobBank, Bank.cleared], active := 0, arm := none, cfg }
    planner := { Planner.powerOn with st := .ready } }

def goodDrive : Drive := { Drive.powerOn with link := .answering }

/-- Stamping in register: the last mark stood at 500,000 with repeat 3,120 (the start of section 1.7). -/
def locked : State :=
  { ready with
    planner := { Planner.powerOn with st := .stamping }
    tracker := { Tracker.powerOn with
      pos := 509500, speed := 400000, line := .run, cycleNo := 7, firstCycle := false, mode := .locked, mtPrev := 500000,
      lock := 2, repeatNo := 3120 }
    port := { State.reset.port with timerOn := true, window := 6 }
    foil := State.reset.foil.set 0 { FoilAccount.powerOn with remaining := 100000 }
    cassettes := (State.reset.cassettes.set 0 { Cassette.afterReset with heat := .ready }).set 1
      { Cassette.afterReset with heat := .ready }
    drives := ((State.reset.drives.set 0 goodDrive).set 1 goodDrive).set 8 goodDrive }

/-- The tracker of a state in another mode. -/
def inMode (m : TrackMode) (lock coast : Nat) (s : State) : State :=
  s.setTracker { s.tracker with mode := m, lock, coast }

def atPos (p : Pos) (s : State) : State := s.setTracker { s.tracker with pos := p }

def inState (p : PlannerState) (s : State) : State := s.setPlanner { s.planner with st := p }

def armed (t : Target) (s : State) : State := s.setJobs { s.jobs with arm := some t }

def markHandOver : HandOver := { repeatNo := 3121, mt := 510030, residual := 0, mode := .locked, synth := false }

/-- Repeat 3,121 planned: nip base 530,030, the foil contact at 530,130, the cold one at 530,230. -/
def planned : State := locked.planEntries markHandOver false

/-- The plan of repeat 3,121 with the cold entry alone. -/
def coldOnly : State :=
  ({ locked with jobs := { locked.jobs with banks := #v[{ jobBank with lanes := jobBank.lanes.set 0 Lane.cleared },
      Bank.cleared] } }).planEntries markHandOver false

def firstPlan (s : State) : Plan := s.planner.queue.headD (planOf s markHandOver false (s.draft markHandOver))

/-- Every setpoint of the plans in one state. -/
def allSet (t : SetState) (s : State) : State :=
  s.setPlanner { s.planner with queue := s.planner.queue.map fun p => { p with
    entries := p.entries.map fun e => { e with phs := t }, moves := p.moves.map fun m => { m with st := t } } }

/-- The attention unit with every kind enabled. -/
def enabled : Attention := Attention.powerOn.setEnables 0x3FFFF true

/-! Premises that are no decidable propositions, by their tests. -/

def takesTest (s : State) (h : Header) (q : Req) : Bool :=
  !s.port.resetIn && s.port.station == some h.dest && h.src != h.dest && !h.bounced && decide (s.answers.length < 4)
    && decide (q.data.length ≤ 60)

theorem takes_of {s : State} {h : Header} {q : Req} (ok : takesTest s h q = true) : s.takes h q := by
  simp only [takesTest, Bool.and_eq_true, Bool.not_eq_true', beq_iff_eq, bne_iff_ne, decide_eq_true_eq] at ok
  exact ⟨⟨ok.1.1.1.1.1, ok.1.1.1.1.2⟩, ok.1.1.1.2, ok.1.1.2, ok.1.2, ok.2⟩

def readsTest (s : State) (f : Frame) : Bool :=
  !s.port.resetIn && s.port.station == some 1 && f.h.src != 1 && isRead s.jobs.cfg f
    && decide (leastPayload f.kind ≤ f.payload.length) && decide (f.payload.length ≤ 64)

theorem reads_of {s : State} {f : Frame} (ok : readsTest s f = true) : s.reads f := by
  simp only [readsTest, Bool.and_eq_true, Bool.not_eq_true', beq_iff_eq, bne_iff_ne, decide_eq_true_eq] at ok
  exact ⟨⟨1, ⟨ok.1.1.1.1.1, ok.1.1.1.1.2⟩, ok.1.1.1.2⟩, ok.1.1.2, ok.1.2, ok.2⟩

/-- Requests that are all taken. -/
theorem all_taken {s : State} {h : Header} {qs : List Req} (ok : qs.all (takesTest s h) = true) :
    ∀ q ∈ qs, s.takes h q := fun q hq => takes_of (List.all_eq_true.mp ok q hq)

/-- States that all take a request. -/
theorem all_taking {h : Header} {q : Req} {ss : List State} (ok : ss.all (fun s => takesTest s h q) = true) :
    ∀ s ∈ ss, s.takes h q := fun s hs => takes_of (List.all_eq_true.mp ok s hs)

/-- Frames of one kind and source that are all read. -/
theorem all_read {s : State} {k : Byte} {h : Header} {ps : List (List Byte)}
    (ok : ps.all (fun p => readsTest s { kind := k, h, payload := p }) = true) :
    ∀ p ∈ ps, s.reads { kind := k, h, payload := p } := fun p hp => reads_of (List.all_eq_true.mp ok p hp)

/-- What the receive check gives, as an option for each of its two sides. -/
def damageOf : Except Damage Frame → Option Damage
  | .error d => some d
  | .ok _ => none

def frameOf : Except Damage Frame → Option Frame
  | .error _ => none
  | .ok f => some f

theorem damaged_of {r : Except Damage Frame} {d : Damage} (ok : damageOf r = some d) : r = .error d := by
  cases r with
  | error e => exact congrArg Except.error (Option.some.inj ok)
  | ok f => cases ok

theorem received_of {r : Except Damage Frame} {f : Frame} (ok : frameOf r = some f) : r = .ok f := by
  cases r with
  | error e => cases ok
  | ok g => exact congrArg Except.ok (Option.some.inj ok)

/-! ## Ill-formed commands (one for each check of WellFormed) -/

theorem test_illFormed_header :
    WellFormed (.mrkArrival { hq with dest := 64 } (mrkPayload 0)) = false
      ∧ WellFormed (.mrkArrival { hq with src := 64 } (mrkPayload 0)) = false := by decide

theorem test_illFormed_cycle :
    WellFormed (.cycArrival hq (cycPayload 0 0 0 0) {}) = false
      ∧ WellFormed (.cycArrival (from' 63) ((cycPayload 0 0 0 0).drop 1) {}) = false
      ∧ WellFormed (.cycArrival (from' 63) (List.replicate 65 0) {}) = false
      ∧ WellFormed (.cycArrival (from' 63) (cycPayload 0 0 0 0) { points := [[.planner], [.planner]] }) = false := by
  decide

theorem test_illFormed_mark : WellFormed (.mrkArrival hq [0, 0, 0, 0, 0]) = false
    ∧ WellFormed (.mrkArrival hq (List.replicate 65 0)) = false := by decide

theorem test_illFormed_temperature : WellFormed (.tmpArrival hq [0, 0] {}) = false
    ∧ WellFormed (.tmpArrival hq (List.replicate 65 0) {}) = false
    ∧ WellFormed (.tmpArrival hq [0, 0, 0] { cassettes := [3, 3] }) = false := by decide

theorem test_illFormed_drive : WellFormed (.dstArrival hq [0] {}) = false
    ∧ WellFormed (.dstArrival hq (List.replicate 65 0) {}) = false
    ∧ WellFormed (.dstArrival hq [0, 0] { drives := [3, 3] }) = false := by decide

theorem test_illFormed_order : WellFormed (.frameArrival [] { own := [.planner, .planner] }) = false
    ∧ WellFormed (.ringSilence { drives := [0, 0] }) = false
    ∧ WellFormed (.softReset hq (rq 0 []) { drives := [0, 0] }) = false := by decide

theorem test_illFormed_request :
    WellFormed (.start { hq with flags := 1 } (rq 0 [])) = false
      ∧ WellFormed (.start hq (rq 0 (List.replicate 61 0))) = false
      ∧ WellFormed (.unknownRequestCode hq 0x1C (rq 0 [])) = false
      ∧ WellFormed (.unknownRequestCode hq 0x01 (rq 0 [])) = false := by decide

theorem test_wellFormed_commands :
    WellFormed (.cycArrival (from' 63) (cycPayload 0 0 0 0) {}) = true ∧ WellFormed (.mrkArrival hq (mrkPayload 0)) = true
      ∧ WellFormed (.start hq (rq 0 (List.replicate 60 0))) = true
      ∧ WellFormed (.unknownRequestCode hq 0x1D (rq 0 [])) = true := by decide

theorem test_noWordSpellsACommand : decodeTableWord 8 0x1C = none
    ∧ (State.reset.withFetchWord 8 0x1C).pending = [] := by decide

/-! ## The step and the resets -/

theorem test_StepRunsTheFrontCommand :
    (locked.setPending [.injectionSlot, .ringSilence {}]).pending = Instr.injectionSlot :: [.ringSilence {}]
      ∧ locked.pending = [] ∧ Sys2Proof.core.step locked = .next locked := ⟨rfl, rfl, rfl⟩

theorem test_strapValues :
    ([0, 1, 62, 63] : List (BitVec 6)).map (fun v => (after (.powerOnReset v) locked).port.station)
      = [none, some 1, some 62, none]
      ∧ (after .powerOnResetRelease (after (.powerOnReset 1) locked)) = State.reset := by decide +kernel

theorem test_ResetAndThroughOnly :
    (after (.powerOnReset 1) locked).port.resetIn = true
      ∧ arrivingBytes (.frameArrival [1, 2, 3] {}) = some ([1, 2, 3], {})
      ∧ (arrivingBytes (.identify hq (rq 0 []))).isSome = true
      ∧ (after .powerOnResetRelease (after (.powerOnReset 0) locked)).port.resetIn = false
      ∧ (after .powerOnResetRelease (after (.powerOnReset 63) locked)).port.station = none := by decide +kernel

/-! ## Frames -/

/-- The usual trial of a CRC-16 of this polynomial and start: the nine digits. -/
theorem test_crcOfDigits : crc16 [0x31, 0x32, 0x33, 0x34, 0x35, 0x36, 0x37, 0x38, 0x39] = 0x29B1 := by decide +kernel

def dstFrame (n : Nat) : Frame := { kind := Frame.dst, h := from' 30, payload := List.replicate n 0 }

theorem test_FramesReadBackAsBuilt : (dstFrame 64).payload.length ≤ 64 ∧ 64 < (dstFrame 65).payload.length
    ∧ (dstFrame 65).bytes.length = 75 ∧ (dstFrame 0).bytes.length = 10 := by decide +kernel

theorem test_DamagedFramesAreCounted :
    locked.worksAs 1
      ∧ (List.replicate 9 0 : List Byte).length < 10 ∧ 74 < (List.replicate 75 0 : List Byte).length
      ∧ receive (1 :: (dstFrame 0).bytes.drop 1) = .error .check
      ∧ receive ([4, 0, 30, 0, 1, 0, 0, 0] ++ crcBytes [4, 0, 30, 0, 1, 0, 0, 0]) = .error .length
      ∧ receive (dstFrame 64).bytes = .ok (dstFrame 64) ∧ receive (dstFrame 1).bytes = .ok (dstFrame 1)
      ∧ isRead locked.jobs.cfg (dstFrame 1) = true ∧ (dstFrame 1).payload.length < leastPayload Frame.dst :=
  ⟨⟨rfl, rfl⟩, by decide, by decide, damaged_of (by decide +kernel), damaged_of (by decide +kernel),
    received_of (by decide +kernel), received_of (by decide +kernel), by decide +kernel⟩

theorem test_damagedCountAndEvent :
    let t := after (.frameArrival (1 :: (dstFrame 2).bytes.drop 1) {}) locked
    t.port.damaged = 1 ∧ t.port.down = [] ∧ t.attention.kinds[(17 : Fin 18)].detail = 1
      ∧ (after (.frameArrival (dstFrame 1).bytes {}) locked).attention.kinds[(17 : Fin 18)].detail = 2 := by
  decide +kernel

def request (src flags : Byte) : Frame :=
  { kind := Frame.mgq, h := { hq with src, flags }, payload := [0x1B, 0, 0, 0] }

def fourAnswers : State :=
  locked.setAnswers (List.replicate 4 { dest := 5, tag := 0, code := 1, status := .done, data := [] })

theorem test_DispositionOfFrames :
    locked.worksAs 1 ∧ fourAnswers.worksAs 1
      ∧ receive (request 1 0).bytes = .ok (request 1 0) ∧ leastPayload Frame.mgq ≤ (request 1 0).payload.length
      ∧ (request 1 0).h.src = 1
      ∧ receive (request 5 0).bytes = .ok (request 5 0) ∧ isRequest 1 (request 5 0) = true
      ∧ fourAnswers.answers.length = 4
      ∧ receive (request 5 1).bytes = .ok (request 5 1) ∧ isRequest 1 (request 5 1) = false
      ∧ isRead locked.jobs.cfg (request 5 1) = false :=
  ⟨⟨rfl, rfl⟩, ⟨rfl, rfl⟩, received_of (by decide +kernel), by decide +kernel, by decide +kernel,
    received_of (by decide +kernel), by decide +kernel, by decide +kernel, received_of (by decide +kernel),
    by decide +kernel⟩

/-! ## Cycle frames -/

/-- A cycle frame to a position of the web at a speed in RUN. -/
def cyc (pos : Nat) : List Byte := cycPayload 8 pos 400000 2

theorem test_CycleFrameIsTaken :
    (∀ p ∈ [cycPayload 65535 0 500000 0, cycPayload 0 0 500001 1, cycPayload 1 4294967295 0 2, cycPayload 1 0 0 3,
        List.replicate 64 0], locked.reads { kind := Frame.cyc, h := from' 63, payload := p })
      ∧ (after (.cycArrival (from' 63) (cycPayload 65535 509501 500001 1) {}) locked).tracker.speed = 500000
      ∧ (after (.cycArrival (from' 63) (cyc 509501) { own := [.planner, .drive 3] }) locked).cycDue
          = [.drive 3, .planner] := ⟨all_read (by decide +kernel), by decide +kernel⟩

/-- The planner's pass left to its own step: the two release tests, a drive that is not left, the rest settled. -/
theorem test_partsStillToTake :
    let s := atPos 527230 { planned with cycDue := [.planner, .drive 0] }
    CycUnit.planner ∈ s.cycDue ∧ CycUnit.drive 1 ∉ s.cycDue
      ∧ (s.takeUnit .planner).planner.queue.map (fun p => p.entries.map (·.phs)) = [[.due, .due]]
      ∧ (s.takeUnit .planner).cycDue = [.drive 0] ∧ s.takeUnit (.drive 1) = s ∧ s.settle.cycDue = [] := by decide +kernel

/-- A cassette and a drive that are left to their own step, others that time out within the frame, and no order given. -/
theorem test_unitsOfACycleFrame :
    let s := { locked with
      cassettes := (locked.cassettes.set 0 { Cassette.afterReset with heat := .ready, since := 39 }).set 1
        { Cassette.afterReset with heat := .drift, drift := 2, since := 38 }
      drives := locked.drives.set 1 { goodDrive with cycles := 7 } }
    let t := after (.cycArrival (from' 63) (cyc 509501) { own := [.cassette 2, .drive 8] }) s
    ({} : TakeOrder).points = [] ∧ s.jobs.arm = none
      ∧ (t.cassettes[(0 : Fin 8)].heat, t.cassettes[(1 : Fin 8)].heat, t.drives[(1 : Fin 12)].link) = (.lost, .cold, .silent)
      ∧ t.cassettes[(2 : Fin 8)] = s.cassettes[(2 : Fin 8)] ∧ t.drives[(8 : Fin 12)] = s.drives[(8 : Fin 12)]
      ∧ t.cycDue = [.cassette 2, .drive 8] := by decide +kernel

theorem test_DisturbanceFlushes :
    (∀ p ∈ [cyc 509499, cyc 511501], planned.reads { kind := Frame.cyc, h := from' 63, payload := p })
      ∧ planned.tracker.firstCycle = false ∧ dist planned.tracker.pos (BitVec.ofNat 32 (field (cyc 509499) 2 4)) = -1
      ∧ dist planned.tracker.pos (BitVec.ofNat 32 (field (cyc 511501) 2 4)) = planned.jobs.cfg.jump + 1
      ∧ planned.cycDue = [] ∧ planned.report.ringSilent = false ∧ planned.report.log.length ≤ 256
      ∧ planned.undecidedEntries.length = 2
      ∧ (let t := after (.cycArrival (from' 63) (cyc 509499) {}) planned
         t.report.log.map (·.decision) = [.reject .flushed, .reject .flushed] ∧ t.planner.rejected[(1 : Fin 8)] = 1
           ∧ t.attention.kinds[(1 : Fin 18)].detail = 1 ∧ t.report.rpts = [(firstPlan planned).flushedReport]) :=
  ⟨all_read (by decide +kernel), by decide +kernel⟩

/-- Positions about the ends of the windows after Mt_prev = 500,000: 511,000 and 521,000. -/
theorem test_MissingMarkTest :
    (∀ p ∈ [cyc 509500, cyc 510999, cyc 511000, cyc 511500],
        locked.reads { kind := Frame.cyc, h := from' 63, payload := p })
      ∧ (atPos 519500 locked).reads { kind := Frame.cyc, h := from' 63, payload := cyc 520999 }
      ∧ locked.jobs.arm = none ∧ locked.tracker.staged = none ∧ State.reset.tracker.firstCycle = true
      ∧ dist locked.tracker.pos 509500 = 0 ∧ dist locked.tracker.pos 511500 = locked.jobs.cfg.jump
      ∧ locked.tracker.mode = .locked ∧ (inMode .locking 1 0 locked).tracker.mode = .locking
      ∧ (inMode .coasting 2 2 locked).tracker.mode = .coasting
      ∧ dist (locked.tracker.mtPrev + len 10000 + len 1000) 510999 = -1
      ∧ dist (locked.tracker.mtPrev + len 10000 + len 1000) 511000 = 0
      ∧ dist (locked.tracker.mtPrev + len 10000 + len 10000 + len 1000) 520999 = -1
      ∧ (atPos 511000 locked).tracker.pos = 511000 ∧ locked.active.job.ncoast = 3 :=
  ⟨all_read (by decide +kernel), reads_of (by decide +kernel), by decide +kernel⟩

/-- Section 1.8, steps 1 and 5: a synthesis in LOCKED, and the one with which the coast count reaches Ncoast. -/
theorem test_synthesisOfSection18 :
    let narrow (s : State) : State := s.setActive { jobBank with job := { jobBank.job with w := 600 } }
    let s1 := narrow (atPos 520500 (locked.setTracker { locked.tracker with mtPrev := 510030, repeatNo := 3121 }))
    let s5 := narrow (atPos 540500 (inMode .coasting 2 2
      (locked.setTracker { locked.tracker with mtPrev := 530030, repeatNo := 3123 })))
    let t1 := after (.cycArrival (from' 63) (cyc 520650) {}) s1
    let t5 := after (.cycArrival (from' 63) (cyc 540650) {}) s5
    (t1.tracker.mode, t1.tracker.coast, t1.tracker.mtPrev, t1.tracker.repeatNo) = (.coasting, 1, 520030, 3122)
      ∧ t1.attention.kinds[(9 : Fin 18)].detail = 1
      ∧ (t5.tracker.mode, t5.tracker.coast, t5.tracker.mtPrev, t5.tracker.repeatNo) = (.unlocked, 0, 540030, 3124)
      ∧ t5.attention.kinds[(5 : Fin 18)].detail = 3124 ∧ t5.attention.kinds[(9 : Fin 18)].pending = false := by
  decide +kernel

/-! ## Marks -/

theorem test_MarksTakenAsMeasured :
    (∀ p ∈ [mrkPayload 510000, mrkPayload 510080, mrkPayload 510081, mrkPayload 511001],
        locked.reads { kind := Frame.mrk, h := from' 10, payload := p })
      ∧ ({ State.reset with jobs := { State.reset.jobs with cfg } }).reads
          { kind := Frame.mrk, h := from' 10, payload := mrkPayload 0 }
      ∧ State.reset.active.isEmpty = true ∧ locked.active.isEmpty = false
      ∧ (inMode .locking 1 0 locked).tracker.mode = .locking ∧ (inMode .locking 1 0 locked).tracker.lock = 1
      ∧ (inMode .unlocked 0 0 locked).tracker.mode = .unlocked
      ∧ (dist (500000 + len 10000) 510080).natAbs = 80 ∧ (dist (500000 + len 10000) 510081).natAbs = 81 :=
  ⟨all_read (by decide +kernel), reads_of (by decide +kernel), by decide +kernel⟩

theorem test_MarksCorrectedOrStray :
    (∀ p ∈ [mrkPayload 509000, mrkPayload 508999, mrkPayload 511000, mrkPayload 511001],
        locked.reads { kind := Frame.mrk, h := from' 10, payload := p })
      ∧ locked.active.isEmpty = false ∧ locked.tracker.mode = .locked
      ∧ (inMode .coasting 2 2 locked).tracker.mode = .coasting
      ∧ (dist (500000 + len 10000) 509000).natAbs = 1000 ∧ (dist (500000 + len 10000) 511001).natAbs = 1001 :=
  ⟨all_read (by decide +kernel), by decide +kernel⟩

/-- Section 1.7, marks A and B: the tracked position and what the planner is handed. -/
theorem test_marksOfSection17 :
    let a := after (.mrkArrival (from' 10) (mrkPayload 510030)) locked
    let b := after (.mrkArrival (from' 10) (mrkPayload 520930)) { a with planner := locked.planner }
    (a.tracker.mtPrev, a.tracker.repeatNo, a.planner.queue.length) = (510030, 3121, 1)
      ∧ a.planner.queue.map (·.residual) = [0]
      ∧ (b.tracker.mtPrev, b.tracker.repeatNo, b.planner.queue.length) = (520230, 3122, 0)
      ∧ b.report.log.map (·.residual) = [700, 700]
      ∧ b.report.log.map (·.decision) = [.suppressed .register, .suppressed .register] := by decide +kernel

def thirtyTwo : State :=
  planned.setPlanner { planned.planner with queue := List.replicate 32 (firstPlan planned) }

theorem test_HandOverByPlannerState :
    ready.planner.st = .ready ∧ State.reset.planner.st = .idle ∧ (inState .draining planned).planner.st = .draining
      ∧ planned.planner.st = .stamping ∧ thirtyTwo.planner.queue.length = 32
      ∧ (thirtyTwo.setPlanner { thirtyTwo.planner with queue := thirtyTwo.planner.queue.drop 1 }).planner.queue.length = 31
      ∧ locked.tracker.staged = none
      ∧ (locked.setTracker { locked.tracker with staged := some 2000 }).tracker.staged = some 2000
      ∧ (armed .next locked).jobs.arm = some .next ∧ (armed (.atRepeat 5) locked).jobs.arm = some (.atRepeat 5)
      ∧ 0 ≤ dist (5 : Rep) 5 ∧ dist (5 : Rep) 4 = -1 := by decide +kernel

theorem test_overflowCountsAndReports :
    let t := thirtyTwo.handOver markHandOver
    t.planner.queue.length = 32 ∧ t.planner.rejected[(0 : Fin 8)] = 1 ∧ t.planner.rejected[(2 : Fin 8)] = 0
      ∧ t.report.log.map (fun r => (r.lane, r.decision, r.repeatNo))
          = [(0, .suppressed .overflow, 3121), (1, .suppressed .overflow, 3121)]
      ∧ t.report.log.map (fun r => (r.design, r.contact)) = [(none, none), (none, none)]
      ∧ t.report.rpts.map (fun r => (r.repeatNo, r.nip, r.lanes.toList.map outcomeNumbers))
          = [(3121, 530030, [(2, 10), (2, 10), (0, 0), (0, 0), (0, 0), (0, 0), (0, 0), (0, 0)])]
      ∧ thirtyTwo.report.log.length ≤ 256 ∧ (thirtyTwo.setReport { thirtyTwo.report with ringSilent := true
          } |>.handOver markHandOver).report.rpts = [] := by
  decide +kernel

/-! ## Planning -/

theorem test_RepeatIsPlanned :
    planned.planner.queue.map (fun p => (p.nip, p.entries.map (·.contact), p.moves.map fun m => (m.start, m.stop)))
        = [(530030, [530130, 530230], [(530110, 531150)])]
      ∧ planned.foil[(0 : Fin 4)].reserved = 1040 ∧ (planned.report.log).length = 0
      ∧ (let poor := locked.setFoil (locked.foil.set 0 { FoilAccount.powerOn with remaining := 2039 })
         (poor.planEntries markHandOver false).attention.kinds[(8 : Fin 18)].pending = true)
      ∧ (let short := locked.setFoil (locked.foil.set 0 { FoilAccount.powerOn with remaining := 1039 })
         let t := short.planEntries markHandOver false
         t.attention.kinds[(4 : Fin 18)].pending = true
           ∧ t.report.log.map (·.decision) = [.suppressed .foilOut] ∧ t.foil = short.foil)
      ∧ ((inMode .unlocked 0 0 locked).planEntries { markHandOver with mode := .unlocked } false).planner.queue = [] := by
  decide +kernel

/-- The design of a lane by its mode and progress, a SEQUENCE lane at the last entry of the table and past it (R28). -/
theorem test_designOfALane :
    let b := { jobBank with seq := jobBank.seq.set 127 (some 7) }
    let l := { fixedLane 1 with slotB := 2, seqStart := 120, seqLen := 16 }
    ([{ l with mode := .off }, l, { l with mode := .alternate }, { l with mode := .alternate, onB := true },
      { l with mode := .sequence, index := 7 }, { l with mode := .sequence, index := 8 }].map b.choice)
      = [none, some 1, some 1, some 2, some 7, none] := by decide +kernel

/-- A SEQUENCE lane of one entry that wraps and an ALTERNATE lane that moves on. -/
theorem test_progressMovesOn :
    let b := { jobBank with
      lanes := (jobBank.lanes.set 0 { fixedLane 1 with mode := .sequence, seqStart := 5 }).set 1
        { fixedLane 2 with mode := .alternate, slotB := 2 }
      seq := jobBank.seq.set 5 (some 1) }
    let t := (locked.setActive b).planEntries markHandOver false
    (t.active.lanes[(0 : Fin 8)].index, t.active.lanes[(1 : Fin 8)].onB) = (0, true)
      ∧ t.attention.kinds[(13 : Fin 18)].pending = true := by decide +kernel

/-- Each of the eight checks, with the ones after it failing too. -/
theorem test_SuppressionInOrder :
    let bad := { ({ locked with cassettes := State.reset.cassettes, drives := State.reset.drives }) with
      tracker := { locked.tracker with line := .crawl } }
    let held := bad.setActive { jobBank with lanes := jobBank.lanes.set 0 { fixedLane 1 with hold := true } }
    let far : HandOver := { markHandOver with mode := .locking, residual := 81 }
    held.suppression far 0 { foilDesign with inhibit := true } = some .held
      ∧ bad.suppression far 0 { foilDesign with inhibit := true } = some .inhibited
      ∧ bad.suppression far 0 foilDesign = some .unlocked
      ∧ bad.suppression { far with mode := .coasting } 0 foilDesign = some .register
      ∧ bad.suppression { far with mode := .locked, residual := -80 } 0 foilDesign = some .speed
      ∧ ({ locked with cassettes := State.reset.cassettes, drives := State.reset.drives }).suppression markHandOver 0
          foilDesign = some .heat
      ∧ ({ locked with drives := State.reset.drives }).suppression markHandOver 0 foilDesign = some .drive
      ∧ ({ locked with drives := locked.drives.set 8 Drive.powerOn }).suppression markHandOver 0 foilDesign
          = some .foilDrive
      ∧ locked.suppression markHandOver 0 foilDesign = none := by decide +kernel

/-- An entry of a group, by its lane, its contact start and its length. -/
def groupEntry (l : Fin 8) (contact : Pos) (length : Nat) : Entry :=
  { lane := l, design := 1, kind := .foil, segment := 0, web := some 0, length, pressure := 0, contact, release := 0,
    late := 0, phs := .unsent, move := none, outcome := none }

theorem test_FoilRunsKeepTheGap :
    let group := [groupEntry 0 (4294966296) 60000, groupEntry 1 201000 100, groupEntry 2 110000 60000]
    let fw : FoilWeb := { web0 with fm := 2000, gmin := 20000 }
    fw.fm ≤ 2000 ∧ fw.gmin ≤ 20000
      ∧ (∀ e ∈ group, e.length ≤ 60000 ∧ -1000 ≤ dist (0 : Pos) e.contact ∧ dist (0 : Pos) e.contact ≤ 201000)
      ∧ dist (0 : Pos) 4294966296 = -1000
      ∧ (groupRuns fw 0 4 group).map (·.lanes) = [[0], [2], [1]]
      ∧ (groupRuns fw 0 2 group).map (·.lanes) = [[0], [1, 2]]
      ∧ (groupRuns fw 0 1 group).map (·.lanes) = [[0, 1, 2]] := by decide +kernel

/-- Gaps of Gmin - 1, Gmin and, with Gmin 0, of 0; of two equal smallest gaps the one nearest the start is closed. -/
theorem test_runsStandApart :
    let at' (gmin : Nat) (room : Nat) (xs : List (Fin 8 × Pos)) : List (List (Fin 8)) :=
      (groupRuns { web0 with fm := 0, gmin } 0 room (xs.map fun x => groupEntry x.1 x.2 100)).map (·.lanes)
    at' 500 2 [(0, 0), (1, 599)] = [[0, 1]] ∧ at' 500 2 [(0, 0), (1, 600)] = [[0], [1]]
      ∧ at' 0 2 [(1, 100), (0, 0)] = [[0], [1]] ∧ at' 0 3 [(2, 50), (1, 99), (0, 0)] = [[0, 1, 2]]
      ∧ at' 500 2 [(0, 0), (1, 700), (2, 1400)] = [[0, 1], [2]] := by decide +kernel

/-! ## Cassettes -/

theorem test_TemperatureReports :
    (∀ p ∈ [beInt 2 (-101) ++ [0], beInt 2 (-100) ++ [0], be 2 2000 ++ [0], be 2 2001 ++ [0], be 2 500 ++ [1]],
        locked.reads { kind := Frame.tmp, h := from' 20, payload := p })
      ∧ (∀ c : Fin 8, locked.jobs.cfg.heaters[c] = some 20 ↔ c = 0)
      ∧ [beInt 2 (-101) ++ [0], beInt 2 (-100) ++ [0], be 2 2000 ++ [0], be 2 2001 ++ [0], be 2 500 ++ [1]].map
          (fun p => (after (.tmpArrival (from' 20) p {}) locked).cassettes[(0 : Fin 8)].heat)
          = [.drift, .ready, .ready, .drift, .drift] := ⟨all_read (by decide +kernel), by decide +kernel⟩

/-- A READY cassette of a lane with Ndrift 0 that is reported out of band. -/
theorem test_readyGoesColdWithoutGrace :
    let s := locked.setActive { jobBank with lanes := jobBank.lanes.set 0 { fixedLane 1 with ndrift := 0 } }
    let t := after (.tmpArrival (from' 20) (beInt 2 (-101) ++ [0]) {}) s
    t.cassettes[(0 : Fin 8)].heat = .cold ∧ t.attention.kinds[(6 : Fin 18)].pending = true
      ∧ ({} : TakeOrder).cassettes = [] := by decide +kernel

/-- Cassette 0 in a heat state with its counts, its part of the cycle frame still to take. -/
def heatDue (x : Cassette) : State :=
  { locked with cassettes := locked.cassettes.set 0 x, cycDue := [.cassette 0, .drive 0] }

theorem test_CassetteCycleAndExpiries :
    CycUnit.cassette 0 ∈ (heatDue Cassette.afterReset).cycDue ∧ locked.cycDue = []
      ∧ ([.ready, .drift, .cold, .soak, .lost].map fun h =>
          (after (.tmpTimeout 0) (heatDue { heat := h, soak := 0, drift := 0, since := 39 })).cassettes[(0 : Fin 8)].since)
          = [40, 40, 40, 40, 39]
      ∧ ([0, 1, 2].map fun n => ((after (.soakComplete 0) (heatDue
          { heat := .soak, soak := n, drift := 0, since := 38 })).cassettes[(0 : Fin 8)].heat)) = [.ready, .ready, .ready]
      ∧ ([1, 2].map fun n => ((after (.driftExpiry 0) (heatDue
          { heat := .drift, soak := 0, drift := n, since := 38 })).cassettes[(0 : Fin 8)].heat)) = [.drift, .cold]
      ∧ ((after (.driftExpiry 0) (heatDue { heat := .drift, soak := 0, drift := 2, since := 39 })).cassettes[(0 : Fin
          8)].heat) = .drift := by decide +kernel

/-! ## Drives -/

theorem test_DriveStatusFrames :
    (∀ p ∈ [[0, 0], [1, 255], [255, 0, 7]], locked.reads { kind := Frame.dst, h := from' 30, payload := p })
      ∧ (∀ d : Fin 12, locked.jobs.cfg.driveStations[d] = some 30 ↔ d = 0) ∧ (0 : Byte) &&& locked.jobs.cfg.masks[(0 : Fin 12)] = 0
      ∧ (after (.dstArrival (from' 30) [1, 255] {}) locked).drives[(0 : Fin 12)].link = .faulted :=
  ⟨all_read (by decide +kernel), by decide +kernel⟩

/-- DRIVE_FAULT with its notice, and DRIVE_WARN for a flag outside the mask. -/
theorem test_faultAndWarning :
    let s := planned.setJobs { planned.jobs with cfg := { planned.jobs.cfg with masks := planned.jobs.cfg.masks.set 0 1 } }
    let t := after (.dstArrival (from' 30) [3, 255] {}) s
    (3 : Byte) &&& s.jobs.cfg.masks[(0 : Fin 12)] ≠ 0 ∧ s.drives[(0 : Fin 12)].link ≠ .faulted
      ∧ (3 : Byte) &&& ~~~s.jobs.cfg.masks[(0 : Fin 12)] &&& ~~~s.drives[(0 : Fin 12)].last ≠ 0
      ∧ t.attention.kinds[(3 : Fin 18)].pending = true ∧ t.attention.kinds[(11 : Fin 18)].pending = true
      ∧ t.planner.queue.map (fun p => p.entries.map (·.outcome)) = [[some (.reject .driveFault), none]] := by decide +kernel

/-- Four records on two drives of one station: an echo covers its record and the older ones, and one that no record has
covers none (R128, R69). -/
theorem test_echoCoversTheOlderRecords :
    let r (seq : Byte) (i : PlanItem) : Outstanding := { seq, age := 1, item := i }
    let x : Drive := { goodDrive with
      next := 73, sent := true, out := [r 70 (.phs 3121 0), r 71 (.fmv 3121 0), r 72 (.phs 3121 1)] }
    let s := { planned with
      drives := (planned.drives.set 0 x).set 1 { goodDrive with next := 72, sent := true, out := [r 71 (.phs 9 9)] }
      jobs := { planned.jobs with cfg := { planned.jobs.cfg with
        driveStations := planned.jobs.cfg.driveStations.set 1 (some 30) } } }
    let hears (echo : Byte) := after (.dstArrival (from' 30) [0, echo] {}) s
    let acked (echo : Byte) := (hears echo).planner.queue.map fun p =>
      (p.entries.map (·.phs == .acked), p.moves.map (·.st == .acked))
    [70, 71, 72, 69].map x.covered = [1, 2, 3, 0] ∧ (hears 71).drives[(0 : Fin 12)].out.map (·.seq) = [72]
      ∧ (hears 71).drives[(1 : Fin 12)].out = [] ∧ (hears 69).drives[(0 : Fin 12)].out.length = 3
      ∧ [70, 71, 72, 69].map acked = [[([true, false], [false])], [([true, false], [true])], [([true, true], [true])],
          [([false, false], [false])]] := by decide +kernel

/-- Drive 0 with its part of the cycle frame still to take. -/
def driveDue (x : Drive) : State :=
  { planned with drives := planned.drives.set 0 x, cycDue := [.drive 0] }

def aRecord (age : Nat) : Outstanding := { seq := 0, age, item := .phs 3121 0 }

theorem test_DriveCycleAndTimeouts :
    CycUnit.drive 0 ∈ (driveDue goodDrive).cycDue ∧ goodDrive.link ≠ .silent ∧ locked.cycDue = []
      ∧ ([6, 7].map fun a => (after (.answerTimeout 0) (driveDue { goodDrive with out := [aRecord a], sent := true, next := 1 }
          )).drives[(0 : Fin 12)].link) = [.answering, .silent]
      ∧ ([6, 7].map fun n => (after (.dstTimeout 0) (driveDue { goodDrive with cycles := n })).drives[(0 : Fin 12)].link)
          = [.answering, .silent]
      ∧ (after (.dstTimeout 0) (driveDue { goodDrive with cycles := 7 })).attention.kinds[(2 : Fin 18)].pending = true
      ∧ (after (.dstTimeout 0) (driveDue Drive.powerOn)) = driveDue Drive.powerOn := by decide +kernel

theorem queueConsistent_of {s : State} (ok : (s.planner.queue.all fun p =>
    !p.done && decide ((p.entries.map (·.lane)).Pairwise (· < ·)) && decide (p.moves.length ≤ 4)) = true) :
    s.QueueConsistent := by
  intro p hp
  have h := List.all_eq_true.mp ok p hp
  simp only [Bool.and_eq_true, Bool.not_eq_true', decide_eq_true_eq] at h
  exact ⟨h.1.1, h.1.2, h.2⟩

theorem repeatsDistinct_of {s : State} (ok : decide ((s.planner.queue.map (·.repeatNo)).Nodup) = true) :
    s.RepeatsDistinct := by
  unfold State.RepeatsDistinct
  exact of_decide_eq_true ok

theorem test_NoticeLeavesNoDependentEntry :
    planned.RepeatsDistinct ∧ planned.QueueConsistent
      ∧ (planned.notice 0 .noAck).planner.queue.map (fun p => p.entries.map (·.outcome))
          = [[some (.reject .noAck), none]]
      ∧ (planned.notice 8 .foilNoAck).planner.queue.map (fun p => p.entries.map (·.outcome))
          = [[some (.reject .foilNoAck), none]]
      ∧ ([.unsent, .due, .sent 3, .acked, .withdrawn].map fun t => ((allSet t planned).notice 8 .driveFault).report.log.map
          (·.decision)) = [[.reject .driveFault], [.reject .driveFault], [.reject .driveFault], [], []]
      ∧ ((allSet .acked planned).notice 0 .noAck).planner = (allSet .acked planned).planner
      ∧ (coldOnly.notice 1 .noAck).planner.queue = [] ∧ (planned.report.log.length ≤ 256) :=
  ⟨repeatsDistinct_of (by decide +kernel), queueConsistent_of (by decide +kernel), by decide +kernel⟩

/-! ## Tests and decisions -/

/-- A move given up at its late point: REJECT LATE for the entries it serves in lane order, the reservation given back; the
plan stays with an entry that it does not serve, and leaves the queue without one (R70, R72). -/
theorem test_moveGivenUp :
    let served := { groupEntry 1 530130 1000 with move := some 0 }
    let both (lone : Bool) : State := atPos 530000 { planned with planner := { planned.planner with
      queue := planned.planner.queue.map fun p => { p with
        entries := [{ (groupEntry 0 530130 1000) with move := some 0 }, served]
          ++ (if lone then [groupEntry 2 900000 500] else []) } } }
    [true, false].map (fun lone => ((both lone).planTest (.move 3121 0)).report.log.map fun r => (r.lane, r.decision))
        = [[(0, .reject .late), (1, .reject .late)], [(0, .reject .late), (1, .reject .late)]]
      ∧ [true, false].map (fun lone => ((both lone).planTest (.move 3121 0)).planner.queue.map fun p =>
          p.entries.map fun e => (e.phs, e.outcome))
        = [[[(.withdrawn, some (.reject .late)), (.withdrawn, some (.reject .late)), (.unsent, none)]], []]
      ∧ [true, false].map (fun lone => ((both lone).planTest (.move 3121 0)).foil[(0 : Fin 4)].reserved) = [0, 0]
      ∧ [true, false].map (fun lone => ((both lone).planTest (.move 3121 0)).planner.rejected[(1 : Fin 8)]) = [0, 1] := by
  decide +kernel

/-- The foil entry of the plan has contact start 530,130, release point 527,130 and late point 529,630. -/
theorem test_TestsOfACycleFrame :
    planned.RepeatsDistinct ∧ planned.QueueConsistent
      ∧ planned.planner.queue.find? (·.repeatNo == 3121) = some (firstPlan planned)
      ∧ ((firstPlan planned).moves[0]?).map (·.st) = some .unsent
      ∧ ((firstPlan planned).entries.find? (fun x => x.lane == 0 && x.outcome.isNone)).map (fun e => (e.late, e.contact, e.release)) = some (529630, 530130, 527130)
      ∧ ([526109, 526110, 529609, 529610].map fun p => ((atPos p planned).testMove 3121 0).planner.queue.map
          fun q => q.moves.map (·.st)) = [[[.unsent]], [[.due]], [[.due]], [[.withdrawn]]]
      ∧ ([527129, 527130, 529629, 529630].map fun p => ((atPos p planned).testEntry 3121 0).planner.queue.map
          fun q => q.entries.map fun e => (e.phs, e.outcome))
          = [[[(.unsent, none), (.unsent, none)]], [[(.due, none), (.unsent, none)]], [[(.due, none), (.unsent, none)]],
             [[(.withdrawn, some (.reject .late)), (.unsent, none)]]]
      ∧ ([530129, 530130].map fun p => ((atPos p (allSet .acked planned)).testEntry 3121 0).planner.queue.map
          fun q => q.entries.map (·.outcome)) = [[[none, none]], [[some .stamped, none]]]
      ∧ (((atPos 530130 (allSet (.sent 4) planned)).testEntry 3121 0).planner.queue.map
          fun q => q.entries.map (·.outcome)) = [[some (.reject .noAck), none]] :=
  ⟨repeatsDistinct_of (by decide +kernel), queueConsistent_of (by decide +kernel), by decide +kernel⟩

theorem test_DecisionIsLoggedAndCounted :
    planned.QueueConsistent ∧ coldOnly.QueueConsistent
      ∧ [planned, coldOnly].map (fun s => s.planner.queue.find? (·.repeatNo == 3121))
          = [some (firstPlan planned), some (firstPlan coldOnly)]
      ∧ [planned, coldOnly].map (fun s =>
          ((firstPlan s).entries.find? (fun x => x.lane == 1 && x.outcome.isNone)).isSome) = [true, true]
      ∧ (∀ x ∈ (firstPlan coldOnly).entries, x.outcome = none → x.lane = 1)
      ∧ (¬∀ x ∈ (firstPlan planned).entries, x.outcome = none → x.lane = 1)
      ∧ (coldOnly.decideEntry 3121 1 .stamped true).planner.stamped[(1 : Fin 8)] = 1
      ∧ (coldOnly.decideEntry 3121 1 .stamped true).report.rpts.length = 1 :=
  ⟨queueConsistent_of (by decide +kernel), queueConsistent_of (by decide +kernel), by decide +kernel⟩

/-- The last plan closes in DRAINING: with an arm the changeover is taken at the entry to READY, whatever its target; in
STAMPING, or while another plan stands, it is not (R43, R55, R80). -/
theorem test_closingTakesTheChangeover :
    let s := (armed (.atRepeat 9999) coldOnly).setTracker { coldOnly.tracker with staged := some 5000 }
    let two := s.setPlanner { s.planner with queue := s.planner.queue ++ [{ firstPlan s with repeatNo := 3122 }] }
    let closed (st : PlannerState) (v : State) : State := (inState st v).decideEntry 3121 1 .stamped true
    let ends := [closed .draining s, closed .stamping s, closed .draining two]
    ends.map (fun t => (t.planner.st, t.jobs.active, t.jobs.arm))
        = [(.ready, 1, none), (.stamping, 0, some (.atRepeat 9999)), (.draining, 0, some (.atRepeat 9999))]
      ∧ ends.map (·.tracker.staged) = [none, some 5000, some 5000]
      ∧ ends.map (fun t => (t.attention.kinds[(12 : Fin 18)].pending, t.attention.kinds[(12 : Fin 18)].detail))
        = [(true, 1), (false, 0), (false, 0)] := by decide +kernel

/-- A log of some records already. -/
def withLog (n : Nat) (s : State) : State :=
  s.setReport { s.report with log := List.replicate n ((firstPlan s).record (groupEntry 0 0 100) (.reject .late)) }

/-- The 128th record, a full log, a watch entry that matches once, and a move spent by its last decision. -/
theorem test_recordsRaiseTheirEvents :
    let raised (k : Fin 18) (s : State) : Bool := (s.decideEntry 3121 0 (.reject .late) true).attention.kinds[k].pending
    let w : Watch := { enabled := true, lane := 0, laneOn := true, design := 1, designOn := true, cls := .reject,
                       clsOn := true, once := true }
    let watched := planned.setReport { planned.report with watch := planned.report.watch.set 2 w }
    [126, 127, 128].map (fun n => raised 14 (withLog n planned)) = [false, true, false]
      ∧ [255, 256].map (fun n => raised 15 (withLog n planned)) = [false, true]
      ∧ raised 16 planned = false ∧ raised 16 watched = true
      ∧ (watched.decideEntry 3121 0 (.reject .late) true).report.watch[(2 : Fin 4)].enabled = false
      ∧ (planned.decideEntry 3121 0 (.reject .late) true).foil[(0 : Fin 4)].reserved = 0
      ∧ (inState .draining coldOnly |>.decideEntry 3121 1 .stamped true).planner.st = .ready := by decide +kernel

/-! ## Slots -/

def aReport : RepeatReport :=
  { repeatNo := 5, nip := 7, lanes := Vector.replicate 8 none, synth := true, first := false, gap := true }

def anAnswer : Answer := { dest := 5, tag := 9, code := 0x0C, status := .done, data := [] }

theorem test_SlotTakesTheFirstClass :
    locked.worksAs 1 ∧ State.reset.worksAs 1 ∧ State.reset.port.window = 0 ∧ locked.port.window = 6
      ∧ (allSet .due planned).nextSetpoint.isSome = true ∧ locked.nextSetpoint = none
      ∧ (locked.setReport { locked.report with rpts := [aReport] }).nextSetpoint = none
      ∧ (locked.setAnswers [anAnswer]).report.rpts = []
      ∧ (locked.setAttention { locked.attention with waiting := some 17 }).answers = []
      ∧ locked.attention.waiting = none := ⟨⟨rfl, rfl⟩, ⟨rfl, rfl⟩, by decide +kernel⟩

/-- The frame kinds that successive slots send: a setpoint of each kind, a report, an answer, an ATN, nothing. -/
theorem test_classOrder :
    let a := locked.attention
    let full := { allSet .due planned with
      report := { planned.report with rpts := [aReport] }, answers := [anAnswer]
      attention := { kinds := a.kinds.map fun k => { k with pending := true }, service := [(3, 1)], waiting := some 3 } }
    let slots : Nat → State := fun n => (List.replicate n Instr.injectionSlot).foldl (fun s c => after c s) full
    (slots 6).port.down.map (fun b => byteAt b 0) = [0x11, 0x10, 0x10, 0x12, 0x21, 0x13]
      ∧ (slots 6).port.window = 0 ∧ (slots 6).attention.waiting = none := by decide +kernel

/-- Two cold entries with one release position, and the lanes' rotation at a tie (section 7.3). -/
def tied : State :=
  let s := allSet .due planned
  s.setPlanner { s.planner with queue := s.planner.queue.map fun p => { p with
    entries := p.entries.map (fun e => { e with release := 527130 }), moves := [] } }

theorem test_PhaseSetpointIsSent :
    (tied.waitingSetpoints.map (·.release 4000)) = [527130, 527130]
      ∧ ((allSet .due coldOnly).waitingSetpoints.length) = 1
      ∧ (after .injectionSlot tied).port.order = [1, 2, 3, 4, 5, 6, 7, 0]
      ∧ (after .injectionSlot (after .injectionSlot tied)).port.order = [1, 2, 3, 4, 5, 6, 7, 0]
      ∧ (after .injectionSlot (allSet .due coldOnly)).port.order = [0, 1, 2, 3, 4, 5, 6, 7] := by decide +kernel

/-- A move by its bounds; its reserved amount is its length. -/
def mv (start : Pos) (length : Nat) (t : SetState) : Move :=
  { web := 0, start, stop := start + len length, length, reserved := length, st := t, chain := false, lanes := [0],
    fm := 400, gmin := 1500 }

/-- Two repeats with a move each; the first is due. -/
def chained (start : Pos) (remaining : Nat) : State :=
  let p (n : Rep) (m : Move) : Plan := { firstPlan planned with
    repeatNo := n, moves := [m], entries := [{ groupEntry 0 530130 1000 with move := some 0 }] }
  { locked with
    planner := { locked.planner with queue := [p 501 (mv 299900 6400 .due), p 502 (mv start 6400 .unsent)] }
    foil := locked.foil.set 0 { FoilAccount.powerOn with remaining, reserved := 12800 } }

def sentMove (s : State) : State := s.sendDue 1 (.fmv 501 0 (mv 299900 6400 .due))

/-- Section 4.7, step 4, and the gaps 0 and Gmin - 1, a gap that the foil does not cover, and a gap of Gmin. -/
theorem test_FoilMoveIsSent :
    ([(305900, 20000), (306300, 20000), (307799, 20000), (307799, 14298), (307800, 20000)].map
        fun x : Nat × Nat =>
          let t := sentMove (chained (BitVec.ofNat 32 x.1) x.2)
          (t.foil[(0 : Fin 4)].remaining, t.foil[(0 : Fin 4)].reserved, t.planner.queue.map fun p => p.moves.map (·.chain)))
      = [(13600, 6000, [[true], [false]]), (13600, 6400, [[true], [false]]), (12101, 6400, [[true], [false]]),
         (7898, 6400, [[false], [false]]), (13600, 6400, [[false], [false]])]
      ∧ [.unsent, .due, .sent 3, .acked, .withdrawn].map (fun t => successorIn 0 0 ([mv 5 6 (.sent 1), mv 7 8 t].map fun m =>
          { firstPlan planned with moves := [m] })) = [some (mv 7 8 .unsent), some (mv 7 8 .due), none, none, none]
      ∧ successorIn 0 0 [{ firstPlan planned with moves := [mv 1 2 .due, mv 3 4 .unsent] }] = some (mv 3 4 .unsent)
      ∧ successorIn 1 0 ((chained 305900 20000).planner.queue) = none
      ∧ ((sentMove (chained 305900 20000)).planner.queue.map fun p => p.moves.map fun m => (m.start, m.length))
          = [[(299900, 6400)], [(306300, 6000)]]
      ∧ ((sentMove (chained 306400 13899)).foil[(0 : Fin 4)].low, (sentMove (chained 306400 13900)).foil[(0 : Fin 4)].low)
          = (true, false) := by decide +kernel

theorem test_EarliestReleaseFirst :
    (∀ x ∈ (allSet .due planned).waitingSetpoints, (-1073741824 < dist (527000 : Pos) (x.release 4000)
        ∧ dist (527000 : Pos) (x.release 4000) < 1073741824)
        ∧ -1073741824 < dist (3121 : Rep) x.repeatNo ∧ dist (3121 : Rep) x.repeatNo < 1073741824)
      ∧ (let full (n : Nat) : State := { allSet .due planned with
           drives := planned.drives.set 0 { goodDrive with out := List.replicate n (aRecord 0) } }
         let silent : State := { allSet .due planned with drives := planned.drives.set 8 Drive.powerOn }
         [full 3, full 4, silent, planned].map (fun s => s.waitingSetpoints.map (·.drive.val))
           = [[8, 0, 1], [8, 1], [0, 1], []])
      ∧ (allSet .due planned).jobs.cfg.lf = 4000 ∧ (allSet .due planned).waitingSetpoints.length = 3
      ∧ dist (0 : Pos) 1073741823 = 1073741823 ∧ dist (0 : Pos) (0 - 1073741823) = -1073741823 := by decide +kernel

/-- Of two repeats with equal release positions the lower number goes first, FMVs of one web and PHS of one lane alike. -/
theorem test_lowerRepeatGoesFirst :
    let p := firstPlan (allSet .due planned)
    let first (moves : List Move) : Option Rep := (({ planned with planner := { planned.planner with
      queue := [{ p with repeatNo := 3122, moves }, { p with repeatNo := 3121, moves }] } }).nextSetpoint).map Due.repeatNo
    [p.moves, []].map first = [some 3121, some 3121] ∧ p.moves.length = 1 := by decide +kernel

theorem test_SentPayloadLayouts :
    (groupEntry 7 1 60000).length ≤ 60000 ∧ (mv 0 4294967295 .due).length < 4294967296
      ∧ ((17 : Fin 18), (7 : Fin 8)) ∈ ({ locked.attention with service := [(17, 7)] } : Attention).service
      ∧ ((({ locked.attention with service := [(17, 7)] } : Attention).service).map (·.1)).Nodup
      ∧ locked.attention.kinds[(17 : Fin 18)].count ≤ 255
      ∧ phsPayload (groupEntry 7 0x01020304 60000) 200 = [7, 200, 0, 1, 2, 3, 4, 0xEA, 0x60, 0, 0]
      ∧ fmvPayload (mv 0x01020304 6400 .due) 9 true = [0, 9, 1, 2, 3, 4, 0, 0, 0x19, 0, 1]
      ∧ (rptPayload aReport).drop 24 = [5]
      ∧ (rptPayload { aReport with lanes := #v[none, some .stamped, some (.suppressed .held), some (.suppressed .foilOut),
          some (.suppressed .overflow), some (.reject .late), some (.reject .driveFault), some (.reject .flushed)] }).drop 8
        = [0, 0, 1, 0, 2, 1, 2, 9, 2, 10, 3, 11, 3, 14, 3, 15, 5] := by decide +kernel

/-! ## Ring silence and soft reset -/

/-- The statement's invariants over a state with a plan, by their tests. -/
theorem jobConsistent_planned : planned.JobConsistent := by
  refine ⟨?_, ?_, ?_, ?_⟩ <;> decide +kernel

theorem test_RingSilenceAtEveryBlock :
    planned.worksAs 1 ∧ State.reset.worksAs 1 ∧ State.reset.port.timerOn = false ∧ planned.port.timerOn = true
      ∧ planned.JobConsistent ∧ planned.planner.st ≠ .draining ∧ (inState .draining planned).planner.st = .draining
      ∧ (after (.ringSilence {}) planned).planner.queue = [] ∧ (after (.ringSilence {}) planned).report.rpts = []
      ∧ (after (.ringSilence {}) planned).report.log.map (·.decision)
          = [.reject .flushed, .reject .flushed]
      ∧ (after (.ringSilence { drives := [0] }) planned).report.log.map (·.decision)
          = [.reject .noAck, .reject .flushed] :=
  ⟨⟨rfl, rfl⟩, ⟨rfl, rfl⟩, by decide +kernel, by decide +kernel, jobConsistent_planned, by decide +kernel⟩

/-- R178's two orders: DRIVE_SILENT waits at level 0, and RING_SILENT has the same level. -/
theorem test_silenceTakesTheAttentionUnitInEitherOrder :
    let levels := (enabled.kinds.set 2 { enabled.kinds[(2 : Fin 18)] with level := 0 })
    let s := locked.setAttention (({ enabled with kinds := levels } : Attention).raise 2 1)
    s.attention.waiting = some 2
      ∧ (after (.ringSilence {}) s).attention.waiting = some 2
      ∧ (after (.ringSilence { raiseFirst := true }) s).attention.waiting = some 0 := by decide +kernel

/-- Where no ATN waits a silence discards none and makes no selection of its own: kind 9, its level lowered after it was
displaced, is a candidate more urgent than kind 6 in service, and RING_SILENT is queued before it (R175, R178). The
premises of the statement's clause are met. -/
theorem test_silenceWithoutAWaitingAtn :
    let raised := (enabled.raise 9 1).raise 6 3
    let lowered := { raised with
      waiting := none, kinds := raised.kinds.set 9 { raised.kinds[(9 : Fin 18)] with level := 0 } }
    let s := { locked with drives := State.reset.drives, attention := lowered }
    raised.waiting = some 6 ∧ s.cycDue = [] ∧ s.planner.queue = [] ∧ s.planner.st ≠ .draining
      ∧ (∀ d : Fin 12, s.drives[d].link = .silent)
      ∧ [false, true].map (fun b => (after (.ringSilence { raiseFirst := b }) s).attention.waiting) = [some 0, some 0]
      ∧ (after (.ringSilence {}) s).attention.service = [(6, 2), (0, 0)] := by decide +kernel

theorem test_SoftResetInEveryBlock :
    planned.takes hq (rq 0 []) ∧ planned.planner.st ≠ .draining
      ∧ ({} : TakeOrder).drives = []
      ∧ (after (.softReset hq (rq 0 []) {}) planned).report.log.map (·.decision) = [.reject .flushed, .reject .flushed]
      ∧ (after (.softReset hq (rq 0 []) {}) planned).attention.kinds[(1 : Fin 18)].pending = true
      ∧ answered (.softReset hq (rq 0 []) {}) planned = [.done] := ⟨takes_of (by decide +kernel), by decide +kernel⟩

/-! ## Banks -/

def designBytes : List Byte := [0, 0, 1, 2] ++ be 4 200000 ++ be 2 60000 ++ [15, 0]

def laneBytes (trim : Int) : List Byte := [1, 63, 0, 0, 1] ++ beInt 2 trim ++ [0] ++ be 2 0 ++ be 2 100 ++ be 2 0 ++ be 2 0

def foilBytes : List Byte := [0, 0, 7] ++ be 2 2000 ++ be 2 20000 ++ be 4 2147483648

def jobBytes (lr vmin : Nat) (ncoast : Byte) : List Byte :=
  be 4 lr ++ be 2 5000 ++ be 2 2000 ++ be 2 1000 ++ [ncoast] ++ be 4 vmin

theorem test_StandbyWrites :
    (∀ q ∈ [rq 63 designBytes, rq 64 designBytes, rq 0 [0xFF], rq 0 [], rq 0 (designBytes.drop 1), rq 7 (laneBytes 1000),
        rq 127 [63], rq 3 foilBytes, { rq 0 designBytes with bank := 0 }], ready.takes hq q ∧ (armed .next ready).takes hq q)
      ∧ ready.jobs.arm = none ∧ (armed .next ready).jobs.arm.isSome = true
      ∧ [rq 63 designBytes, rq 64 designBytes, rq 0 [0xFF], rq 0 [], rq 0 designBytes.dropLast,
          { rq 0 designBytes with bank := 0 }].map (fun q => answered (.writeDesign hq q) ready)
          = [[.done], [.badIndex], [.done], [.badValue], [.badValue], [.badValue]]
      ∧ answered (.writeDesign hq (rq 63 designBytes)) (armed .next ready) = [.armed]
      ∧ [rq 7 (laneBytes 1000), rq 7 (laneBytes 1001), rq 7 (laneBytes (-1000)), rq 7 (laneBytes (-1001)),
          rq 8 (laneBytes 0), rq 0 (laneBytes 0).dropLast].map (fun q => answered (.writeLane hq q) ready)
          = [[.done], [.clamped], [.done], [.clamped], [.badIndex], [.badValue]]
      ∧ [rq 127 [63], rq 127 [64], rq 128 [63], rq 127 [0xFF], rq 0 []].map (fun q => answered (.writeSequence hq q) ready)
          = [[.done], [.badValue], [.badIndex], [.done], [.badValue]]
      ∧ [rq 3 foilBytes, rq 4 foilBytes, rq 3 [0xFF], rq 3 foilBytes.dropLast].map
          (fun q => answered (.writeFoilMap hq q) ready) = [[.done], [.badIndex], [.done], [.badValue]] :=
  ⟨fun q hq' => ⟨all_taken (by decide +kernel) q hq', all_taken (s := armed .next ready) (by decide +kernel) q hq'⟩,
    by decide +kernel⟩

/-- What the data of each write hold, and a value beyond each kind of range. -/
theorem test_recordsAreRead :
    decodeDesign designBytes = some (some {
        kind := .foil, segment := 1, web := some 2, offset := 200000, length := 60000, pressure := 15, inhibit := false })
      ∧ decodeDesign [0xFF] = some none ∧ decodeDesign [1] = none ∧ decodeDesign (designBytes.set 10 16) = none
      ∧ (decodeLane (laneBytes 1001)).map (·.trim) = some 1000 ∧ decodeLane ((laneBytes 0).set 4 17) = none
      ∧ decodeSequence [63] = some (some 63) ∧ decodeSequence [64] = none ∧ decodeSequence [0xFF] = some none
      ∧ (decodeFoil foilBytes).isSome = true ∧ decodeFoil (foilBytes.set 2 8) = none := by decide +kernel

theorem test_WriteJob :
    (∀ q ∈ [rq 0 (jobBytes 2000 500000 8), rq 0 (jobBytes 200000 0 1), rq 0 (jobBytes 1999 0 1), rq 0 (jobBytes 2000 0 9)],
        ready.takes hq q)
      ∧ [rq 9 (jobBytes 2000 500000 8), rq 0 (jobBytes 200000 0 1), rq 0 (jobBytes 1999 0 1), rq 0 (jobBytes 200001 0 1),
          rq 0 (jobBytes 2000 0 0), rq 0 (jobBytes 2000 0 9), rq 0 (jobBytes 2000 500001 1),
          rq 0 (jobBytes 2000 0 1).dropLast, { rq 0 (jobBytes 2000 0 1) with bank := 0 }].map
          (fun q => answered (.writeJob hq q) ready)
          = [[.done], [.done], [.badValue], [.badValue], [.badValue], [.badValue], [.badValue], [.badValue], [.badValue]]
      ∧ answered (.writeJob hq (rq 0 (jobBytes 2000 0 1))) (armed .next ready) = [.armed] :=
  ⟨all_taken (by decide +kernel), by decide +kernel⟩

/-- A READ by bank selector, table and entry number. -/
def rd (bank table index : Byte) : Req := { bank, table, index, data := [] }

theorem test_ReadAnswersTheEntry :
    (∀ q ∈ [rd 0 0 63, rd 1 0 64, rd 2 0 0, rd 0 6 0, rd 9 5 37, rd 0 4 0], ready.takes hq q)
      ∧ [rd 0 0 63, rd 0 0 64, rd 0 1 7, rd 1 1 8, rd 0 2 127, rd 0 2 128, rd 0 3 3, rd 0 3 4, rd 0 4 0, rd 0 4 1, rd 9 5 37,
          rd 9 5 38, rd 2 0 0, rd 0 6 0].map (fun q => answered (.read hq q) ready)
          = [[.done], [.badIndex], [.done], [.badIndex], [.done], [.badIndex], [.done], [.badIndex], [.done], [.badIndex],
             [.done], [.badIndex], [.badValue], [.badValue]]
      ∧ (Item.ofNat 37).isSome = true
      ∧ ((after (.read hq (rd 0 0 1)) ready).answers.map (·.data))
          = [[0, 1, 0, 0, 0, 0, 0, 0, 0, 100, 0x03, 0xE8, 3, 0]]
      ∧ ((after (.read hq (rd 1 0 1)) ready).answers.map (·.data)) = [[1, 1, 0xFF]] :=
  ⟨all_taken (by decide +kernel), by decide +kernel⟩

theorem test_WriteStation :
    (∀ q ∈ [rq 0 [62], rq 21 (be 4 2000000), rq 37 [0], rq 38 []], ready.takes hq q ∧ locked.takes hq q)
      ∧ [rq 0 [1], rq 0 [62], rq 0 [0xFF], rq 0 [0], rq 0 [63], rq 21 (be 4 1000), rq 21 (be 4 999), rq 21 (be 4 2000001),
          rq 37 [0], rq 38 [], rq 21 [0, 0, 0]].map (fun q => answered (.writeStation hq q) ready)
          = [[.done], [.done], [.done], [.badValue], [.badValue], [.done], [.badValue], [.badValue], [.done], [.badIndex],
             [.badValue]]
      ∧ answered (.writeStation hq (rq 0 [1])) locked = [.busy] ∧ answered (.writeStation hq (rq 38 [])) locked = [.busy]
      ∧ (Item.ofNat 37).isSome = true ∧ Item.ofNat 38 = none :=
  ⟨fun q hq' => ⟨all_taken (by decide +kernel) q hq', all_taken (s := locked) (by decide +kernel) q hq'⟩,
    by decide +kernel⟩

/-- The valid bank, and banks that fail each check, with the index: of two that fail the lower, of check 3 the design, of
check 5 the higher web of the first pair, of check 7 a lane before a web. -/
theorem test_ValidBank :
    let lane (l : Fin 8) (x : Lane) (b : Bank) : Bank := { b with lanes := b.lanes.set l x }
    let web (f : Fin 4) (x : Option FoilWeb) (b : Bank) : Bank := { b with foil := b.foil.set f x }
    let lr (n : Nat) : Bank := { jobBank with job := { jobBank.job with lr := n } }
    [jobBank, lr 1999, lr 200000, lr 200001, lane 5 (fixedLane 9) (lane 3 (fixedLane 9) jobBank),
     lane 2 { fixedLane 1 with mode := .sequence, seqStart := 127, seqLen := 2 } { jobBank with
       seq := jobBank.seq.set 127 (some 2) },
     { lr 2000 with designs := jobBank.designs.set 2 (some { coldDesign with offset := 1501 }) },
     { lr 2000 with designs := jobBank.designs.set 2 (some { coldDesign with offset := 1500 }) },
     web 0 none jobBank, web 0 (some { web0 with first := 1, last := 7 }) jobBank,
     web 3 (some web0) (web 2 (some web0) jobBank), web 1 (some { web0 with first := 1, last := 7 }) jobBank,
     lane 1 { fixedLane 2 with hi := -100 } jobBank, lane 1 { fixedLane 2 with hi := -99 } jobBank,
     web 3 (some { web0 with first := 7, last := 7 }) (lane 3 (fixedLane 2) jobBank),
     web 3 (some { web0 with first := 7, last := 7 }) jobBank,
     { jobBank with lanes := Bank.cleared.lanes, foil := Bank.cleared.foil }, Bank.cleared].map (fun b => b.validate cfg)
      = [none, some (1, 0), none, some (1, 0), some (2, 3), some (2, 2), some (3, 2), none, some (4, 0), some (4, 0),
         some (5, 2), some (7, 9), some (6, 1), none, some (7, 3), some (7, 11), some (8, 0), some (1, 0)] := by
  decide +kernel

/-! ## Changeover, START and STOP -/

/-- The job in both banks. -/
def twoJobs : State := ready.setStandby jobBank

theorem test_ArmChangeover :
    (∀ q ∈ [rq 0 [0, 0, 0, 0, 5], rq 0 [1, 0, 0, 0, 0], rq 0 [2, 0, 0, 0, 0], rq 0 [1, 0, 0, 0]],
        ready.takes hq q ∧ twoJobs.takes hq q)
      ∧ ready.standby.validate ready.jobs.cfg = some (1, 0) ∧ twoJobs.standby.validate twoJobs.jobs.cfg = none
      ∧ twoJobs.planner.st = .ready ∧ (inState .stamping twoJobs).planner.st = .stamping
      ∧ [rq 0 [0, 0, 0, 0, 5], rq 0 [1, 0, 0, 0, 0], rq 0 [2, 0, 0, 0, 0], rq 0 [1, 0, 0, 0]].map
          (fun q => answered (.armChangeover hq q) twoJobs) = [[.done], [.done], [.badValue], [.badValue]]
      ∧ answered (.armChangeover hq (rq 0 [1, 0, 0, 0, 0])) ready = [.invalid]
      ∧ (after (.armChangeover hq (rq 0 [1, 0, 0, 0, 0])) twoJobs).jobs.active = 1
      ∧ (after (.armChangeover hq (rq 0 [0, 0, 0, 0, 5])) (inState .stamping twoJobs)).jobs.arm = some (.atRepeat 5) :=
  ⟨fun q hq' => ⟨all_taken (by decide +kernel) q hq', all_taken (s := twoJobs) (by decide +kernel) q hq'⟩,
    by decide +kernel⟩

theorem test_CancelCopyClear :
    ready.takes hq (rq 0 []) ∧ (armed .next ready).takes hq (rq 0 [])
      ∧ answered (.cancelChangeover hq (rq 0 [])) (armed .next ready) = [.done]
      ∧ answered (.cancelChangeover hq (rq 0 [])) ready = [.notArmed]
      ∧ answered (.copyActiveToStandby hq (rq 0 [])) (armed .next ready) = [.armed]
      ∧ (after (.copyActiveToStandby hq (rq 0 [])) ready).standby = jobBank
      ∧ answered (.clearStandby hq (rq 0 [])) (armed .next twoJobs) = [.armed]
      ∧ (after (.clearStandby hq (rq 0 [])) twoJobs).standby = Bank.cleared :=
  ⟨takes_of (by decide +kernel), takes_of (by decide +kernel), by decide +kernel⟩

theorem test_StartAndStop :
    (∀ s ∈ [State.reset, ready, locked, planned, inState .draining planned, inState .stamping (armed .next twoJobs)],
        s.takes hq (rq 0 []))
      ∧ State.reset.planner.st = .idle ∧ ready.planner.st = .ready ∧ locked.planner.queue = [] ∧ planned.planner.queue ≠ []
      ∧ ready.active.validate ready.jobs.cfg = none
      ∧ [State.reset, ready, locked, inState .draining planned].map (answered (.start hq (rq 0 [])))
          = [[.noJob], [.done], [.done], [.done]]
      ∧ [ready, locked, planned].map (fun s => (after (.stop hq (rq 0 [])) s).planner.st) = [.ready, .ready, .draining]
      ∧ (after (.stop hq (rq 0 [])) (inState .stamping (armed .next twoJobs))).jobs.active = 1
      ∧ answered (.start hq (rq 0 [])) (ready.setActive { jobBank with foil := jobBank.foil.set 0 none }) = [.invalid] :=
  ⟨all_taking (by decide +kernel), by decide +kernel⟩

/-! ## Live fields, pitch and foil -/

theorem test_HoldReleaseTrim :
    (∀ q ∈ [rq 0 (beInt 2 (-1000)), rq 7 (beInt 2 1001), rq 8 (be 2 0), rq 0 [0]], ready.takes hq q ∧ State.reset.takes hq q)
      ∧ State.reset.active.isEmpty = true ∧ ready.active.isEmpty = false
      ∧ [rq 0 (beInt 2 (-1000)), rq 7 (beInt 2 1000), rq 0 (beInt 2 (-1001)), rq 7 (beInt 2 1001), rq 8 (be 2 0), rq 0 [0]].map
          (fun q => answered (.setTrim hq q) ready) = [[.done], [.done], [.clamped], [.clamped], [.badIndex], [.badValue]]
      ∧ (after (.setTrim hq (rq 0 (beInt 2 (-1001)))) ready).active.lanes[(0 : Fin 8)].trim = -1000
      ∧ [rq 7 [], rq 8 []].map (fun q => (answered (.holdLane hq q) ready, answered (.releaseLane hq q) ready))
          = [([.done], [.done]), ([.badIndex], [.badIndex])]
      ∧ answered (.holdLane hq (rq 0 [])) State.reset = [.noJob]
      ∧ (after (.holdLane hq (rq 1 [])) ready).active.lanes[(1 : Fin 8)].hold = true :=
  ⟨fun q hq' => ⟨all_taken (by decide +kernel) q hq', all_taken (s := State.reset) (by decide +kernel) q hq'⟩,
    by decide +kernel⟩

theorem test_SetPitch :
    (∀ q ∈ [rq 0 (be 4 1999), rq 0 (be 4 2000), rq 0 (be 4 200000), rq 0 (be 4 200001), rq 0 (be 3 0)],
        ready.takes hq q ∧ State.reset.takes hq q)
      ∧ ready.active.isEmpty = false ∧ State.reset.active.isEmpty = true
      ∧ [1999, 2000, 200000, 200001].map (fun l => (answered (.setPitch hq (rq 0 (be 4 l))) ready,
            (after (.setPitch hq (rq 0 (be 4 l))) ready).tracker.staged))
          = [([.clamped], some 2000), ([.done], some 2000), ([.done], some 200000), ([.clamped], some 200000)]
      ∧ answered (.setPitch hq (rq 0 (be 3 0))) ready = [.badValue]
      ∧ answered (.setPitch hq (rq 0 (be 4 2000))) State.reset = [.noJob] :=
  ⟨fun q hq' => ⟨all_taken (by decide +kernel) q hq', all_taken (s := State.reset) (by decide +kernel) q hq'⟩,
    by decide +kernel⟩

/-- Web 0 has threshold 1,000; `planned` holds 1,040 counts of it reserved. -/
theorem test_LoadFoil :
    (∀ q ∈ [rq 0 (be 4 2147483648), rq 0 (be 4 2147483649), rq 4 (be 4 0), rq 0 (be 3 0)], planned.takes hq q)
      ∧ planned.active.foil[(0 : Fin 4)] = some web0 ∧ planned.active.foil[(1 : Fin 4)] = none
      ∧ planned.foil[(0 : Fin 4)].low = false
      ∧ [1039, 1040, 2039, 2040, 2147483648].map (fun n => let t := after (.loadFoil hq (rq 0 (be 4 n))) planned
            (t.answers.map (·.status), t.foil[(0 : Fin 4)].remaining, t.foil[(0 : Fin 4)].low,
              t.attention.kinds[(8 : Fin 18)].pending))
          = [([.clamped], 1040, true, true), ([.done], 1040, true, true), ([.done], 2039, true, true),
             ([.done], 2040, false, false), ([.done], 2147483648, false, false)]
      ∧ [rq 0 (be 4 2147483649), rq 1 (be 4 0), rq 4 (be 4 0), rq 0 (be 3 0)].map (fun q => answered (.loadFoil hq q) planned)
          = [[.badValue], [.badIndex], [.badIndex], [.badValue]]
      ∧ (planned.setFoil (planned.foil.set 0 { planned.foil[(0 : Fin 4)] with low := true })).foil[(0 : Fin 4)].low = true :=
  ⟨all_taken (by decide +kernel), by decide +kernel⟩

/-! ## Attention -/

theorem test_EventSettings :
    (∀ q ∈ [rq 0 [0xFF, 0xFF, 0xFF], rq 0 [0, 0], rq 17 [7], rq 18 [7], rq 17 [8], rq 17 []], ready.takes hq q)
      ∧ (after (.eventEnable hq (rq 0 [0xFF, 0xFF, 0xFF])) ready).answers.map (·.data) = [[3, 0xFF, 0xFF]]
      ∧ (after (.eventEnable hq (rq 0 [0, 2, 1])) ready).answers.map (·.data) = [[0, 2, 1]]
      ∧ (after (.eventDisable hq (rq 0 [0, 2, 1])) ready).answers.map (·.data) = [[0, 0, 0]]
      ∧ answered (.eventEnable hq (rq 0 [0, 0])) ready = [.badValue]
      ∧ [rq 17 [7], rq 18 [7], rq 17 [8], rq 17 []].map (fun q => answered (.setLevel hq q) ready)
          = [[.done], [.badIndex], [.badValue], [.badValue]] := ⟨all_taken (by decide +kernel), by decide +kernel⟩

/-- Section 9.5, steps 1 to 5 and 7: what is in service and which ATN waits. -/
theorem test_attentionOfSection95 :
    let a1 := enabled.raise 9 1
    let a2 := a1.raise 6 3
    let a4 := ({ a2 with waiting := none } : Attention).raise 9 2
    let a5 := a4.raise 2 1
    let a7 := ({ a5 with waiting := none } : Attention).acknowledge 6
    let a9 := a7.acknowledge 2
    [a1, a2, a4, a5, a7, a9].map (fun a => (a.service, a.waiting))
      = [([(9, 4)], some 9), ([(6, 2)], some 6), ([(6, 2)], none), ([(6, 2), (2, 1)], some 2), ([(2, 1)], none),
         ([(9, 4)], some 9)]
      ∧ (a9.kinds[(9 : Fin 18)].count, a9.kinds[(9 : Fin 18)].detail) = (2, 2) := by decide +kernel

/-- DRIVE_SILENT in service at level 1 and MARK_MISSED pending, as after step 7 of section 9.5. -/
def nested : State := ready.setAttention
  { (((((enabled.raise 9 1).raise 6 3).raise 9 2).raise 2 1).acknowledge 6) with waiting := none }

theorem test_AckEvent :
    (∀ q ∈ [rq 2 [], rq 9 [], rq 17 [], rq 18 []], nested.takes hq q)
      ∧ nested.attention.service = [(2, 1)] ∧ nested.attention.kinds[(9 : Fin 18)].pending = true
      ∧ nested.attention.kinds[(17 : Fin 18)].pending = false
      ∧ [rq 2 [], rq 9 [], rq 17 [], rq 18 []].map (fun q => answered (.ackEvent hq q) nested)
          = [[.done], [.done], [.notPending], [.badIndex]] := ⟨all_taken (by decide +kernel), by decide +kernel⟩

/-- Section 9.5, step 8. The bytes are those of no free value, since there is a winner and one kind in service. -/
theorem test_PollEvents :
    nested.takes hq (rq 0 []) ∧ nested.attention.winner = some 9 ∧ ready.attention.winner = none
      ∧ (after (.pollEvents hq (rq 0 [])) nested).answers.map (·.data)
          = [[9 + 32 * 4, 0, 0, 0, 2, 2] ++ [0xFF] ++ [2 + 32 * 1, 0, 0, 0, 1, 1]] :=
  ⟨takes_of (by decide +kernel), by decide +kernel⟩

theorem test_SelectionAndRaising :
    enabled.winner = none ∧ (∀ k, enabled.candidate k = false) ∧ (nested.attention).winner = some 9
      ∧ (∃ m ∈ nested.attention.service, m.2 ≤ nested.attention.kinds[(9 : Fin 18)].level)
      ∧ (nested.attention.raise 0 7).service = [(2, 1), (0, 0)] ∧ nested.attention.waiting = none := by decide +kernel

/-! ## Log, watch, snapshot, identity -/

def logged : State := thirtyTwo.handOver markHandOver

theorem test_FetchLog :
    (∀ q ∈ [rq 0 [0], rq 0 [4], rq 0 [5], rq 0 []], logged.takes hq q) ∧ logged.report.log.length = 2
      ∧ [0, 1, 4].map (fun n : Byte => (after (.fetchLog hq (rq 0 [n])) logged).answers.map fun a => a.data.length)
          = [[2], [17], [32]]
      ∧ [rq 0 [5], rq 0 []].map (fun q => answered (.fetchLog hq q) logged) = [[.badValue], [.badValue]]
      ∧ (∀ r ∈ logged.report.log, -32768 ≤ r.residual ∧ r.residual < 32768)
      ∧ ((after (.fetchLog hq (rq 0 [1])) logged).answers.map (·.data))
          = [[0, 1, 0, 0, 0, 0, 0x0C, 0x31, 0, 0xFF, 0x2A, 0, 0, 0, 0, 0, 0]] :=
  ⟨all_taken (by decide +kernel), by decide +kernel⟩

theorem test_SetWatch :
    (∀ q ∈ [rq 3 [1, 7, 1, 63, 0, 2, 1, 0], rq 4 [1, 7, 1, 63, 0, 2, 1, 0], rq 0 [1, 8, 0, 0, 0, 0, 0, 0]], ready.takes hq q)
      ∧ [rq 3 [1, 7, 1, 63, 0, 2, 1, 0], rq 4 [1, 7, 1, 63, 0, 2, 1, 0], rq 0 [1, 8, 0, 0, 0, 0, 0, 0],
          rq 0 [1, 0, 0, 64, 0, 0, 0, 0], rq 0 [1, 0, 0, 0, 0, 3, 0, 0], rq 0 [1, 0, 0, 0, 0, 0, 0]].map
          (fun q => answered (.setWatch hq q) ready)
          = [[.done], [.badIndex], [.badValue], [.badValue], [.badValue], [.badValue]] :=
  ⟨all_taken (by decide +kernel), by decide +kernel⟩

theorem test_Snapshot :
    (∀ q ∈ [rq 0 [0], rq 0 [1], rq 0 [2], rq 0 [3], rq 0 []], locked.takes hq q)
      ∧ [rq 0 [0], rq 0 [1], rq 0 [2]].map (fun q => (after (.snapshot hq q) locked).answers.map (·.data.length))
          = [[58], [62], [62]]
      ∧ [rq 0 [3], rq 0 []].map (fun q => answered (.snapshot hq q) locked) = [[.badValue], [.badValue]] :=
  ⟨all_taken (by decide +kernel), by decide +kernel⟩

theorem test_Identify :
    ready.takes hq (rq 0 []) ∧ ready.port.Consistent
      ∧ (after .powerOnResetRelease (after (.powerOnReset 0) ready)).port.resetIn = false
      ∧ (after .powerOnResetRelease (after (.powerOnReset 0) ready)).port.station = none
      ∧ (after (.identify hq (rq 0 [])) ready).answers.map (·.data) = [[0x45, 0x02, 0x08, 3, 1]] := by
  refine ⟨takes_of (by decide +kernel), ⟨by decide +kernel, ?_⟩, by decide +kernel⟩
  intro b hb
  have : (1 : Byte) = b := Option.some.inj hb
  subst this
  decide

theorem test_UnknownCode :
    ready.takes hq (rq 0 []) ∧ [0, 29, 255].map (fun c : Byte => answered (.unknownRequestCode hq c (rq 0 [])) ready)
      = [[.badRequest], [.badRequest], [.badRequest]] := ⟨takes_of (by decide +kernel), by decide +kernel⟩

/-! ## Encodings and invariants -/

theorem stationInRange_of {v : Option Byte} (ok : (v.all fun b => decide (1 ≤ b.toNat) && decide (b.toNat ≤ 62)) = true) :
    StationInRange v := by
  intro b hb
  subst hb
  simpa using ok

theorem cfg_inRange : cfg.InRange := by
  refine ⟨stationInRange_of (by decide +kernel), fun k => stationInRange_of ?_, fun d => stationInRange_of ?_,
    by decide +kernel⟩
  · revert k
    decide +kernel
  · revert d
    decide +kernel

/-- The records of section 2.1 at their largest and smallest. -/
theorem test_RecordsReadBackAsWritten :
    ({ foilDesign with offset := 200000, length := 60000, pressure := 15, web := some 3 } : Design).InRange
      ∧ ({ coldDesign with offset := 0, length := 100 } : Design).InRange
      ∧ ({ mode := .sequence, slotA := 63, slotB := 63, seqStart := 127, seqLen := 16, index := 15, onB := true, trim := -1000,
           hold := true, lo := -400, hi := 3000, nsoak := 65535, ndrift := 4000 } : Lane).InRange
      ∧ ({ first := 0, last := 7, fm := 2000, gmin := 20000, low := 2147483648 } : FoilWeb).InRange
      ∧ jobBank.job.inRange = true ∧ cfg.InRange := by
  refine ⟨?_, ?_, ?_, ?_, by decide +kernel, cfg_inRange⟩
  · unfold Design.InRange
    decide +kernel
  · unfold Design.InRange
    decide +kernel
  · unfold Lane.InRange
    decide +kernel
  · unfold FoilWeb.InRange
    decide +kernel

theorem test_ResetMeetsTheInvariants : ∃ (u : State) (straps : BitVec 6), u = planned ∧ straps = 63
    ∧ (u.poweredOn straps).port.station = none := ⟨planned, 63, rfl, rfl, by decide +kernel⟩

/-- A state with a plan of two entries and a move, a setpoint sent to a cassette drive, an answer, a log record and an
event in service, with a command in front. -/
def busy : State :=
  { planned with
    pending := [.injectionSlot]
    tracker := { planned.tracker with repeatNo := 3121, mtPrev := 510030 }
    answers := [anAnswer]
    report := { logged.report with rpts := [aReport] }
    attention := nested.attention
    drives := planned.drives.set 1 { goodDrive with out := [aRecord 255], sent := true, next := 1, cycles := 255 } }

theorem busy_steps : ∃ t, step busy = .next t := ⟨_, rfl⟩

theorem test_ListsAndSequencesKept :
    busy.ListsBounded ∧ busy.port.Consistent ∧ busy.report.LogConsecutive ∧ (∀ d : Fin 12, busy.drives[d].Consistent)
      ∧ ∃ t, step busy = .next t := by
  refine ⟨?_, ⟨by decide +kernel, stationInRange_of (by decide +kernel)⟩, ?_, ?_, busy_steps⟩
  · unfold State.ListsBounded
    decide +kernel
  · unfold Report.LogConsecutive
    decide +kernel
  · unfold Drive.Consistent
    decide +kernel

theorem designs_inRange {b : Bank}
    (ok : (∀ i : Fin 64, (b.designs[i].all fun d => decide (d.offset ≤ 200000) && decide (100 ≤ d.length)
      && decide (d.length ≤ 60000) && decide (d.web.isSome = d.kind.isFoil)) = true)) :
    ∀ i : Fin 64, ∀ d, b.designs[i] = some d → d.InRange := by
  intro i d hd
  have h := ok i
  rw [hd] at h
  simp only [Option.all_some, Bool.and_eq_true, decide_eq_true_eq] at h
  exact ⟨h.1.1.1, h.1.1.2, h.1.2, h.2⟩

theorem foil_inRange {b : Bank}
    (ok : (∀ f : Fin 4, (b.foil[f].all fun w => decide (w.first ≤ w.last) && decide (w.fm ≤ 2000)
      && decide (w.gmin ≤ 20000) && decide (w.low ≤ 2147483648)) = true)) :
    ∀ f : Fin 4, ∀ w, b.foil[f] = some w → w.InRange := by
  intro f w hw
  have h := ok f
  rw [hw] at h
  simp only [Option.all_some, Bool.and_eq_true, decide_eq_true_eq] at h
  exact ⟨h.1.1.1, h.1.1.2, h.1.2, h.2⟩

theorem test_CountsKept : busy.CountsInRange ∧ ∃ t, step busy = .next t := by
  refine ⟨⟨fun b => ?_, cfg_inRange, ?_, by decide +kernel⟩, busy_steps⟩
  · refine ⟨designs_inRange ?_, ?_, foil_inRange ?_⟩
    · revert b
      decide +kernel
    · unfold Lane.InRange
      revert b
      decide +kernel
    · revert b
      decide +kernel
  · unfold Cassette.InRange
    decide +kernel

theorem test_AttentionKept : busy.attention.Consistent ∧ ∃ t, step busy = .next t := by
  refine ⟨⟨by decide +kernel, by decide +kernel, by decide +kernel, by decide +kernel⟩, busy_steps⟩

theorem test_JobAndQueueKept : busy.JobConsistent ∧ busy.QueueConsistent ∧ busy.RepeatsDistinct
    ∧ (∀ p ∈ busy.planner.queue, ∀ k : Nat, 1 ≤ k → k ≤ 256 → p.repeatNo ≠ busy.tracker.repeatNo + BitVec.ofNat 32 k)
    ∧ ∃ t, step busy = .next t := by
  refine ⟨jobConsistent_planned, queueConsistent_of (by decide +kernel), repeatsDistinct_of (by decide +kernel), ?_,
    busy_steps⟩
  have far : ∀ k < 257, ∀ p ∈ busy.planner.queue, 1 ≤ k → p.repeatNo ≠ busy.tracker.repeatNo + BitVec.ofNat 32 k := by
    decide +kernel
  exact fun p hp k h1 h2 => far k (by omega) p hp h1

/-- `busy` with an FMV of repeat 3,120, which has left the queue, outstanding on foil drive 0. -/
def outstanding : State :=
  { busy with drives := busy.drives.set 8 { goodDrive with
      out := [{ seq := 0, age := 1, item := .fmv 3120 0 }], sent := true, next := 1 } }

theorem test_FoilKept : outstanding.FoilConsistent ∧ outstanding.planner.queue ≠ [] ∧ outstanding.RecordsSent
    ∧ (∀ d : Fin 12, ∀ r ∈ outstanding.drives[d].out, ∀ k i : Nat, 1 ≤ k → k ≤ 256 →
        r.item ≠ .fmv (outstanding.tracker.repeatNo + BitVec.ofNat 32 k) i)
    ∧ ∃ t, step outstanding = .next t := by
  refine ⟨⟨?_, ?_⟩, by decide +kernel, ?_, ?_, ⟨_, rfl⟩⟩
  · decide +kernel
  · decide +kernel
  · unfold State.RecordsSent
    decide +kernel
  · have far : ∀ k < 257, 1 ≤ k → ∀ d : Fin 12, ∀ r ∈ outstanding.drives[d].out,
        (match r.item with | .phs _ _ => true | .fmv n _ => n != outstanding.tracker.repeatNo + BitVec.ofNat 32 k)
          = true := by
      decide +kernel
    intro d r hr k i h1 h2 he
    have := far k (by omega) h1 d r hr
    rw [he] at this
    simp at this

theorem test_TrackerKept : busy.TrackerConsistent ∧ ∃ t, step busy = .next t := by
  refine ⟨⟨by decide +kernel, by decide +kernel, by decide +kernel, by decide +kernel, by decide +kernel, ?_⟩, busy_steps⟩
  have none : busy.tracker.staged = none := by decide +kernel
  intro l hl
  rw [none] at hl
  cases hl

end Sys2Proof.Tests
end

/-! ## SET PITCH (R22) -/

namespace Sys2Proof.Machine

/-! ### Replies of a request -/

/-- Data that stop before the end of what the code reads (R161). -/
theorem needData_short {n : Nat} {q : Req} (short : q.data.length < n) (act : Act) (s : State) :
    needData n act q s = reply s .badValue := if_pos short

/-- Data that hold all the code reads leave the request to its owning rule (R161). -/
theorem needData_enough {n : Nat} {q : Req} (enough : n ≤ q.data.length) (act : Act) (s : State) :
    needData n act q s = act q s := if_neg (Nat.not_lt.mpr enough)

/-- A request that is taken and replied to without data (R159). -/
theorem request_of_reply {s t : State} {h : Header} {q : Req} {act : Act} {st : Status} (taken : s.takes h q)
    (e : act q s = reply t st) (code : Byte) : s.request h code q act = t.answered h code st [] := by
  rw [request_of_takes taken, e]
  rfl

/-! ### The act of SET PITCH -/

/-- The tracker with a pitch staged in place of any value staged before (R22). -/
def State.stagePitch (s : State) (v : Nat) : State := s.setTracker { s.tracker with staged := some v }

section
variable {s : State} {q : Req}

theorem actSetPitch_noJob (data : 4 ≤ q.data.length) (empty : s.active.isEmpty = true) :
    actSetPitch q s = reply s .noJob := by
  rw [actSetPitch, needData_enough data, if_pos empty]

/-- Over a job the length is staged, brought into its range (R22). -/
theorem actSetPitch_job (data : 4 ≤ q.data.length) (job : s.active.isEmpty = false) :
    actSetPitch q s =
      reply (s.stagePitch (min 200000 (max 2000 (field q.data 0 4))))
        (clampStatus (decide (field q.data 0 4 < 2000 ∨ 200000 < field q.data 0 4))) := by
  rw [actSetPitch, needData_enough data, if_neg (Bool.eq_false_iff.mp job)]
  rfl

theorem actSetPitch_low (data : 4 ≤ q.data.length) (job : s.active.isEmpty = false) (low : field q.data 0 4 < 2000) :
    actSetPitch q s = reply (s.stagePitch 2000) .clamped := by
  have value : min 200000 (max 2000 (field q.data 0 4)) = 2000 := by omega
  simp [actSetPitch_job data job, value, low, clampStatus]

theorem actSetPitch_high (data : 4 ≤ q.data.length) (job : s.active.isEmpty = false)
    (high : 200000 < field q.data 0 4) : actSetPitch q s = reply (s.stagePitch 200000) .clamped := by
  have value : min 200000 (max 2000 (field q.data 0 4)) = 200000 := by omega
  simp [actSetPitch_job data job, value, high, clampStatus]

theorem actSetPitch_inRange (data : 4 ≤ q.data.length) (job : s.active.isEmpty = false)
    (least : 2000 ≤ field q.data 0 4) (most : field q.data 0 4 ≤ 200000) :
    actSetPitch q s = reply (s.stagePitch (field q.data 0 4)) .done := by
  have value : min 200000 (max 2000 (field q.data 0 4)) = field q.data 0 4 := by omega
  have inside : ¬(field q.data 0 4 < 2000 ∨ 200000 < field q.data 0 4) := by omega
  simp [actSetPitch_job data job, value, inside, clampStatus]

end

theorem exec_setPitch (s : State) (h : Header) (q : Req) :
    exec (.setPitch h q) s = .next (s.request h 0x11 q actSetPitch) := rfl

/-- A SET PITCH that is taken: the state of its act, with the act's status answered (R159). -/
theorem exec_setPitch_of_act {s t : State} {h : Header} {q : Req} {st : Status} (taken : s.takes h q)
    (act : actSetPitch q s = reply t st) : exec (.setPitch h q) s = .next (t.answered h 0x11 st []) := by
  rw [exec_setPitch, request_of_reply taken act]

/-- Settles O41: the data are tested first, then the bank, then the length against both ends of its range. -/
theorem setPitch : Obligations.SetPitch := by
  intro s h q taken
  refine ⟨fun short => ?badValue, fun data empty => ?noJob, fun data job => ⟨fun low => ?low, fun high => ?high,
    fun least most => ?inRange⟩⟩
  case badValue => exact exec_setPitch_of_act taken (needData_short short _ s)
  case noJob => exact exec_setPitch_of_act taken (actSetPitch_noJob data empty)
  case low => exact exec_setPitch_of_act taken (actSetPitch_low data job low)
  case high => exact exec_setPitch_of_act taken (actSetPitch_high data job high)
  case inRange => exact exec_setPitch_of_act taken (actSetPitch_inRange data job least most)

end Sys2Proof.Machine

/-! ## CLEAR STANDBY (R48) and WRITE JOB (R33) -/

namespace Sys2Proof.Machine

/-! ### The two banks -/

/-- The banks are two, and the pointer names one of them (R27). -/
theorem Jobs.standbyNo_ne_active (j : Jobs) : j.standbyNo ≠ j.active := by
  unfold Jobs.standbyNo
  split <;> omega

@[simp] theorem State.setStandby_standby (s : State) (b : Bank) : (s.setStandby b).standby = b :=
  Vector.getElem_set_self _

/-- Writing the standby bank leaves the active one alone (R27). -/
@[simp] theorem State.setStandby_active (s : State) (b : Bank) : (s.setStandby b).active = s.active := by
  have other : s.jobs.standbyNo.val ≠ s.jobs.active.val := fun e => s.jobs.standbyNo_ne_active (Fin.ext e)
  exact Vector.getElem_set_ne s.jobs.standbyNo.isLt s.jobs.active.isLt other

@[simp] theorem State.setStandby_cfg (s : State) (b : Bank) : (s.setStandby b).jobs.cfg = s.jobs.cfg := rfl

/-! ### The cleared contents of a bank (R27) -/

@[simp] theorem Bank.cleared_design (i : Fin 64) : Bank.cleared.designs[i] = none := Vector.getElem_replicate _
@[simp] theorem Bank.cleared_lane (l : Fin 8) : Bank.cleared.lanes[l] = Lane.cleared := Vector.getElem_replicate _
@[simp] theorem Bank.cleared_seq (i : Fin 128) : Bank.cleared.seq[i] = none := Vector.getElem_replicate _
@[simp] theorem Bank.cleared_foil (f : Fin 4) : Bank.cleared.foil[f] = none := Vector.getElem_replicate _

/-! ### The act of CLEAR STANDBY -/

theorem actClearStandby_armed {s : State} (armed : s.jobs.arm.isSome = true) (q : Req) :
    actClearStandby q s = reply s .armed := if_pos armed

theorem actClearStandby_unarmed {s : State} (unarmed : s.jobs.arm = none) (q : Req) :
    actClearStandby q s = reply (s.setStandby Bank.cleared) .done := by
  simp [actClearStandby, unarmed]

theorem exec_clearStandby (s : State) (h : Header) (q : Req) :
    exec (.clearStandby h q) s = .next (s.request h 0x0B q actClearStandby) := rfl

/-- Settles O38: the bank written is the cleared one, and the standby bank is not the active one. -/
theorem clearStandby : Obligations.ClearStandby := by
  intro s h q taken
  refine ⟨fun armed => ?armed, fun unarmed => ⟨Bank.cleared, ?done, s.setStandby_standby _, s.setStandby_active _,
    s.setStandby_cfg _, Bank.cleared_design, Bank.cleared_seq, Bank.cleared_foil, Bank.cleared_lane, rfl⟩⟩
  case armed => rw [exec_clearStandby, request_of_reply taken (actClearStandby_armed armed q)]
  case done => rw [exec_clearStandby, request_of_reply taken (actClearStandby_unarmed unarmed q)]

/-! ### The data of WRITE JOB -/

/-- The six parameters that the data of a WRITE JOB spell, whatever their ranges (section 10.4). -/
def Job.ofData (d : List Byte) : Job :=
  { lr := field d 0 4, w := field d 4 2, cmax := field d 6 2, tol := field d 8 2,
    ncoast := (byteAt d 10).toNat, vmin := field d 11 4 }

/-- Every parameter in its range, one by one (section 2.1.5). -/
theorem Job.inRange_iff (j : Job) : j.inRange = true ↔
    (2000 ≤ j.lr ∧ j.lr ≤ 200000) ∧ (50 ≤ j.w ∧ j.w ≤ 5000) ∧ (1 ≤ j.cmax ∧ j.cmax ≤ 2000)
      ∧ j.tol ≤ 1000 ∧ (1 ≤ j.ncoast ∧ j.ncoast ≤ 8) ∧ j.vmin ≤ 500000 := by
  rw [Job.inRange, decide_eq_true_eq]
  simp only [Config.maxSpeed, and_assoc]

theorem decodeJob_inRange {d : List Byte} (good : (Job.ofData d).inRange = true) :
    decodeJob d = some (Job.ofData d) := if_pos good

theorem decodeJob_outOfRange {d : List Byte} (bad : ¬(Job.ofData d).inRange = true) : decodeJob d = none := if_neg bad

/-! ### The act of WRITE JOB -/

section
variable {s : State} {q : Req}

theorem actWriteJob_armed (data : 15 ≤ q.data.length) (armed : s.jobs.arm.isSome = true) :
    actWriteJob q s = reply s .armed := by
  rw [actWriteJob, needData_enough data, if_pos armed]

theorem actWriteJob_otherBank (data : 15 ≤ q.data.length) (unarmed : s.jobs.arm = none) (bank : q.bank ≠ 1) :
    actWriteJob q s = reply s .badValue := by
  have other : q.bank ≠ standbySelector := bank
  rw [actWriteJob, needData_enough data, if_neg (by simp [unarmed]), if_pos other]

/-- With no changeover armed and STANDBY selected the data alone decide; the entry number is not read (R29, R33). -/
theorem actWriteJob_standby (data : 15 ≤ q.data.length) (unarmed : s.jobs.arm = none) (bank : q.bank = 1) :
    actWriteJob q s = (decodeJob q.data).elim (reply s .badValue)
      (fun j => reply (s.setStandby { s.standby with job := j }) .done) := by
  have same : ¬q.bank ≠ standbySelector := not_not.mpr bank
  rw [actWriteJob, needData_enough data, if_neg (by simp [unarmed]), if_neg same]
  cases decodeJob q.data <;> rfl

/-- One parameter outside its range, and none is written (R33). -/
theorem actWriteJob_outOfRange (data : 15 ≤ q.data.length) (unarmed : s.jobs.arm = none) (bank : q.bank = 1)
    (bad : ¬(Job.ofData q.data).inRange = true) : actWriteJob q s = reply s .badValue := by
  rw [actWriteJob_standby data unarmed bank, decodeJob_outOfRange bad, Option.elim_none]

theorem actWriteJob_inRange (data : 15 ≤ q.data.length) (unarmed : s.jobs.arm = none) (bank : q.bank = 1)
    (good : (Job.ofData q.data).inRange = true) :
    actWriteJob q s = reply (s.setStandby { s.standby with job := Job.ofData q.data }) .done := by
  rw [actWriteJob_standby data unarmed bank, decodeJob_inRange good, Option.elim_some]

end

theorem exec_writeJob (s : State) (h : Header) (q : Req) :
    exec (.writeJob h q) s = .next (s.request h 0x05 q actWriteJob) := rfl

/-- A WRITE JOB that is taken: the state of its act, with the act's status answered (R159). -/
theorem exec_writeJob_of_act {s t : State} {h : Header} {q : Req} {st : Status} (taken : s.takes h q)
    (act : actWriteJob q s = reply t st) : exec (.writeJob h q) s = .next (t.answered h 0x05 st []) := by
  rw [exec_writeJob, request_of_reply taken act]

/-- Settles O32: the length of the data, the arm, the bank selector and the six ranges are tested in this order. -/
theorem writeJob : Obligations.WriteJob := by
  intro s h q taken j good
  have ranges : (Job.ofData q.data).inRange = true ↔ good := Job.inRange_iff j
  refine ⟨fun short => ?short, fun data armed => ?armed, fun data unarmed refused => ?refused,
    fun data unarmed bank ok => ?written⟩
  case short => exact exec_writeJob_of_act taken (needData_short short _ s)
  case armed => exact exec_writeJob_of_act taken (actWriteJob_armed data armed)
  case refused =>
    by_cases bank : q.bank = 1
    · have bad : ¬good := refused.resolve_left (not_not.mpr bank)
      exact exec_writeJob_of_act taken (actWriteJob_outOfRange data unarmed bank (mt ranges.mp bad))
    · exact exec_writeJob_of_act taken (actWriteJob_otherBank data unarmed bank)
  case written => exact exec_writeJob_of_act taken (actWriteJob_inRange data unarmed bank (ranges.mpr ok))

end Sys2Proof.Machine

/-! ## LOAD FOIL (R104) -/

namespace Sys2Proof.Machine

/-! ### The index of a request -/

theorem reqNumber_past {q : Req} {n : Nat} (past : n ≤ q.index.toNat) : reqNumber q n = none :=
  dif_neg (Nat.not_lt.mpr past)

theorem reqNumber_of_eq {q : Req} {n : Nat} {i : Fin n} (e : q.index.toNat = i.val) : reqNumber q n = some i := by
  have inside : q.index.toNat < n := e ▸ i.isLt
  exact (dif_pos inside).trans (congrArg some (Fin.ext e))

theorem clampStatus_decide (p : Prop) [Decidable p] : clampStatus (decide p) = if p then .clamped else .done := by
  simp only [clampStatus, decide_eq_true_eq]

/-! ### One web's account changed -/

theorem State.modFoil_foil_same (s : State) (f : Fin 4) (g : FoilAccount → FoilAccount) :
    (s.modFoil f g).foil[f] = g s.foil[f] := Vector.getElem_set_self _

/-- Two changes of one web's account are one change, which need only agree with them on the account that stands there. -/
theorem State.modFoil_modFoil {s : State} {f : Fin 4} {g k m : FoilAccount → FoilAccount}
    (e : k (g s.foil[f]) = m s.foil[f]) : (s.modFoil f g).modFoil f k = s.modFoil f m := by
  have twice : (s.modFoil f g).modFoil f k = s.setFoil ((s.foil.set f (g s.foil[f])).set f (k (g s.foil[f]))) :=
    congrArg (fun a => s.setFoil ((s.foil.set f (g s.foil[f])).set f (k a))) (s.modFoil_foil_same f g)
  rw [twice, Vector.set_set, e]
  rfl

theorem State.webEntry_of_present {s : State} {f : Fin 4} {w : FoilWeb} (present : s.active.foil[f] = some w) :
    s.webEntry f = w := by
  rw [State.webEntry, present, Option.getD_some]

/-! ### The low test both ways -/

section
variable {s : State} {f : Fin 4}

/-- At or above the threshold the flag is cleared (R104). -/
theorem State.loadTest_enough (enough : ¬s.foil[f].available < (s.webEntry f).low) :
    s.loadTest f = s.modFoil f fun a => { a with low := false } := if_pos (Nat.not_lt.mp enough)

theorem State.loadTest_under (under : s.foil[f].available < (s.webEntry f).low) : s.loadTest f = s.lowTest f :=
  if_neg (Nat.not_le.mpr under)

/-- One fall below the threshold raises FOIL_LOW once (R96). -/
theorem State.lowTest_alreadyLow (low : s.foil[f].low = true) : s.lowTest f = s :=
  if_neg fun falls => Bool.false_ne_true (falls.2.symm.trans low)

theorem State.lowTest_falls (under : s.foil[f].available < (s.webEntry f).low) (clear : s.foil[f].low = false) :
    s.lowTest f = (s.modFoil f fun a => { a with low := true }).raise 8 (BitVec.ofNat 32 f.val) :=
  if_pos ⟨under, clear⟩

end

/-! ### A roll loaded -/

/-- The account with a roll of `n` counts loaded: remaining no less than reserved (R104). -/
def FoilAccount.load (a : FoilAccount) (n : Nat) : FoilAccount :=
  { a with remaining := if n < a.reserved then a.reserved else n }

/-- The account with a roll loaded and the low flag as the low test leaves it (R104). -/
def FoilAccount.loadLow (a : FoilAccount) (n : Nat) (low : Bool) : FoilAccount := { a.load n with low }

/-- A loaded account whose flag the test leaves alone. -/
theorem FoilAccount.load_eq_loadLow (a : FoilAccount) (n : Nat) : a.load n = a.loadLow n a.low := rfl

section
variable {s : State} {f : Fin 4} {w : FoilWeb} {n : Nat}

/-- The low test of a load sees the available foil with the roll loaded, and the threshold as it stood. -/
theorem State.load_under_iff (present : s.active.foil[f] = some w) :
    (s.modFoil f (·.load n)).foil[f].available < ((s.modFoil f (·.load n)).webEntry f).low
      ↔ (s.foil[f].load n).available < w.low := by
  have threshold : (s.modFoil f (·.load n)).webEntry f = w := State.webEntry_of_present present
  rw [State.modFoil_foil_same, threshold]

/-- A load itself leaves the low flag as it was. -/
theorem State.load_low (s : State) (f : Fin 4) (n : Nat) :
    (s.modFoil f (·.load n)).foil[f].low = s.foil[f].low := by
  rw [State.modFoil_foil_same, FoilAccount.load]

theorem State.load_loadTest_enough (present : s.active.foil[f] = some w)
    (enough : ¬(s.foil[f].load n).available < w.low) :
    (s.modFoil f (·.load n)).loadTest f = s.modFoil f (·.loadLow n false) := by
  rw [State.loadTest_enough (mt (State.load_under_iff present).mp enough)]
  exact State.modFoil_modFoil rfl

theorem State.load_loadTest_alreadyLow (present : s.active.foil[f] = some w)
    (under : (s.foil[f].load n).available < w.low) (low : s.foil[f].low = true) :
    (s.modFoil f (·.load n)).loadTest f = s.modFoil f (·.loadLow n true) := by
  have same : s.foil[f].load n = s.foil[f].loadLow n true := by rw [FoilAccount.load_eq_loadLow, low]
  rw [State.loadTest_under ((State.load_under_iff present).mpr under),
    State.lowTest_alreadyLow ((s.load_low f n).trans low), State.modFoil, same]
  rfl

theorem State.load_loadTest_falls (present : s.active.foil[f] = some w)
    (under : (s.foil[f].load n).available < w.low) (clear : s.foil[f].low = false) :
    (s.modFoil f (·.load n)).loadTest f = (s.modFoil f (·.loadLow n true)).raise 8 (BitVec.ofNat 32 f.val) := by
  have below := (State.load_under_iff present).mpr under
  rw [State.loadTest_under below, State.lowTest_falls below ((s.load_low f n).trans clear)]
  exact congrArg (State.raise · 8 _) (State.modFoil_modFoil rfl)

end

/-! ### The act of LOAD FOIL -/

section
variable {s : State} {q : Req} {f : Fin 4}

theorem actLoadFoil_past (data : 4 ≤ q.data.length) (past : 4 ≤ q.index.toNat) :
    actLoadFoil q s = reply s .badIndex := by
  rw [actLoadFoil, needData_enough data, reqNumber_past past]

/-- With data enough and a web named, the foil map, the length and the account decide (R104). -/
theorem actLoadFoil_web (data : 4 ≤ q.data.length) (web : q.index.toNat = f.val) :
    actLoadFoil q s =
      if s.active.foil[f].isNone then reply s .badIndex
      else if 2147483648 < field q.data 0 4 then reply s .badValue
      else reply ((s.modFoil f (·.load (field q.data 0 4))).loadTest f)
        (if field q.data 0 4 < s.foil[f].reserved then .clamped else .done) := by
  rw [actLoadFoil, needData_enough data, reqNumber_of_eq web]
  simp only [clampStatus_decide, max_def_lt]
  rfl

theorem actLoadFoil_absent (data : 4 ≤ q.data.length) (web : q.index.toNat = f.val)
    (absent : s.active.foil[f] = none) : actLoadFoil q s = reply s .badIndex := by
  rw [actLoadFoil_web data web, if_pos (Option.isNone_iff_eq_none.mpr absent)]

variable {w : FoilWeb}

theorem actLoadFoil_present (data : 4 ≤ q.data.length) (web : q.index.toNat = f.val)
    (present : s.active.foil[f] = some w) :
    actLoadFoil q s =
      if 2147483648 < field q.data 0 4 then reply s .badValue
      else reply ((s.modFoil f (·.load (field q.data 0 4))).loadTest f)
        (if field q.data 0 4 < s.foil[f].reserved then .clamped else .done) := by
  rw [actLoadFoil_web data web, if_neg (by simp [present])]

theorem actLoadFoil_tooLong (data : 4 ≤ q.data.length) (web : q.index.toNat = f.val)
    (present : s.active.foil[f] = some w) (long : 2147483648 < field q.data 0 4) :
    actLoadFoil q s = reply s .badValue := by
  rw [actLoadFoil_present data web present, if_pos long]

/-- A length that is taken: the account loaded, then the low test (R104). -/
theorem actLoadFoil_loads (data : 4 ≤ q.data.length) (web : q.index.toNat = f.val)
    (present : s.active.foil[f] = some w) (most : field q.data 0 4 ≤ 2147483648) :
    actLoadFoil q s = reply ((s.modFoil f (·.load (field q.data 0 4))).loadTest f)
      (if field q.data 0 4 < s.foil[f].reserved then .clamped else .done) := by
  rw [actLoadFoil_present data web present, if_neg (Nat.not_lt.mpr most)]

end

theorem exec_loadFoil (s : State) (h : Header) (q : Req) :
    exec (.loadFoil h q) s = .next (s.request h 0x12 q actLoadFoil) := rfl

/-- A LOAD FOIL that is taken: the state of its act, with the act's status answered (R159). -/
theorem exec_loadFoil_of_act {s t : State} {h : Header} {q : Req} {st : Status} (taken : s.takes h q)
    (act : actLoadFoil q s = reply t st) : exec (.loadFoil h q) s = .next (t.answered h 0x12 st []) := by
  rw [exec_loadFoil, request_of_reply taken act]

/-- Settles O42: the data, the web, the foil map and the length are tested in this order; then the roll is loaded, and the
low test has three outcomes: enough foil, already low, and a fall below the threshold. -/
theorem loadFoil : Obligations.LoadFoil := by
  intro s h q taken n
  refine ⟨fun short => ?short, fun data past => ?past, fun f data web => ⟨fun absent => ?absent, fun w present =>
    ⟨fun long => ?tooLong, fun most => ?loads⟩⟩⟩
  case short => exact exec_loadFoil_of_act taken (needData_short short _ s)
  case past => exact exec_loadFoil_of_act taken (actLoadFoil_past data past)
  case absent => exact exec_loadFoil_of_act taken (actLoadFoil_absent data web absent)
  case tooLong => exact exec_loadFoil_of_act taken (actLoadFoil_tooLong data web present long)
  case loads =>
    have answers := exec_loadFoil_of_act taken (actLoadFoil_loads data web present most)
    refine ⟨fun enough => ?enough, fun under low => ?alreadyLow, fun under clear => ?falls⟩
    case enough => rw [answers, State.load_loadTest_enough present enough]; rfl
    case alreadyLow => rw [answers, State.load_loadTest_alreadyLow present under low]; rfl
    case falls => rw [answers, State.load_loadTest_falls present under clear]; rfl

end Sys2Proof.Machine

/-! ## IDENTIFY (R164) -/

namespace Sys2Proof.Machine

/-! ### The own station number -/

/-- A station number that the part works as is in the range of the straps (R149). -/
theorem Port.Consistent.own_inRange {s : State} {own : Byte} (consistent : s.port.Consistent)
    (works : s.worksAs own) : 1 ≤ own.toNat ∧ own.toNat ≤ 62 := by
  obtain ⟨_, inRange⟩ := consistent
  obtain ⟨_, station⟩ := works
  exact inRange own station

/-! ### The act of IDENTIFY -/

/-- At a part that works the act answers the station number the part works as, and leaves the state as it is (R164). -/
theorem actIdentify_works {s : State} {own : Byte} (works : s.worksAs own) (q : Req) :
    actIdentify q s = (s, .done [0x45, 0x02, 0x08, 3, own]) := by
  obtain ⟨_, station⟩ := works
  rw [actIdentify, station, Option.getD_some]

theorem exec_identify (s : State) (h : Header) (q : Req) :
    exec (.identify h q) s = .next (s.request h 0x1B q actIdentify) := rfl

/-! ### A request in through-only state -/

/-- A request that meets through-only state is passed on with its bytes, whatever its code (R149). -/
theorem request_throughOnly {s : State} (released : s.port.resetIn = false) (through : s.port.station = none)
    (h : Header) (code : Byte) (q : Req) (act : Act) :
    s.request h code q act = s.forward (requestFrame h code q).bytes :=
  arrive_throughOnly released through _ _ _ _

/-- A forwarded frame leaves the answer list as it is (R148). -/
@[simp] theorem State.forward_answers (s : State) (raw : List Byte) : (s.forward raw).answers = s.answers := rfl

/-! ### With and without a station number -/

/-- Settles O50: a working part that takes the request answers with its own station number; a part in through-only state
passes the request on. -/
theorem identify : Obligations.Identify := by
  refine ⟨fun s h q taken => ?answers, fun s h q released through => ?noAnswer⟩
  case answers =>
    have ⟨works, _⟩ := taken
    have ⟨_, station⟩ := works
    refine ⟨?done, station, fun consistent => consistent.own_inRange works⟩
    rw [exec_identify, request_of_takes taken, actIdentify_works works]
    rfl
  case noAnswer =>
    refine ⟨s.forward (requestFrame h 0x1B q).bytes, ?passedOn, s.forward_answers _⟩
    rw [exec_identify, request_throughOnly released through]

end Sys2Proof.Machine

/-! ## ACK EVENT (R176) -/

namespace Sys2Proof.Machine

/-! ### The attention unit at an acknowledgement -/

namespace Attention
variable (a : Attention) (k : Fin 18)

/-- A kind is in service when the in-service set has it, at whatever service level (R173). -/
theorem inService_iff : a.inService k = true ↔ ∃ m ∈ a.service, m.1 = k := by
  simp only [inService, List.any_eq_true, beq_iff_eq]

/-- The unit as the selection of an acknowledgement finds it, all three parts written out: leaving service does not touch
the cells, and clearing the cell does not touch the in-service set or the waiting ATN (R176). -/
theorem acknowledge_eq_select : a.acknowledge k = Attention.select
    { kinds := a.kinds.set k { a.kinds[k] with pending := false, count := 0 }
      service := a.service.filter fun m => m.1 != k
      waiting := if a.waiting = some k then none else a.waiting } := rfl

end Attention

/-! ### The act of ACK EVENT -/

section
variable {s : State} {q : Req}

theorem actAckEvent_past (past : 18 ≤ q.index.toNat) : actAckEvent q s = reply s .badIndex := by
  rw [actAckEvent, reqNumber_past past]

variable {k : Fin 18}

/-- A kind that the index names is answered by its state alone (R176). -/
theorem actAckEvent_kind (kind : q.index.toNat = k.val) : actAckEvent q s =
    if s.attention.inService k || s.attention.kinds[k].pending then
      reply (s.setAttention (s.attention.acknowledge k)) .done
    else reply s .notPending := by
  rw [actAckEvent, reqNumber_of_eq kind]

theorem actAckEvent_active (kind : q.index.toNat = k.val)
    (active : (∃ m ∈ s.attention.service, m.1 = k) ∨ s.attention.kinds[k].pending = true) :
    actAckEvent q s = reply (s.setAttention (s.attention.acknowledge k)) .done := by
  rw [← Attention.inService_iff, ← Bool.or_eq_true] at active
  rw [actAckEvent_kind kind, if_pos active]

theorem actAckEvent_idle (kind : q.index.toNat = k.val) (unserved : ¬∃ m ∈ s.attention.service, m.1 = k)
    (clear : s.attention.kinds[k].pending = false) : actAckEvent q s = reply s .notPending := by
  rw [← Attention.inService_iff, Bool.not_eq_true] at unserved
  rw [actAckEvent_kind kind, unserved, clear, Bool.or_false, if_neg Bool.false_ne_true]

end

theorem exec_ackEvent (s : State) (h : Header) (q : Req) :
    exec (.ackEvent h q) s = .next (s.request h 0x16 q actAckEvent) := rfl

/-- An ACK EVENT that is taken: the state of its act, with the act's status answered (R159). -/
theorem exec_ackEvent_of_act {s t : State} {h : Header} {q : Req} {st : Status} (taken : s.takes h q)
    (act : actAckEvent q s = reply t st) : exec (.ackEvent h q) s = .next (t.answered h 0x16 st []) := by
  rw [exec_ackEvent, request_of_reply taken act]

/-- Settles O44: the index is tested first, then whether the kind is in service or pending. -/
theorem ackEvent : Obligations.AckEvent := by
  intro s h q taken
  refine ⟨fun past => ?badIndex, fun k kind => ⟨fun active => ?done, fun unserved clear => ?notPending⟩⟩
  case badIndex => exact exec_ackEvent_of_act taken (actAckEvent_past past)
  case done => rw [exec_ackEvent_of_act taken (actAckEvent_active kind active), Attention.acknowledge_eq_select]
  case notPending => exact exec_ackEvent_of_act taken (actAckEvent_idle kind unserved clear)

end Sys2Proof.Machine

/-! ## What is kept along a step

A property of states is kept along a step when each act that a command is made of keeps it. The acts are listed once,
with what is known where they occur, in the structures below; that their compositions keep the property is proved once,
up to `Kept.step`. The number that indexes a family of properties counts the marks that the rest of the step may take:
repeat numbers wrap, and some properties hold only while few enough numbers have been given out. -/

namespace Sys2Proof.Machine

/-! ### Decisions -/

/-- Kept by the decision of an entry, and by the closing of a plan that a flush finds without an undecided entry. -/
structure KeptByDecisions (P : State → Prop) : Prop where
  decide : ∀ s n l d reports, P s → P (s.decideEntry n l d reports) := by intros; assumption
  closeDone : ∀ s p rest reports, s.planner.queue = p :: rest → p.done = true → P s → P (s.closePlan p reports) := by
    intros; assumption

/-- A property goes through a fold when each of its steps keeps it. -/
theorem foldl_keeps {α β : Type} {P : β → Prop} {f : β → α → β} (h : ∀ s x, P s → P (f s x)) :
    ∀ (xs : List α) (s : β), P s → P (xs.foldl f s)
  | [], _, p => p
  | x :: xs, s, p => foldl_keeps h xs (f s x) (h s x p)

/-- A plan without an undecided entry has nothing for a flush to decide. -/
theorem Plan.openKeys_of_done {p : Plan} (done : p.done = true) : p.openKeys = [] := by
  have none : p.entries.filter (·.undecided) = [] := by
    rw [List.filter_eq_nil_iff]
    simpa [Plan.done] using done
  simp [Plan.openKeys, none]

namespace KeptByDecisions
variable {P : State → Prop} (k : KeptByDecisions P) {s : State}
include k

theorem decideAll (keys : List EntryKey) (d : Decision) (reports : Bool) (p : P s) : P (s.decideAll keys d reports) :=
  foldl_keeps (fun s (key : EntryKey) => k.decide s key.1 key.2 d reports) keys s p

theorem notice (d : Fin 12) (r : Reason) (p : P s) : P (s.notice d r) := k.decideAll _ _ _ p

theorem flushHead (reports : Bool) (p : P s) : P (s.flushHead reports) := by
  unfold State.flushHead
  split
  · exact p
  next q rest queue =>
    unfold State.closeSpent
    split
    next done =>
      rw [Plan.openKeys_of_done done]
      exact k.closeDone s q rest reports queue done p
    · exact k.decideAll _ _ _ p

theorem flushPlans (reports : Bool) : ∀ (n : Nat) {s : State}, P s → P (State.flushPlans reports n s)
  | 0, _, p => p
  | n + 1, _, p => flushPlans reports n (k.flushHead reports p)

theorem flush (cause : FlushCause) (reports : Bool) (raised : ∀ s d, P s → P (s.raise Event.planFlushed d)) (p : P s) :
    P (s.flush cause reports) := by
  unfold State.flush
  split
  · exact k.flushPlans reports _ p
  · exact raised _ _ (k.flushPlans reports _ p)

end KeptByDecisions

/-! ### The planner's tests -/

/-- Kept by the acts of the planner's pass over a cycle frame: the decisions, a move that served no undecided entry
withdrawn at its late point, an item made DUE. -/
structure KeptByTests (P : State → Prop) : Prop extends KeptByDecisions P where
  withdraw : ∀ s n p i m, s.findPlan n = some p → p.moves[i]? = some m → m.st.isUnsent = true → p.servedKeys i = [] →
    P s → P ((s.modPlan p.repeatNo fun p => p.withdrawMove i).modFoil m.web fun a => a.release m.reserved) := by
    intros; assumption
  moveDue : ∀ s n i, P s → P (s.modPlan n fun p => p.modMove i fun m => { m with st := m.st.release }) := by
    intros; assumption
  entryDue : ∀ s n l, P s → P (s.modPlan n fun p => p.modOpen l fun e => { e with phs := e.phs.release }) := by
    intros; assumption

namespace KeptByTests
variable {P : State → Prop} (k : KeptByTests P) {s : State}
include k

theorem testMove (n : Rep) (i : Nat) (p : P s) : P (s.testMove n i) := by
  unfold State.testMove
  split
  · exact p
  next q found =>
    split
    · exact p
    next m move =>
      split_ifs with sent late due
      · exact p
      · unfold State.giveUpMove
        split_ifs with served
        · exact k.withdraw s n q i m found move (by simpa using sent) (List.isEmpty_iff.mp served) p
        · exact k.decideAll _ _ _ p
      · exact k.moveDue _ _ _ p
      · exact p

theorem testEntry (n : Rep) (l : Fin 8) (p : P s) : P (s.testEntry n l) := by
  unfold State.testEntry
  split
  · exact p
  · split
    · exact p
    · split_ifs
      · exact k.decide _ _ _ _ _ p
      · exact k.decide _ _ _ _ _ p
      · exact k.entryDue _ _ _ p
      · exact p

theorem planTest (t : PlanTest) (p : P s) : P (s.planTest t) := by
  cases t with
  | move n i => exact k.testMove n i p
  | entry n l => exact k.testEntry n l p

end KeptByTests

/-! ### The units of a cycle frame -/

/-- Kept by what a unit of a cycle frame does besides the planner's acts: a cassette, a drive that counts and may go
SILENT. -/
structure UnitSteps (P : State → Prop) : Prop where
  cycDue : ∀ s us, P s → P (s.setCycDue us) := by intros; assumption
  cassette : ∀ s c, P s → P (s.cassetteCycle c) := by intros; assumption
  counted : ∀ s d, P s → P (s.modDrive d Drive.counted) := by intros; assumption
  driveSilent : ∀ s det, P s → P (s.raise Event.driveSilent det) := by intros; assumption
  silenced : ∀ s d, P s → P (s.modDrive d Drive.silenced) := by intros; assumption

/-- Kept by a unit's part of a cycle frame. -/
structure KeptByUnits (P : State → Prop) : Prop extends KeptByTests P, UnitSteps P

namespace KeptByUnits
variable {P : State → Prop} (k : KeptByUnits P) {s : State}
include k

theorem silenceDrive (d : Fin 12) (p : P s) : P (s.silenceDrive d) := k.notice d _ (k.silenced s d p)

theorem quietDrive (d : Fin 12) (p : P s) : P (s.quietDrive d) := by
  unfold State.quietDrive
  split
  · exact p
  · exact k.silenceDrive d p

theorem driveCycle (d : Fin 12) (p : P s) : P (s.driveCycle d) := by
  unfold State.driveCycle
  simp only
  split
  · exact k.silenceDrive d (k.driveSilent _ _ (k.counted s d p))
  · exact k.counted s d p

theorem unitPart (u : CycUnit) (p : P s) : P (s.unitPart u) := by
  cases u with
  | planner => exact foldl_keeps (fun _ t q => k.planTest t q) s.tests s p
  | cassette c => exact k.cassette s c p
  | drive d => exact k.driveCycle d p

theorem takeUnit (u : CycUnit) (p : P s) : P (s.takeUnit u) := by
  unfold State.takeUnit
  split
  · exact k.unitPart u (k.cycDue _ _ p)
  · exact p

theorem takeUnits (us : List CycUnit) (p : P s) : P (s.takeUnits us) := foldl_keeps (fun _ u q => k.takeUnit u q) us s p

theorem settle (p : P s) : P s.settle := k.takeUnits _ p

theorem atPoint (t : Thread) (p : P t.2) : P (atPoint t).2 := k.takeUnits _ p

theorem testsAtPoints : ∀ (ts : List PlanTest) (t : Thread), P t.2 → P (testsAtPoints ts t).2
  | [], _, p => p
  | x :: ts, t, p => testsAtPoints ts (_, (Machine.atPoint t).2.planTest x) (k.planTest x (k.atPoint t p))

theorem plannerAtPoints (own : List CycUnit) (t : Thread) (p : P t.2) : P (plannerAtPoints own t).2 := by
  unfold Machine.plannerAtPoints
  split
  · exact k.testsAtPoints _ (t.1, t.2.setCycDue _) (k.cycDue _ _ p)
  · exact p

theorem quietAndFlush (first : List (Fin 12)) (cause : FlushCause)
    (raised : ∀ s d, P s → P (s.raise Event.planFlushed d)) (p : P s) : P (s.quietAndFlush first cause) :=
  foldl_keeps (fun _ d q => k.quietDrive d q) drives12 _
    (k.flush cause false raised (foldl_keeps (fun _ d q => k.quietDrive d q) first s p))

end KeptByUnits

/-! ### The requests -/

/-- Kept by what a request does before it is answered (chapter 8), besides the decisions and the changeover. -/
structure ActSteps (P : Nat → State → Prop) : Prop where
  fewer : ∀ n s, P (n + 1) s → P n s := by intros; assumption
  unitSteps : ∀ n, UnitSteps (P n)
  raise : ∀ n s k det, P n s → P n (s.raise k det) := by intros; assumption
  standby : ∀ n s b, s.jobs.arm = none → ((∀ i : Fin 2, s.jobs.banks[i].InRange) → b.InRange) → P n s →
    P n (s.setStandby b) := by intros; assumption
  free : ∀ n s k, P n s → P n (s.drawFree k) := by intros; assumption
  cfg : ∀ n s c, s.planner.st ≠ .stamping → s.planner.st ≠ .draining → (s.jobs.cfg.InRange → c.InRange) → P n s →
    P n (s.setJobs { s.jobs with cfg := c }) := by intros; assumption
  arm : ∀ n s t, s.planner.st = .stamping ∨ s.planner.st = .draining → s.standby.validate s.jobs.cfg = none → P n s →
    P n (s.setJobs { s.jobs with arm := some t }) := by intros; assumption
  disarm : ∀ n s, P n s → P n (s.setJobs { s.jobs with arm := none }) := by intros; assumption
  start : ∀ n s, s.planner.st = .ready ∨ s.planner.st = .draining → P n s → P n (s.setPlannerState .stamping) := by
    intros; assumption
  lane : ∀ n s l f, (∀ x : Lane, (f x).mode = x.mode) → (∀ x : Lane, x.InRange → (f x).InRange) → P n s →
    P n (s.setActive (s.active.modLane l f)) := by intros; assumption
  pitch : ∀ n s v, 2000 ≤ v → v ≤ 200000 → P n s → P n (s.setTracker { s.tracker with staged := some v }) := by
    intros; assumption
  enables : ∀ n s a set on, a = s.attention.setEnables set on → P n s → P n (s.setAttention a) := by intros; assumption
  level : ∀ n s a k l, a = (s.attention.modCell k fun c => { c with level := l }).select → P n s →
    P n (s.setAttention a) := by intros; assumption
  acked : ∀ n s a k, a = s.attention.acknowledge k → P n s → P n (s.setAttention a) := by intros; assumption
  fetched : ∀ n s v, P n s → P n (s.setReport { s.report with log := s.report.log.drop v }) := by intros; assumption
  watched : ∀ n s w, P n s → P n (s.setReport { s.report with watch := w }) := by intros; assumption
  cleared : ∀ n s, P n s → P n (s.setAttention s.attention.softCleared) := by intros; assumption
  trackerReset : ∀ n s, P n s → P 0 (s.setTracker s.tracker.softReset) := by intros; assumption
  plannerReset : ∀ n s, s.planner.queue = [] → s.jobs.arm = none → P n s → P n s.plannerAfterReset := by
    intros; assumption
  cassettesReset : ∀ n s, P n s → P n (s.setCassettes (Vector.replicate 8 Cassette.afterReset)) := by
    intros; assumption

/-- Kept by what a request does before it is answered. -/
structure KeptByActs (P : Nat → State → Prop) : Prop extends ActSteps P where
  tests : ∀ n, KeptByTests (P n)
  takeNow : ∀ n s, s.planner.st = .idle ∨ s.planner.st = .ready → s.standby.validate s.jobs.cfg = none → P n s →
    P n s.takeNow := by intros; assumption
  stop : ∀ n s, s.planner.st = .stamping → P n s → P n (s.setPlannerState .draining).drainCheck := by intros; assumption
  roll : ∀ n s f v, v ≤ Config.maxFoil → P n s →
    P n ((s.modFoil f fun a => { a with remaining := max v a.reserved }).loadTest f) := by intros; assumption

theorem KeptByActs.units {P : Nat → State → Prop} (k : KeptByActs P) (n : Nat) : KeptByUnits (P n) where
  toKeptByTests := k.tests n
  toUnitSteps := k.unitSteps n

end Sys2Proof.Machine

/-! ## The queue of plans under decisions -/

namespace Sys2Proof.Machine

/-! ### Operations that leave the queue of plans alone -/

@[simp] theorem raise_planner (s : State) (k : Fin 18) (d : BitVec 32) : (s.raise k d).planner = s.planner := rfl
@[simp] theorem raise_jobs (s : State) (k : Fin 18) (d : BitVec 32) : (s.raise k d).jobs = s.jobs := rfl
@[simp] theorem raise_foil (s : State) (k : Fin 18) (d : BitVec 32) : (s.raise k d).foil = s.foil := rfl
@[simp] theorem raise_tracker (s : State) (k : Fin 18) (d : BitVec 32) : (s.raise k d).tracker = s.tracker := rfl
@[simp] theorem raise_drives (s : State) (k : Fin 18) (d : BitVec 32) : (s.raise k d).drives = s.drives := rfl
@[simp] theorem writeLog_planner (s : State) (r : LogRecord) : (s.writeLog r).planner = s.planner :=
  (writeLog_frame s r).planner
@[simp] theorem writeLog_jobs (s : State) (r : LogRecord) : (s.writeLog r).jobs = s.jobs := (writeLog_frame s r).jobs
@[simp] theorem writeLog_foil (s : State) (r : LogRecord) : (s.writeLog r).foil = s.foil := (writeLog_frame s r).foil
@[simp] theorem writeLog_tracker (s : State) (r : LogRecord) : (s.writeLog r).tracker = s.tracker :=
  (writeLog_frame s r).tracker
@[simp] theorem handReport_planner (s : State) (r : RepeatReport) : (s.handReport r).planner = s.planner := rfl
@[simp] theorem handReport_jobs (s : State) (r : RepeatReport) : (s.handReport r).jobs = s.jobs := rfl
@[simp] theorem handReport_foil (s : State) (r : RepeatReport) : (s.handReport r).foil = s.foil := rfl
@[simp] theorem handReport_tracker (s : State) (r : RepeatReport) : (s.handReport r).tracker = s.tracker := rfl
@[simp] theorem takeChangeover_planner (s : State) : s.takeChangeover.planner = s.planner := rfl
@[simp] theorem takeChangeover_arm (s : State) : s.takeChangeover.jobs.arm = none := rfl
@[simp] theorem modFoil_planner (s : State) (f : Fin 4) (g : FoilAccount → FoilAccount) :
    (s.modFoil f g).planner = s.planner := rfl
@[simp] theorem modFoil_jobs (s : State) (f : Fin 4) (g : FoilAccount → FoilAccount) :
    (s.modFoil f g).jobs = s.jobs := rfl
@[simp] theorem modPlan_jobs (s : State) (n : Rep) (f : Plan → Plan) : (s.modPlan n f).jobs = s.jobs := rfl
@[simp] theorem modPlan_queue (s : State) (n : Rep) (f : Plan → Plan) :
    (s.modPlan n f).planner.queue = updateFirst (Plan.isRepeat n) f s.planner.queue := rfl
@[simp] theorem dropPlan_queue (s : State) (n : Rep) :
    (s.dropPlan n).planner.queue = removeFirst (Plan.isRepeat n) s.planner.queue := rfl

@[simp] theorem releaseSpent_planner (s : State) (p : Plan) (i : Option Nat) :
    (s.releaseSpent p i).planner = s.planner := by
  unfold State.releaseSpent
  split <;> rfl

@[simp] theorem releaseSpent_jobs (s : State) (p : Plan) (i : Option Nat) : (s.releaseSpent p i).jobs = s.jobs := by
  unfold State.releaseSpent
  split <;> rfl

@[simp] theorem Planner.count_queue (p : Planner) (l : Fin 8) (d : Decision) : (p.count l d).queue = p.queue := by
  cases d <;> rfl

@[simp] theorem Planner.count_st (p : Planner) (l : Fin 8) (d : Decision) :
    (p.count l d).st = p.st := by cases d <;> rfl

theorem Planner.countEntry_keeps (p : Planner) (e : Entry) :
    (p.countEntry e).queue = p.queue ∧ (p.countEntry e).st = p.st := by
  unfold Planner.countEntry
  split <;> simp

theorem countPlan_keeps (s : State) (p : Plan) :
    (s.countPlan p).planner.queue = s.planner.queue ∧ (s.countPlan p).planner.st = s.planner.st :=
  foldl_keeps (P := fun x : Planner => x.queue = s.planner.queue ∧ x.st = s.planner.st)
    (fun x e h => ⟨(x.countEntry_keeps e).1.trans h.1, (x.countEntry_keeps e).2.trans h.2⟩) p.entries s.planner ⟨rfl, rfl⟩

@[simp] theorem countPlan_queue (s : State) (p : Plan) : (s.countPlan p).planner.queue = s.planner.queue :=
  (countPlan_keeps s p).1

@[simp] theorem countPlan_st (s : State) (p : Plan) :
    (s.countPlan p).planner.st = s.planner.st := (countPlan_keeps s p).2

@[simp] theorem countPlan_jobs (s : State) (p : Plan) : (s.countPlan p).jobs = s.jobs := rfl

@[simp] theorem enterReady_queue (s : State) : s.enterReady.planner.queue = s.planner.queue := by
  unfold State.enterReady
  simp only
  split <;> rfl

@[simp] theorem drainCheck_queue (s : State) : s.drainCheck.planner.queue = s.planner.queue := by
  unfold State.drainCheck
  split <;> simp

/-- A closed plan leaves the queue, and the entry to READY does not touch it (R80). -/
@[simp] theorem closePlan_queue (s : State) (p : Plan) (reports : Bool) :
    (s.closePlan p reports).planner.queue = removeFirst (Plan.isRepeat p.repeatNo) s.planner.queue := by
  unfold State.closePlan
  simp only [drainCheck_queue, dropPlan_queue]
  split <;> simp

/-! ### The queue after a decision -/

@[simp] theorem Plan.withdrawSpent_repeatNo (p : Plan) (i : Option Nat) :
    (p.withdrawSpent i).repeatNo = p.repeatNo := by
  unfold Plan.withdrawSpent
  split <;> rfl

@[simp] theorem Plan.withdrawSpent_entries (p : Plan) (i : Option Nat) : (p.withdrawSpent i).entries = p.entries := by
  unfold Plan.withdrawSpent
  split <;> rfl

@[simp] theorem Plan.decideOpen_repeatNo (p : Plan) (l : Fin 8) (e : Entry) (d : Decision) :
    (p.decideOpen l e d).repeatNo = p.repeatNo := by
  simp [Plan.decideOpen, Plan.modOpen]

@[simp] theorem Plan.decideOpen_entries (p : Plan) (l : Fin 8) (e : Entry) (d : Decision) :
    (p.decideOpen l e d).entries = updateFirst (isOpenLane l) (fun e => e.decide d) p.entries := by
  simp [Plan.decideOpen, Plan.modOpen]

/-- The queue after the decision of a lane's entry of a repeat: the plan decided, or gone with its last decision
(R79, R80). -/
def queueDecided (n : Rep) (l : Fin 8) (d : Decision) (q : List Plan) : List Plan :=
  match q.find? (Plan.isRepeat n) with
  | none => q
  | some p => match p.openEntry l with
    | none => q
    | some e => if (p.decideOpen l e d).done then removeFirst (Plan.isRepeat n) q
      else updateFirst (Plan.isRepeat n) (fun _ => p.decideOpen l e d) q

theorem removeFirst_updateFirst {α : Type} {p : α → Bool} {f : α → α} (h : ∀ x, p x = true → p (f x) = true) :
    ∀ l : List α, removeFirst p (updateFirst p f l) = removeFirst p l
  | [] => rfl
  | x :: xs => by
    by_cases g : p x = true
    · simp [updateFirst, removeFirst, g, h x g]
    · simp [updateFirst, removeFirst, g, removeFirst_updateFirst h xs]

theorem findPlan_repeatNo {s : State} {n : Rep} {p : Plan} (found : s.findPlan n = some p) : p.repeatNo = n := by
  simpa [Plan.isRepeat] using List.find?_some found

/-! ### The three cases of a decision -/

theorem decideEntry_noPlan {s : State} {n : Rep} (gone : s.findPlan n = none) (l : Fin 8) (d : Decision)
    (reports : Bool) :
    s.decideEntry n l d reports = s := by
  rw [State.decideEntry, gone]

theorem decideEntry_decided {s : State} {n : Rep} {p : Plan} {l : Fin 8} (found : s.findPlan n = some p)
    (decided : p.openEntry l = none) (d : Decision) (reports : Bool) : s.decideEntry n l d reports = s := by
  rw [State.decideEntry, found]
  simp only [decided]

theorem decideEntry_open {s : State} {n : Rep} {p : Plan} {l : Fin 8} {e : Entry} (found : s.findPlan n = some p)
    (isOpen : p.openEntry l = some e) (d : Decision) (reports : Bool) :
    s.decideEntry n l d reports = s.decideIn p l e d reports := by
  rw [State.decideEntry, found]
  simp only [isOpen]

theorem queueDecided_open {n : Rep} {p : Plan} {l : Fin 8} {e : Entry} {q : List Plan}
    (found : q.find? (Plan.isRepeat n) = some p) (isOpen : p.openEntry l = some e) (d : Decision) :
    queueDecided n l d q = if (p.decideOpen l e d).done then removeFirst (Plan.isRepeat n) q
      else updateFirst (Plan.isRepeat n) (fun _ => p.decideOpen l e d) q := by
  rw [queueDecided, found]
  simp only [isOpen]

theorem decideIn_queue {s : State} {n : Rep} {p : Plan} (found : s.findPlan n = some p) (l : Fin 8) (e : Entry)
    (d : Decision) (reports : Bool) : (s.decideIn p l e d reports).planner.queue =
      if (p.decideOpen l e d).done then removeFirst (Plan.isRepeat n) s.planner.queue
      else updateFirst (Plan.isRepeat n) (fun _ => p.decideOpen l e d) s.planner.queue := by
  have number := findPlan_repeatNo found
  have stays : ∀ x, Plan.isRepeat n x = true → Plan.isRepeat n (p.decideOpen l e d) = true := by
    simp [Plan.isRepeat, number]
  unfold State.decideIn
  simp only
  split
  · simp [number, removeFirst_updateFirst stays]
  · simp [number]

theorem decideEntry_queue (s : State) (n : Rep) (l : Fin 8) (d : Decision) (reports : Bool) :
    (s.decideEntry n l d reports).planner.queue = queueDecided n l d s.planner.queue := by
  cases found : s.findPlan n with
  | none =>
    rw [decideEntry_noPlan found, queueDecided, show s.planner.queue.find? (Plan.isRepeat n) = none from found]
  | some p =>
    have inQueue : s.planner.queue.find? (Plan.isRepeat n) = some p := found
    cases isOpen : p.openEntry l with
    | none => rw [decideEntry_decided found isOpen, queueDecided, inQueue]; simp only [isOpen]
    | some e => rw [decideEntry_open found isOpen, decideIn_queue found, queueDecided_open inQueue isOpen]

/-! ### A flush empties the queue -/

/-- The first undecided entry of a list is the first one of its own lane. -/
theorem find?_isOpenLane_of_find? {es : List Entry} {e : Entry} (first : es.find? (·.undecided) = some e) :
    es.find? (isOpenLane e.lane) = some e := by
  induction es with
  | nil => cases first
  | cons x xs ih =>
    by_cases u : x.undecided = true
    · obtain rfl : x = e := by simpa [u] using first
      simp [isOpenLane, u]
    · rw [List.find?_cons_of_neg (by simpa using u)] at first
      rw [List.find?_cons_of_neg (by simp [isOpenLane, u]), ih first]

@[simp] theorem Entry.decide_undecided (e : Entry) (d : Decision) : (e.decide d).undecided = false := rfl
@[simp] theorem Entry.decide_lane (e : Entry) (d : Decision) : (e.decide d).lane = e.lane := rfl

/-- Deciding the first undecided entry takes it, and it alone, from the undecided ones. -/
theorem filter_undecided_updateFirst {es : List Entry} {e : Entry} (first : es.find? (·.undecided) = some e)
    (d : Decision) : es.filter (·.undecided) = e ::
      (updateFirst (isOpenLane e.lane) (fun e => e.decide d) es).filter (·.undecided) := by
  induction es with
  | nil => cases first
  | cons x xs ih =>
    by_cases u : x.undecided = true
    · obtain rfl : x = e := by simpa [u] using first
      simp [updateFirst, isOpenLane, u]
    · rw [List.find?_cons_of_neg (by simpa using u)] at first
      simp only [updateFirst, isOpenLane, u, Bool.and_false, Bool.false_eq_true, if_false, List.filter_cons]
      exact ih first

theorem Plan.done_iff (p : Plan) : p.done = true ↔ p.openKeys = [] := by
  simp [Plan.done, Plan.openKeys, List.filter_eq_nil_iff]

/-- The keys of a plan's undecided entries, taken one after another: the first one's entry is the open entry of its lane,
and deciding it leaves the other keys. -/
theorem Plan.openKeys_cons {p : Plan} {key : EntryKey} {keys : List EntryKey} (h : p.openKeys = key :: keys)
    (d : Decision) : key.1 = p.repeatNo ∧ ∃ e, p.openEntry key.2 = some e ∧ e.lane = key.2
      ∧ (p.decideOpen key.2 e d).openKeys = keys := by
  cases first : p.entries.find? (·.undecided) with
  | none =>
    rw [List.find?_eq_none] at first
    have : p.openKeys = [] := by simpa [Plan.openKeys] using first
    rw [this] at h
    cases h
  | some e =>
    rw [Plan.openKeys, filter_undecided_updateFirst first d, List.map_cons, List.cons.injEq] at h
    obtain ⟨rfl, rfl⟩ := h
    exact ⟨rfl, e, find?_isOpenLane_of_find? first, rfl, by simp [Plan.openKeys]⟩

/-- When the undecided entries of the plan at the head have been decided, it is gone (R80, R83). -/
theorem decideAll_head (keys : List EntryKey) (d : Decision) (reports : Bool) :
    ∀ (s : State) (p : Plan) (rest : List Plan),
    s.planner.queue = p :: rest → p.openKeys = keys →
      (s.decideAll keys d reports).planner.queue = if keys = [] then p :: rest else rest := by
  induction keys with
  | nil => intro s p rest queue _; simpa [State.decideAll] using queue
  | cons key keys ih =>
    intro s p rest queue open_
    obtain ⟨number, e, isOpen, _, left⟩ := Plan.openKeys_cons open_ d
    have found : s.planner.queue.find? (Plan.isRepeat key.1) = some p := by simp [queue, Plan.isRepeat, number]
    have after := decideEntry_queue s key.1 key.2 d reports
    rw [queueDecided_open found isOpen] at after
    simp only [Plan.done_iff, left, queue, removeFirst, updateFirst, Plan.isRepeat, number, beq_self_eq_true, if_true] at after
    simp only [State.decideAll, List.foldl_cons, reduceCtorEq, if_false, number]
    by_cases last : keys = []
    · subst last
      simpa using after
    · rw [if_neg last] at after
      have := ih _ _ _ after left
      rwa [if_neg last] at this

theorem flushHead_queue (s : State) (reports : Bool) : (s.flushHead reports).planner.queue = s.planner.queue.tail := by
  unfold State.flushHead
  split
  next queue => simp [queue]
  next p rest queue =>
    have decided := decideAll_head p.openKeys (.reject .flushed) reports s p rest queue rfl
    unfold State.closeSpent
    split
    next done => simp [Plan.openKeys_of_done done, State.decideAll, queue, removeFirst, Plan.isRepeat]
    next open_ =>
      rw [Plan.done_iff] at open_
      rw [decided, if_neg open_, queue, List.tail_cons]

theorem flushPlans_queue (reports : Bool) : ∀ (n : Nat) (s : State),
    (State.flushPlans reports n s).planner.queue = s.planner.queue.drop n
  | 0, s => rfl
  | n + 1, s => by
    rw [State.flushPlans, flushPlans_queue reports n, flushHead_queue, List.drop_tail]

@[simp] theorem flush_queue (s : State) (cause : FlushCause) (reports : Bool) :
    (s.flush cause reports).planner.queue = [] := by
  unfold State.flush
  simp only
  split <;> simp [flushPlans_queue]

/-! ### A notice on an empty queue -/

theorem notice_of_nil {s : State} (empty : s.planner.queue = []) (d : Fin 12) (r : Reason) : s.notice d r = s := by
  simp [State.notice, State.noticeKeys, empty, State.decideAll]

/-- With no plan queued a drive that goes quiet changes its link alone. -/
theorem quietDrive_of_nil {s : State} (empty : s.planner.queue = []) (d : Fin 12) :
    s.quietDrive d = if s.drives[d].link = .silent then s else s.modDrive d Drive.silenced := by
  unfold State.quietDrive State.silenceDrive
  rw [notice_of_nil (by exact empty)]

theorem foldl_quietDrive_queue (ds : List (Fin 12)) (s : State) (empty : s.planner.queue = []) :
    (ds.foldl State.quietDrive s).planner.queue = [] :=
  foldl_keeps (P := fun s : State => s.planner.queue = [])
    (fun s d e => by rw [quietDrive_of_nil e]; split <;> exact e) ds s empty

@[simp] theorem quietAndFlush_queue (s : State) (first : List (Fin 12)) (cause : FlushCause) :
    (s.quietAndFlush first cause).planner.queue = [] := by
  unfold State.quietAndFlush
  exact foldl_quietDrive_queue _ _ (flush_queue ..)

/-! ### A cleared arm stays cleared -/

theorem drainCheck_arm {s : State} (clear : s.jobs.arm = none) : s.drainCheck.jobs.arm = none := by
  unfold State.drainCheck State.enterReady
  simp only
  split
  · split
    · rfl
    · exact clear
  · exact clear

theorem closePlan_arm {s : State} (clear : s.jobs.arm = none) (p : Plan) (reports : Bool) :
    (s.closePlan p reports).jobs.arm = none := by
  unfold State.closePlan
  refine drainCheck_arm ?_
  split <;> exact clear

theorem decideEntry_arm {s : State} (clear : s.jobs.arm = none) (n : Rep) (l : Fin 8) (d : Decision) (reports : Bool) :
    (s.decideEntry n l d reports).jobs.arm = none := by
  unfold State.decideEntry
  split
  · exact clear
  · split
    · exact clear
    · unfold State.decideIn
      simp only
      split
      · exact closePlan_arm (by simpa using clear) _ _
      · simpa using clear

theorem keptByDecisions_arm : KeptByDecisions fun s => s.jobs.arm = none where
  decide _ _ _ _ _ clear := decideEntry_arm clear ..
  closeDone _ _ _ _ _ _ clear := closePlan_arm clear ..

theorem foldl_quietDrive_arm (ds : List (Fin 12)) {s : State} (clear : s.jobs.arm = none) :
    (ds.foldl State.quietDrive s).jobs.arm = none := by
  refine foldl_keeps (P := fun s : State => s.jobs.arm = none) (fun s d clear => ?_) ds s clear
  unfold State.quietDrive
  split
  · exact clear
  · exact keptByDecisions_arm.notice (s := s.modDrive d Drive.silenced) d _ clear

theorem quietAndFlush_arm (first : List (Fin 12)) (cause : FlushCause) {s : State} (clear : s.jobs.arm = none) :
    (s.quietAndFlush first cause).jobs.arm = none := by
  unfold State.quietAndFlush
  exact foldl_quietDrive_arm _ (keptByDecisions_arm.flush _ _ (fun _ _ clear => clear) (foldl_quietDrive_arm _ clear))

end Sys2Proof.Machine

/-! ## Records as requests carry them -/

namespace Sys2Proof.Machine

/-! ### Numbers and codes -/

theorem finOf_eq_some {n v : Nat} {i : Fin n} : finOf n v = some i ↔ v = i.val := by
  unfold finOf
  constructor
  · intro h
    split at h
    · cases h; rfl
    · cases h
  · rintro rfl
    simp

theorem finOf_eq_none {n v : Nat} : finOf n v = none ↔ n ≤ v := by
  simp [finOf]

theorem Kind.ofByte_eq_some {b : Byte} {k : Kind} : Kind.ofByte b = some k ↔ b = k.code := by
  unfold Kind.ofByte
  split_ifs with h0 h1 h2 h3
  iterate 4
    · subst b
      cases k <;> decide
  · simp only [false_iff]
    cases k <;> assumption

theorem LaneMode.ofByte_eq_some {b : Byte} {m : LaneMode} : LaneMode.ofByte b = some m ↔ b = m.code := by
  unfold LaneMode.ofByte
  split_ifs with h0 h1 h2 h3
  iterate 4
    · subst b
      cases m <;> decide
  · simp only [false_iff]
    cases m <;> assumption

/-- A byte equals another one when it has its number. -/
theorem byte_eq_iff {b c : Byte} : b = c ↔ b.toNat = c.toNat := BitVec.toNat_inj.symm

theorem clampInt_eq {lo hi x : Int} (h : lo ≤ hi) : clampInt lo hi x = max lo (min hi x) := by
  unfold clampInt
  split_ifs <;> omega

/-- A record behind a leading byte: 0xFF is an absent one, 0 one that the data give, and any other byte refuses (R181). -/
theorem leadingByte_eq_some {α : Type} {b : Byte} {r : Option α} {v : Option α} :
    (if b = absent then some none else if b = 0 then r.map some else none) = some v ↔
      (b = absent ∧ v = none) ∨ (b = 0 ∧ ∃ x, v = some x ∧ r = some x) := by
  have differ : (0 : Byte) ≠ absent := by decide
  split_ifs with undefined defined
  · subst undefined
    constructor
    · intro h
      exact .inl ⟨rfl, (Option.some.inj h).symm⟩
    · rintro (⟨_, rfl⟩ | ⟨zero, _⟩)
      · rfl
      · exact absurd zero.symm differ
  · subst defined
    rw [Option.map_eq_some_iff]
    constructor
    · rintro ⟨x, record, rfl⟩
      exact .inr ⟨rfl, x, rfl, record⟩
    · rintro (⟨zero, _⟩ | ⟨_, x, rfl, record⟩)
      · exact absurd zero differ
      · exact ⟨x, record, rfl⟩
  · simp only [false_iff, not_or, not_and]
    exact ⟨fun e => absurd e undefined, fun e => absurd e defined⟩

/-! ### Designs (R30) -/

/-- A design record as data carry it, field by field, within the ranges of section 2.1.1 (R30). -/
structure DesignFields (d : List Byte) (x : Design) : Prop where
  kind : byteAt d 1 = x.kind.code
  segment : (byteAt d 2).toNat = x.segment.val
  web : if x.kind.isFoil then ∃ w : Fin 4, x.web = some w ∧ (byteAt d 3).toNat = w.val else x.web = none
  offset : field d 4 4 = x.offset
  offsetTop : x.offset ≤ 200000
  length : field d 8 2 = x.length
  lengthLeast : 100 ≤ x.length
  lengthTop : x.length ≤ 60000
  pressure : (byteAt d 10).toNat = x.pressure.val
  inhibit : flagAt d 11 = x.inhibit

/-- The web a design record names: read for the foil kinds alone (R30). -/
theorem designWeb_bind_eq_some {k : Kind} {d : List Byte} {x : Design} {f : Option (Fin 4) → Option Design} :
    (if k.isFoil then ((finOf 4 (byteAt d 3).toNat).map some).bind f else (some none).bind f) = some x ↔
      ∃ web, (if k.isFoil then ∃ w : Fin 4, web = some w ∧ (byteAt d 3).toNat = w.val else web = none)
        ∧ f web = some x := by
  cases k.isFoil
  · simp
  · simp only [if_true, Option.bind_eq_some_iff, Option.map_eq_some_iff, finOf_eq_some]
    constructor
    · rintro ⟨_, ⟨w, number, rfl⟩, rest⟩
      exact ⟨_, ⟨w, rfl, number⟩, rest⟩
    · rintro ⟨_, ⟨w, rfl, number⟩, rest⟩
      exact ⟨_, ⟨w, number, rfl⟩, rest⟩

theorem decodeDesignRecord_eq_some {d : List Byte} {x : Design} : decodeDesignRecord d = some x ↔ DesignFields d x := by
  simp only [decodeDesignRecord, Option.bind_eq_bind, Option.bind_eq_some_iff, Kind.ofByte_eq_some, finOf_eq_some,
    designWeb_bind_eq_some]
  constructor
  · rintro ⟨kind, hk, segment, hs, web, hw, pressure, hp, h⟩
    split at h
    next ranges =>
      cases h
      exact ⟨hk, hs, hw, rfl, ranges.1, rfl, ranges.2.1, ranges.2.2, hp, rfl⟩
    · cases h
  · intro h
    refine ⟨x.kind, h.kind, x.segment, h.segment, x.web, h.web, x.pressure, h.pressure, ?_⟩
    rw [h.offset, h.length, h.inhibit, if_pos ⟨h.offsetTop, h.lengthLeast, h.lengthTop⟩]

theorem DesignFields.inRange {d : List Byte} {x : Design} (h : DesignFields d x) : x.InRange := by
  refine ⟨h.offsetTop, h.lengthLeast, h.lengthTop, ?_⟩
  have web := h.web
  cases foil : x.kind.isFoil with
  | true =>
    rw [foil, if_pos rfl] at web
    obtain ⟨w, web, _⟩ := web
    simp [web]
  | false =>
    rw [foil] at web
    simpa using web

/-- What WRITE DESIGN's data spell: UNDEFINED, or a record behind a leading 0 (R181). -/
theorem decodeDesign_eq_some {d : List Byte} {v : Option Design} : decodeDesign d = some v ↔
    (byteAt d 0 = absent ∧ v = none) ∨ (byteAt d 0 = 0 ∧ ∃ x, v = some x ∧ DesignFields d x) := by
  simp only [← decodeDesignRecord_eq_some]
  exact leadingByte_eq_some

/-! ### Lanes (R31) -/

/-- A lane entry as data carry it, its trim clamped and its progress reset, within the ranges of section 2.1.2 (R31). -/
structure LaneFields (d : List Byte) (x : Lane) : Prop where
  mode : byteAt d 0 = x.mode.code
  slotA : (byteAt d 1).toNat = x.slotA.val
  slotB : (byteAt d 2).toNat = x.slotB.val
  seqStart : (byteAt d 3).toNat = x.seqStart.val
  seqLen : (byteAt d 4).toNat = x.seqLen
  seqLeast : 1 ≤ x.seqLen
  seqTop : x.seqLen ≤ 16
  trim : x.trim = clampInt (-1000) 1000 (sfield d 5 2)
  hold : flagAt d 7 = x.hold
  lo : sfield d 8 2 = x.lo
  loLeast : -400 ≤ x.lo
  loTop : x.lo ≤ 3000
  hi : sfield d 10 2 = x.hi
  hiLeast : -400 ≤ x.hi
  hiTop : x.hi ≤ 3000
  nsoak : field d 12 2 = x.nsoak
  ndrift : field d 14 2 = x.ndrift
  ndriftTop : x.ndrift ≤ 4000
  onB : x.onB = false
  index : x.index = 0

theorem decodeLane_eq_some {d : List Byte} {x : Lane} : decodeLane d = some x ↔ LaneFields d x := by
  simp only [decodeLane, Option.bind_eq_bind, Option.bind_eq_some_iff, LaneMode.ofByte_eq_some, finOf_eq_some]
  constructor
  · rintro ⟨mode, hm, slotA, ha, slotB, hb, seqStart, hs, h⟩
    split at h
    next ranges =>
      obtain ⟨len1, len16, lo0, lo1, hi0, hi1, drift⟩ := ranges
      cases h
      exact ⟨hm, ha, hb, hs, rfl, len1, len16, rfl, rfl, rfl, lo0, lo1, rfl, hi0, hi1, rfl, rfl, drift, rfl, rfl⟩
    · cases h
  · intro h
    refine ⟨x.mode, h.mode, x.slotA, h.slotA, x.slotB, h.slotB, x.seqStart, h.seqStart, ?_⟩
    rw [h.seqLen, h.lo, h.hi, h.ndrift, h.nsoak, h.hold, ← h.trim,
      if_pos ⟨h.seqLeast, h.seqTop, h.loLeast, h.loTop, h.hiLeast, h.hiTop, h.ndriftTop⟩]
    cases x
    simp [← h.onB, ← h.index]

/-- The number of a field of bytes is below the power of its width. -/
theorem beNat_lt (bs : List Byte) : beNat bs < 256 ^ bs.length := by
  have fold : ∀ (bs : List Byte) (acc : Nat),
      bs.foldl (fun acc (b : Byte) => acc * 256 + b.toNat) acc < (acc + 1) * 256 ^ bs.length := by
    intro bs
    induction bs with
    | nil => intro acc; simp
    | cons b bs ih =>
      intro acc
      have small : b.toNat < 256 := b.isLt
      calc _ < (acc * 256 + b.toNat + 1) * 256 ^ bs.length := ih _
        _ ≤ ((acc + 1) * 256) * 256 ^ bs.length := Nat.mul_le_mul_right _ (by omega)
        _ = _ := by rw [List.length_cons, pow_succ]; ring
  simpa [beNat] using fold bs 0

theorem field_lt (bs : List Byte) (off n : Nat) : field bs off n < 256 ^ n :=
  (beNat_lt _).trans_le (Nat.pow_le_pow_right (by decide) (by simp))

theorem LaneFields.inRange {d : List Byte} {x : Lane} (h : LaneFields d x) : x.InRange := by
  have soak : x.nsoak ≤ 65535 := by
    have := field_lt d 12 2
    rw [h.nsoak] at this
    omega
  have trim := h.trim
  rw [clampInt_eq (by decide)] at trim
  refine ⟨h.seqLeast, h.seqTop, ?_, ?_, ?_, h.loLeast, h.loTop, h.hiLeast, h.hiTop, soak, h.ndriftTop⟩
  · rw [h.index]; exact h.seqLeast
  · omega
  · omega

/-! ### Sequence entries and foil map entries (R32) -/

theorem decodeSequence_eq_some {d : List Byte} {v : Option (Fin 64)} : decodeSequence d = some v ↔
    (byteAt d 0 = absent ∧ v = none) ∨ ∃ i : Fin 64, v = some i ∧ (byteAt d 0).toNat = i.val := by
  unfold decodeSequence
  split_ifs with undefined
  · have past : ∀ i : Fin 64, absent.toNat ≠ i.val := fun i => by
      have : absent.toNat = 255 := rfl
      omega
    rw [undefined]
    constructor
    · intro h
      exact .inl ⟨rfl, (Option.some.inj h).symm⟩
    · rintro (⟨_, rfl⟩ | ⟨i, _, number⟩)
      · rfl
      · exact absurd number (past i)
  · simp only [Option.map_eq_some_iff, finOf_eq_some, undefined, false_and, false_or]
    exact exists_congr fun i => by rw [and_comm, eq_comm (a := v)]

/-- A foil map entry as data carry it, within the ranges of section 2.1.4 (R32). -/
structure FoilFields (d : List Byte) (x : FoilWeb) : Prop where
  first : (byteAt d 1).toNat = x.first.val
  last : (byteAt d 2).toNat = x.last.val
  ordered : x.first ≤ x.last
  fm : field d 3 2 = x.fm
  fmTop : x.fm ≤ 2000
  gmin : field d 5 2 = x.gmin
  gminTop : x.gmin ≤ 20000
  low : field d 7 4 = x.low
  lowTop : x.low ≤ 2147483648

theorem decodeFoilRecord_eq_some {d : List Byte} {x : FoilWeb} : decodeFoilRecord d = some x ↔ FoilFields d x := by
  simp only [decodeFoilRecord, Option.bind_eq_bind, Option.bind_eq_some_iff, finOf_eq_some]
  constructor
  · rintro ⟨first, hf, last, hl, h⟩
    split at h
    next ranges =>
      obtain ⟨ordered, fm, gmin, low⟩ := ranges
      cases h
      exact ⟨hf, hl, ordered, rfl, fm, rfl, gmin, rfl, low⟩
    · cases h
  · intro h
    refine ⟨x.first, h.first, x.last, h.last, ?_⟩
    rw [h.fm, h.gmin, h.low, if_pos ⟨h.ordered, h.fmTop, h.gminTop, h.lowTop⟩]

theorem FoilFields.inRange {d : List Byte} {x : FoilWeb} (h : FoilFields d x) : x.InRange :=
  ⟨h.ordered, h.fmTop, h.gminTop, h.lowTop⟩

/-- What WRITE FOIL MAP's data spell: ABSENT, or a record behind a leading 0 (R181). -/
theorem decodeFoil_eq_some {d : List Byte} {v : Option FoilWeb} : decodeFoil d = some v ↔
    (byteAt d 0 = absent ∧ v = none) ∨ (byteAt d 0 = 0 ∧ ∃ x, v = some x ∧ FoilFields d x) := by
  simp only [← decodeFoilRecord_eq_some]
  exact leadingByte_eq_some

/-! ### The station configuration (R37) -/

/-- What holds of every member of a table holds after one member is set to a value of which it holds. -/
theorem forall_getElem_set {α : Type} {n : Nat} {Q : α → Prop} {v : Vector α n} (h : ∀ j : Fin n, Q v[j]) (k : Fin n)
    {x : α} (q : Q x) (j : Fin n) : Q (v.set k x)[j] := by
  rw [Fin.getElem_fin, Vector.getElem_set]
  split
  · exact q
  · exact h j

theorem decodeStation_inRange {b : Byte} {v : Option Byte} (h : decodeStation b = some v) : StationInRange v := by
  unfold decodeStation at h
  split_ifs at h with unassigned range <;> cases h
  · exact fun _ e => by cases e
  · exact fun _ e => by cases e; exact range

/-- A written item lies within its range, and the other items are as they were (section 2.4). -/
theorem StationCfg.write_inRange {c w : StationCfg} {i : Item} {d : List Byte} (written : c.write i d = some w)
    (h : c.InRange) : w.InRange := by
  obtain ⟨sensor, heaters, stations, rest⟩ := h
  cases i with
  | sensor =>
    obtain ⟨v, station, rfl⟩ := Option.map_eq_some_iff.mp written
    exact ⟨decodeStation_inRange station, heaters, stations, rest⟩
  | heater k =>
    obtain ⟨v, station, rfl⟩ := Option.map_eq_some_iff.mp written
    exact ⟨sensor, forall_getElem_set heaters k (decodeStation_inRange station), stations, rest⟩
  | driveStation k =>
    obtain ⟨v, station, rfl⟩ := Option.map_eq_some_iff.mp written
    exact ⟨sensor, heaters, forall_getElem_set stations k (decodeStation_inRange station), rest⟩
  | mask k =>
    cases written
    exact ⟨sensor, heaters, stations, rest⟩
  | d | leads | nack | ntmp | jump =>
    obtain ⟨range, e⟩ := Option.ite_none_right_eq_some.mp written
    cases e
    refine ⟨sensor, heaters, stations, ?_⟩
    simp only at range ⊢
    omega

end Sys2Proof.Machine

/-! ## What a step keeps -/

namespace Sys2Proof.Machine

/-! ### The acts of the requests -/

theorem finRange_of_setStandby {s : State} {b : Bank} (h : s.standby.InRange → b.InRange)
    (banks : ∀ i : Fin 2, s.jobs.banks[i].InRange) : b.InRange := h (banks s.jobs.standbyNo)

theorem Lane.cleared_inRange : Lane.cleared.InRange := by
  unfold Lane.InRange
  decide

theorem Bank.cleared_inRange : Bank.cleared.InRange := by
  refine ⟨fun i d e => ?_, fun l => ?_, fun f w e => ?_⟩
  · rw [Bank.cleared_design] at e
    cases e
  · rw [Bank.cleared_lane]
    exact Lane.cleared_inRange
  · rw [Bank.cleared_foil] at e
    cases e

/-- A validated bank holds a job (check 8 of R40). -/
theorem Bank.isEmpty_of_validate {b : Bank} {cfg : StationCfg} (valid : b.validate cfg = none) : b.isEmpty = false := by
  have all := List.findSome?_eq_none_iff.mp valid 8 (by decide)
  cases empty : b.isEmpty with
  | false => rfl
  | true => simp [Bank.failure, empty] at all

namespace KeptByActs
variable {P : Nat → State → Prop} (k : KeptByActs P) {s : State} {n : Nat}
include k

theorem atMost (p : P n s) : ∀ m ≤ n, P m s := by
  induction n with
  | zero => intro m le; rwa [Nat.le_zero.mp le]
  | succ n ih =>
    intro m le
    rcases Nat.le_succ_iff.mp le with le | rfl
    · exact ih (k.fewer n s p) m le
    · exact p

omit k in
theorem needData {need : Nat} {act : Act} {q : Req} (h : P n (act q s).1) (p : P n s) :
    P n (needData need act q s).1 := by
  unfold Machine.needData
  split
  · exact p
  · exact h

/-- A write of one entry of the standby bank keeps the property when the entry written lies in its range. -/
theorem writeStandby {m : Nat} {α : Type} {decode : List Byte → Option α} {write : Fin m → α → Bank → Bank}
    {status : List Byte → Status} {q : Req}
    (range : ∀ i v, decode q.data = some v → s.standby.InRange → (write i v s.standby).InRange) (p : P n s) :
    P n (writeStandby m decode write status q s).1 := by
  unfold Machine.writeStandby
  split_ifs with armed bank
  · exact p
  · exact p
  · split
    · exact p
    next i _ =>
      split
      · exact p
      next v decoded =>
        exact k.standby n s _ (by simpa using armed) (finRange_of_setStandby (range i v decoded)) p

theorem writeDesign (q : Req) (p : P n s) : P n (actWriteDesign q s).1 := by
  refine needData (k.writeStandby (fun i v decoded ⟨designs, lanes, foil⟩ => ⟨?_, lanes, foil⟩) p) p
  refine forall_getElem_set (Q := fun v : Option Design => ∀ d, v = some d → d.InRange) designs i fun d e => ?_
  subst e
  rcases decodeDesign_eq_some.mp decoded with ⟨_, e⟩ | ⟨_, x, e, fields⟩ <;> cases e
  exact fields.inRange

theorem writeLane (q : Req) (p : P n s) : P n (actWriteLane q s).1 :=
  needData (k.writeStandby (fun i _ decoded ⟨designs, lanes, foil⟩ =>
    ⟨designs, forall_getElem_set lanes i (decodeLane_eq_some.mp decoded).inRange, foil⟩) p) p

theorem writeSequence (q : Req) (p : P n s) : P n (actWriteSequence q s).1 :=
  needData (k.writeStandby (fun _ _ _ range => range) p) p

theorem writeFoilMap (q : Req) (p : P n s) : P n (actWriteFoilMap q s).1 := by
  refine needData (k.writeStandby (fun i v decoded ⟨designs, lanes, foil⟩ => ⟨designs, lanes, ?_⟩) p) p
  refine forall_getElem_set (Q := fun v : Option FoilWeb => ∀ w, v = some w → w.InRange) foil i fun w e => ?_
  subst e
  rcases decodeFoil_eq_some.mp decoded with ⟨_, e⟩ | ⟨_, x, e, fields⟩ <;> cases e
  exact fields.inRange

theorem writeJob (q : Req) (p : P n s) : P n (actWriteJob q s).1 := by
  refine needData ?_ p
  simp only
  split_ifs with armed bank
  · exact p
  · exact p
  · split
    · exact p
    · exact k.standby n s _ (by simpa using armed) (finRange_of_setStandby fun range => range) p

theorem read (q : Req) (p : P n s) : P n (actRead q s).1 := by
  unfold actRead
  split
  · unfold readStation
    split
    · exact p
    · exact k.free n s 1 p
  · unfold readBank
    split
    · exact p
    · split
      · exact p
      · split <;> exact p

theorem writeStation (q : Req) (p : P n s) : P n (actWriteStation q s).1 := by
  refine needData ?_ p
  simp only
  split_ifs with busy
  · exact p
  · rw [not_or] at busy
    split
    · exact p
    · split
      · exact p
      next i _ c written =>
        exact k.cfg n s c busy.1 busy.2 (StationCfg.write_inRange written) p

theorem armChangeover (q : Req) (p : P n s) : P n (actArmChangeover q s).1 := by
  refine needData ?_ p
  split
  · exact p
  · split
    · exact p
    next valid =>
      simp only [reply]
      unfold State.armChangeover
      split
      next st => exact k.takeNow n s (.inl st) valid p
      next st => exact k.takeNow n s (.inr st) valid p
      next st => exact k.arm n s _ (.inl st) valid p
      next st => exact k.arm n s _ (.inr st) valid p

theorem cancelChangeover (q : Req) (p : P n s) : P n (actCancelChangeover q s).1 := by
  unfold actCancelChangeover
  split
  · exact k.disarm n s p
  · exact p

theorem copyActive (q : Req) (p : P n s) : P n (actCopyActive q s).1 := by
  unfold actCopyActive
  split
  · exact p
  next armed => exact k.standby n s _ (by simpa using armed) (fun banks => banks s.jobs.active) p

theorem clearStandby (q : Req) (p : P n s) : P n (actClearStandby q s).1 := by
  unfold actClearStandby
  split
  · exact p
  next armed => exact k.standby n s _ (by simpa using armed) (fun _ => Bank.cleared_inRange) p

theorem startFrom (st : s.planner.st = .ready ∨ s.planner.st = .draining) (p : P n s) : P n (startFrom s).1 := by
  unfold Machine.startFrom
  split
  · exact p
  · exact k.start n s st p

theorem starts (q : Req) (p : P n s) : P n (actStart q s).1 := by
  unfold actStart
  split
  · exact p
  next st => exact k.startFrom (.inl st) p
  next st => exact k.startFrom (.inr st) p
  · exact p

theorem stops (q : Req) (p : P n s) : P n (actStop q s).1 := by
  unfold actStop
  split
  next st => exact k.stop n s st p
  · exact p
  · exact p
  · exact p

omit k in
theorem onActiveLane {q : Req} {act : Fin 8 → State × Reply} (h : ∀ l, P n (act l).1) (p : P n s) :
    P n (onActiveLane q s act).1 := by
  unfold Machine.onActiveLane
  split
  · exact p
  · split
    · exact p
    · exact h _

theorem hold (l : Fin 8) (on : Bool) (p : P n s) : P n (s.setHold l on) :=
  k.lane n s l _ (fun _ => rfl) (fun _ range => range) p

theorem holdLane (q : Req) (p : P n s) : P n (actHoldLane q s).1 := onActiveLane (fun l => k.hold l true p) p

theorem releaseLane (q : Req) (p : P n s) : P n (actReleaseLane q s).1 := onActiveLane (fun l => k.hold l false p) p

theorem setTrim (q : Req) (p : P n s) : P n (actSetTrim q s).1 := by
  refine needData (onActiveLane (fun l => k.lane n s l _ (fun _ => rfl) (fun x range => ?_) p) p) p
  obtain ⟨len1, len16, index, -, -, rest⟩ := range
  have clamped : clampInt (-1000) 1000 (sfield q.data 0 2) = _ := clampInt_eq (by decide)
  refine ⟨len1, len16, index, ?_, ?_, rest⟩ <;> simp only [clamped] <;> omega

theorem setPitch (q : Req) (p : P n s) : P n (actSetPitch q s).1 := by
  refine needData ?_ p
  simp only
  split
  · exact p
  · exact k.pitch n s _ (by omega) (by omega) p

theorem loadFoil (q : Req) (p : P n s) : P n (actLoadFoil q s).1 := by
  refine needData ?_ p
  simp only
  split
  · exact p
  · split_ifs with absent long
    · exact p
    · exact p
    · exact k.roll n s _ _ (not_lt.mp long) p

theorem setLevel (q : Req) (p : P n s) : P n (actSetLevel q s).1 := by
  refine needData ?_ p
  split
  · exact p
  · split
    · exact p
    · exact k.level n s _ _ _ rfl p

theorem ackEvent (q : Req) (p : P n s) : P n (actAckEvent q s).1 := by
  unfold actAckEvent
  split
  · exact p
  · split
    · exact k.acked n s _ _ rfl p
    · exact p

theorem fetchLog (q : Req) (p : P n s) : P n (actFetchLog q s).1 := by
  refine needData ?_ p
  simp only
  split
  · exact p
  · exact k.fetched n s _ p

theorem setWatch (q : Req) (p : P n s) : P n (actSetWatch q s).1 := by
  refine needData ?_ p
  simp only
  split
  · exact p
  · split
    · exact p
    · exact k.watched n s _ p

omit k in
theorem snapshot (q : Req) (p : P n s) : P n (actSnapshot q s).1 := by
  refine needData ?_ p
  split_ifs <;> exact p

theorem quietAndFlush (first : List (Fin 12)) (cause : FlushCause) (p : P n s) : P n (s.quietAndFlush first cause) :=
  (k.units n).quietAndFlush first cause (fun s d q => k.raise n s _ d q) p

/-- The arm that a soft reset clears stays cleared, and its flush leaves no plan (R86). -/
theorem softReset (o : TakeOrder) (p : P n s) : P 0 (s.softReset o) := by
  unfold State.softReset
  have disarmed := k.disarm n _ (k.cleared n _ ((k.units n).settle p))
  have flushed := k.quietAndFlush o.drives .softReset (k.trackerReset n _ disarmed)
  exact k.cassettesReset 0 _ (k.plannerReset 0 _ (quietAndFlush_queue ..) (quietAndFlush_arm _ _ rfl) flushed)


theorem act (o : TakeOrder) {act : Act} (mem : act ∈ actUnknown :: actTable o) (q : Req) (p : P n s) :
    P 0 (act q s).1 := by
  have stays {t : State} (q : P n t) : P 0 t := k.atMost q 0 (Nat.zero_le n)
  simp only [actTable, List.mem_cons, List.mem_append, List.not_mem_nil, or_false, or_assoc] at mem
  obtain rfl | rfl | rfl | rfl | rfl | rfl | rfl | rfl | rfl | rfl | rfl | rfl | rfl | rfl | rfl | rfl | rfl | rfl | rfl
    | rfl | rfl | rfl | rfl | rfl | rfl | rfl | rfl | rfl | rfl := mem
  · exact stays p
  · exact stays (k.writeDesign q p)
  · exact stays (k.writeLane q p)
  · exact stays (k.writeSequence q p)
  · exact stays (k.writeFoilMap q p)
  · exact stays (k.writeJob q p)
  · exact stays (k.read q p)
  · exact stays (k.writeStation q p)
  · exact stays (k.armChangeover q p)
  · exact stays (k.cancelChangeover q p)
  · exact stays (k.copyActive q p)
  · exact stays (k.clearStandby q p)
  · exact stays (k.starts q p)
  · exact stays (k.stops q p)
  · exact stays (k.holdLane q p)
  · exact stays (k.releaseLane q p)
  · exact stays (k.setTrim q p)
  · exact stays (k.setPitch q p)
  · exact stays (k.loadFoil q p)
  · exact stays (needData (k.enables n s _ _ _ rfl p) p)
  · exact stays (needData (k.enables n s _ _ _ rfl p) p)
  · exact stays (k.setLevel q p)
  · exact stays (k.ackEvent q p)
  · exact stays (k.free n s _ p)
  · exact stays (k.fetchLog q p)
  · exact stays (k.setWatch q p)
  · exact stays (snapshot q p)
  · exact stays p
  · exact k.softReset o p

end KeptByActs

/-- The act of a code is one of the table's, or the one of an unknown code. -/
theorem actOf_mem (o : TakeOrder) (code : Byte) : actOf o code ∈ actUnknown :: actTable o := by
  unfold actOf
  split
  · exact List.mem_cons_self
  · cases h : (actTable o)[code.toNat - 1]? with
    | none => exact List.mem_cons_self
    | some act => exact List.mem_cons_of_mem _ (List.mem_of_getElem? h)

/-! ### A whole step -/

/-- What a mark makes of the tracker before it is numbered, by the state it finds and the one it leaves (R8, R11 to R17). -/
inductive Marked (s : State) : Tracker → Prop
  | noJob : s.active.isEmpty = true → Marked s { s.tracker with mode := .unlocked, lock := 0 }
  | startsLock : s.active.isEmpty = false → s.tracker.mode = .unlocked ∨ s.tracker.mode = .locking →
      Marked s { s.tracker with mode := .locking, lock := 1 }
  | locks : s.tracker.mode = .locking → s.tracker.lock + 1 = 2 → Marked s { s.tracker with mode := .locked, lock := 2 }
  | counts : s.tracker.mode = .locking → s.tracker.lock + 1 ≠ 2 →
      Marked s { s.tracker with lock := s.tracker.lock + 1 }
  | corrected : s.tracker.mode = .locked → Marked s s.tracker
  | relocked : s.tracker.mode = .coasting → Marked s { s.tracker with mode := .locked, coast := 0 }
  | coasts (c : Nat) : s.tracker.mode = .locked ∨ s.tracker.mode = .coasting →
      Marked s { s.tracker with mode := .coasting, coast := c }
  | lost : s.tracker.mode = .locked ∨ s.tracker.mode = .coasting →
      Marked s { s.tracker with mode := .unlocked, coast := 0 }

/-- Kept by what arrivals, slots, resets and silences do besides the requests, the marks and the setpoints. -/
structure ArrivalSteps (P : Nat → State → Prop) : Prop where
  reset : ∀ n s straps, P n s → P n (s.poweredOn straps) := by intros; assumption
  released : ∀ n s, P n s → P n (s.setPort { s.port with resetIn := false }) := by intros; assumption
  forward : ∀ n s raw, P n s → P n (s.forward raw) := by intros; assumption
  damaged : ∀ n s, P n s →
    P n (s.setPort { s.port with damaged := countUp Config.maxCount16 s.port.damaged }) := by intros; assumption
  answers : ∀ n s a, s.answers.length < 4 → P n s → P n (s.setAnswers (s.answers ++ [a])) := by intros; assumption
  openCycle : ∀ n s, P n s → P n s.openCycle := by intros; assumption
  frame : ∀ n s f, f.speed ≤ 500000 → P n s → P n (s.setTracker (s.tracker.take f)) := by intros; assumption
  unlock : ∀ n s, P n s → P n (s.setTracker s.tracker.unlock) := by intros; assumption
  unlocking : ∀ n s, s.tracker.mode = .locking → P n s →
    P n (s.setTracker { s.tracker with mode := .unlocked, lock := 0 }) := by intros; assumption
  stray : ∀ n s, P n s → P n s.markStray := by intros; assumption
  tmp : ∀ n s c temp fault, P n s → P n (s.readTmp c temp fault) := by intros; assumption
  dstRead : ∀ s d, P 256 s → P 256 (s.modDrive d fun x => { x with cycles := 0 }) := by intros; assumption
  dropped : ∀ s d v, P 256 s → P 256 (s.modDrive d fun x => { x with out := x.out.drop v }) := by intros; assumption
  faulted : ∀ s d, P 256 s → P 256 (s.modDrive d fun x => { x with link := .faulted }) := by intros; assumption
  answering : ∀ s d, P 256 s → P 256 (s.modDrive d fun x => { x with link := .answering }) := by intros; assumption
  flags : ∀ s (d : Fin 12) last echo, (s.drives[d].link = .silent → s.drives[d].sent = true) → P 256 s →
    P 256 (s.modDrive d fun x => { x with last, lastEcho := echo }) := by intros; assumption
  ringQuiet : ∀ n s, P n s → P n s.ringQuiet := by intros; assumption
  discarded : ∀ n s a, a = s.attention.discardWaiting.select → P n s → P n (s.setAttention a) := by intros; assumption
  trackerSilent : ∀ n s, P n s → P n (s.setTracker s.tracker.silent) := by intros; assumption
  window : ∀ n s, P n s → P n (s.setPort { s.port with window := s.port.window - 1 }) := by intros; assumption
  reportSent : ∀ n s r rest, s.report.rpts = r :: rest → P n s → P n (s.setReport { s.report with rpts := rest }) := by
    intros; assumption
  answerSent : ∀ n s a rest, s.answers = a :: rest → P n s → P n (s.setAnswers rest) := by intros; assumption
  atnSent : ∀ n s, P n s → P n (s.setAttention { s.attention with waiting := none }) := by intros; assumption

/-! #### The answer list and the waiting setpoints -/

/-- An act does not touch the answer list; its answer joins it afterwards (R159). -/
theorem keptByActs_answers (as : List Answer) : KeptByActs fun _ s => s.answers = as where
  unitSteps _ :=
    { cassette := fun s c e => (cassetteCycle_frame s c).answers.trans e }
  tests _ :=
    { decide := fun s n l d reports e => (decideEntry_frame s n l d reports).answers.trans e
      closeDone := fun s p _ reports _ _ e => (closePlan_frame s p reports).answers.trans e }
  stop s _ _ e := (drainCheck_frame _).answers.trans e
  roll s _ f _ _ e := (loadTest_frame _ f).answers.trans e

theorem act_answers {o : TakeOrder} {act : Act} (mem : act ∈ actUnknown :: actTable o) {q : Req} {s : State} :
    (act q s).1.answers = s.answers := (keptByActs_answers s.answers).act (n := 0) o mem q rfl

/-- A request is consumed only while a place is free on the answer list (R147). -/
theorem answers_of_consumed {s : State} {own : Byte} {f : Frame} (consumed : s.disposition own f = .consumed) :
    s.answers.length < 4 := by
  unfold State.disposition at consumed
  split_ifs at consumed with _ _ _ room
  exact room

/-- The first in an order is one of those ordered. -/
theorem firstDue_mem {order : List (Fin 8)} {lf : Nat} {xs : List Due} {x : Due}
    (first : firstDue order lf xs = some x) :
    x ∈ xs := by
  cases xs with
  | nil => cases first
  | cons y ys =>
    cases first
    refine (List.mem_cons.trans Iff.rfl).mpr ?_
    have fold : ∀ (zs : List Due) (best : Due), zs.foldl (fun best z => if z.before order lf best then z else best) best = best
        ∨ zs.foldl (fun best z => if z.before order lf best then z else best) best ∈ zs := by
      intro zs
      induction zs with
      | nil => exact fun _ => .inl rfl
      | cons z zs ih =>
        intro best
        rw [List.foldl_cons]
        split
        · refine .inr ((ih z).elim (fun e => ?_) (List.mem_cons_of_mem _))
          rw [e]
          exact List.mem_cons_self
        · exact (ih best).imp_right (List.mem_cons_of_mem _)
    exact fold ys y

theorem nextSetpoint_mem {s : State} {x : Due} (next : s.nextSetpoint = some x) : x ∈ s.waitingSetpoints :=
  firstDue_mem next

/-! #### One drive changed -/

theorem modDrive_same (s : State) (d : Fin 12) (f : Drive → Drive) :
    (s.modDrive d f).drives[d] = f s.drives[d] := Vector.getElem_set_self _

theorem modDrive_other (s : State) {d e : Fin 12} (f : Drive → Drive) (other : e ≠ d) :
    (s.modDrive d f).drives[e] = s.drives[e] :=
  Vector.getElem_set_ne d.isLt e.isLt fun h => other (Fin.ext h.symm)

/-- A drive that a frame without a masked flag leaves SILENT has been sent to (R131). -/
theorem recover_sent {s : State} {d : Fin 12} {flags e : Byte}
    (clean : s.drives[d].link = .silent → s.faulty d flags = false)
    (silent : (s.recover d flags e).drives[d].link = .silent) : (s.recover d flags e).drives[d].sent = true := by
  unfold State.recover at silent ⊢
  split at silent
  · rw [modDrive_same] at silent
    cases silent
  next refused =>
    rw [clean silent, Bool.not_false, Bool.true_and, Drive.accepts, Bool.or_eq_true, not_or] at refused
    split
    · rw [modDrive_same]
      simpa using refused.1
    · simpa using refused.1

theorem judgeFlags_faults {s : State} {d : Fin 12} {flags : Byte}
    (h : (s.faulty d flags && s.drives[d].link != .faulted) = true) : s.judgeFlags d flags =
      ((s.modDrive d fun x => { x with link := .faulted }).raise Event.driveFault (detail d.val)).notice d .driveFault :=
  if_pos h

theorem judgeFlags_keeps {s : State} {d : Fin 12} {flags : Byte}
    (h : ¬(s.faulty d flags && s.drives[d].link != .faulted) = true) : s.judgeFlags d flags = s := if_neg h

/-- A frame that raises a flag of the mask leaves no drive SILENT (R129). -/
theorem judgeFlags_clean {s : State} {d : Fin 12} {flags : Byte}
    (silent : (s.judgeFlags d flags).drives[d].link = .silent) : s.faulty d flags = false := by
  by_cases h : (s.faulty d flags && s.drives[d].link != .faulted) = true
  · rw [judgeFlags_faults h, (notice_frame ..).drives, raise_drives, modDrive_same] at silent
    cases silent
  · rw [judgeFlags_keeps h] at silent
    rw [silent] at h
    simpa using h

@[simp] theorem warn_drives (s : State) (d : Fin 12) (flags : Byte) : (s.warn d flags).drives = s.drives := by
  unfold State.warn
  split <;> rfl

/-- A drive that its frame leaves SILENT has been sent to: a faulty frame makes it FAULTED, and any other one returns a
drive to which nothing was sent (R129, R131). -/
theorem sent_of_stillSilent (s : State) (d : Fin 12) (flags e : Byte) :
    (((s.judgeFlags d flags).warn d flags).recover d flags e).drives[d].link = .silent →
      (((s.judgeFlags d flags).warn d flags).recover d flags e).drives[d].sent = true := by
  refine recover_sent fun silent => ?_
  rw [warn_drives] at silent
  have cfg : ((s.judgeFlags d flags).warn d flags).jobs.cfg = s.jobs.cfg :=
    ((judgeFlags_frame s d flags).trans (warn_frame ..)).cfg
  rw [State.faulty, cfg]
  exact judgeFlags_clean silent

/-- Kept by every act that a command is made of. The index counts the marks that the step may still take: it starts at
256, more than the missing marks that one cycle frame repeats; what is sent to a drive or heard from it is so before any
mark of the step. -/
structure Kept (P : Nat → State → Prop) : Prop extends KeptByActs P, ArrivalSteps P where
  mark : ∀ n s t mt r synth, n < 256 → Marked s t → P (n + 1) s → P n (s.takeMark t mt r synth)
  acknowledged : ∀ s (d : Fin 12) (r : Outstanding), r ∈ s.drives[d].out → P 256 s →
    P 256 (s.acknowledge r.item) := by intros; assumption
  due : ∀ s own x, x ∈ s.waitingSetpoints → P 256 s → P 0 (s.sendDue own x)

namespace Kept
variable {P : Nat → State → Prop} (k : Kept P) {s : State} {n : Nat}
include k

/-! #### Marks -/

theorem raised (e : Fin 18) (d : BitVec 32) (p : P n s) : P n (s.raise e d) := k.raise n s e d p

theorem synthesize (room : n < 256) (mode : s.tracker.mode = .locked ∨ s.tracker.mode = .coasting) (p : P (n + 1) s) :
    P n s.synthesize := by
  unfold State.synthesize
  simp only
  split
  · exact k.mark n _ _ _ _ _ room (.coasts (s := s.raise _ _) _ mode) (k.raised _ _ p)
  · exact k.mark n _ _ _ _ _ room (.lost (s := s.raise _ _) mode) (k.raised _ _ p)

theorem readMark (mm : Pos) (room : n < 256) (p : P (n + 1) s) : P n (s.readMark mm) := by
  have starts (job : s.active.isEmpty = false) (mode : s.tracker.mode = .unlocked ∨ s.tracker.mode = .locking) :
      P n (s.markStartsLock mm) := k.mark n _ _ _ _ _ room (.startsLock job mode) p
  unfold State.readMark
  split
  next empty => exact k.mark n _ _ _ _ _ room (.noJob empty) p
  next job =>
    rw [Bool.not_eq_true] at job
    split
    next mode => exact starts job (.inl mode)
    next mode =>
      split
      · unfold State.markLocks
        split
        next two => exact k.mark n _ _ _ _ _ room (.locks (s := s.raise _ _) mode two) (k.raised _ _ p)
        next other => exact k.mark n _ _ _ _ _ room (.counts mode other) p
      · exact starts job (.inr mode)
    next mode =>
      split
      · exact k.mark n _ _ _ _ _ room (.corrected mode) p
      · exact k.stray n s (k.fewer n s p)
    next mode =>
      split
      · exact k.mark n _ _ _ _ _ room (.relocked mode) p
      · exact k.stray n s (k.fewer n s p)

/-- Each repetition of the missing-mark test takes at most one mark (R15). -/
theorem missingMarks : ∀ (v m : Nat) (t : Thread), v + m ≤ 256 → P (v + m) t.2 → P m (missingMarks v t).2
  | 0, m, t, _, p => by rwa [Nat.zero_add] at p
  | v + 1, m, t, room, p => by
    have stays {u : State} (q : P (v + 1 + m) u) : P m u := k.atMost q m (by omega)
    have next (mode : t.2.tracker.mode = .locked ∨ t.2.tracker.mode = .coasting) :
        P m (Machine.missingMarks v (atPoint (t.1, t.2.synthesize))).2 := by
      rw [Nat.add_right_comm] at p room
      exact missingMarks v m _ (by omega) ((k.units _).atPoint _ (k.synthesize (by omega) mode p))
    unfold Machine.missingMarks
    split
    · exact stays p
    · split
      · exact stays p
      next mode => exact stays (k.unlocking _ _ mode p)
      next mode => exact next (.inl mode)
      next mode => exact next (.inr mode)

/-! #### A cycle frame -/

theorem trackerTakes (f : CycleFrame) (speed : f.speed ≤ 500000) (t : Thread) (p : P 256 t.2) :
    P 1 (trackerTakes f t).2 := by
  have taken := k.frame 256 _ f speed p
  unfold Machine.trackerTakes
  simp only
  split
  · exact k.atMost ((k.units 256).flush .disturbance true (fun _ _ q => k.raised _ _ q) (k.unlock 256 _ taken)) 1
      (by decide)
  · exact k.missingMarks 255 1 _ (by decide) taken

theorem readCycle (o : TakeOrder) (f : CycleFrame) (speed : f.speed ≤ 500000) (p : P 256 s) :
    P 1 (s.readCycle o f) := by
  have opened := (k.units 256).atPoint (o.points, s.settle.openCycle) (k.openCycle 256 _ ((k.units 256).settle p))
  have tracked : P 1 (plannerDue (Machine.trackerTakes f (atPoint (o.points, s.settle.openCycle)))).2 :=
    (k.units 1).cycDue _ _ (k.trackerTakes f speed _ opened)
  exact (k.units 1).takeUnits _ ((k.units 1).plannerAtPoints o.own _ ((k.units 1).atPoint _ tracked))

/-! #### Frames that are read -/

/-- An echo acknowledges records that stand in the drive's list; the planner's hearing leaves the list alone. -/
theorem echo (d : Fin 12) (e : Byte) (p : P 256 s) : P 256 (s.echo d e) := by
  unfold State.echo
  refine k.dropped _ d _ ?_
  have heard : ∀ (rs : List Outstanding) (u : State), (∀ r ∈ rs, r ∈ u.drives[d].out) → P 256 u →
      P 256 (rs.foldl (fun s o => s.acknowledge o.item) u) := by
    intro rs
    induction rs with
    | nil => exact fun _ _ q => q
    | cons r rs ih =>
      intro u mem q
      refine ih _ (fun x hx => ?_) (k.acknowledged u d r (mem r List.mem_cons_self) q)
      rw [(acknowledge_frame u r.item).drives]
      exact mem x (List.mem_cons_of_mem _ hx)
  exact heard _ s (fun r hr => List.mem_of_mem_take hr) p


theorem judgeFlags (d : Fin 12) (flags : Byte) (p : P 256 s) : P 256 (s.judgeFlags d flags) := by
  unfold State.judgeFlags
  split
  · exact (k.units 256).notice d _ (k.raised _ _ (k.faulted s d p))
  · exact p

theorem warn (d : Fin 12) (flags : Byte) (p : P 256 s) : P 256 (s.warn d flags) := by
  unfold State.warn
  split
  · exact k.raised _ _ p
  · exact p

theorem recover (d : Fin 12) (flags e : Byte) (p : P 256 s) : P 256 (s.recover d flags e) := by
  unfold State.recover
  split
  · exact k.answering s d p
  · exact p

theorem readDst (d : Fin 12) (flags e : Byte) (p : P 256 s) : P 256 (s.readDst d flags e) := by
  unfold State.readDst
  exact k.flags _ d flags e (sent_of_stillSilent _ d flags e)
    (k.recover d flags e (k.warn d flags (k.judgeFlags d flags (k.echo d e (k.dstRead s d p)))))

theorem readFrame (o : TakeOrder) (f : Frame) (p : P 256 s) : P 0 (s.readFrame o f) := by
  have stays {u : State} (q : P 256 u) : P 0 u := k.atMost q 0 (by decide)
  unfold State.readFrame
  split_ifs
  · exact k.fewer 0 _ (k.readCycle o _ (Nat.min_le_left ..) p)
  · exact k.readMark _ (by decide) (k.atMost ((k.units 256).takeUnit .planner p) 1 (by decide))
  · exact stays (foldl_keeps (fun u c q => k.tmp 256 u c _ _ q) _ s p)
  · exact stays (foldl_keeps (fun u d q => k.readDst d _ _ q) _ s p)
  · exact stays p

/-! #### Arrivals -/

theorem frameError (d : Damage) (p : P n s) : P n (s.frameError d) := k.raised _ _ (k.damaged n s p)


theorem arrive {raw : List Byte} {rc : Except Damage Frame} {read : Frame → State → State} {act : Byte → Act}
    (reads : ∀ f u, P 256 u → P 0 (read f u)) (acts : ∀ code, ∃ o, act code ∈ actUnknown :: actTable o) (p : P 256 s) :
    P 0 (s.arrive raw rc read act) := by
  have stays {u : State} (q : P 256 u) : P 0 u := k.atMost q 0 (by decide)
  unfold State.arrive
  split
  · exact stays p
  · split
    · exact stays (k.forward _ _ _ p)
    · split
      · exact stays (k.frameError _ p)
      next f =>
        unfold State.dispose
        split
        · exact stays (k.frameError _ p)
        · exact stays p
        next consumed =>
          obtain ⟨o, mem⟩ := acts (byteAt f.payload 0)
          refine k.answers 0 _ _ ?_ (k.act o mem _ p)
          rw [act_answers mem]
          exact answers_of_consumed consumed
        · exact stays (k.forward _ _ _ p)
        · exact reads f _ (k.forward _ _ _ p)
        · exact stays (k.forward _ _ _ p)

theorem request {h : Header} {code : Byte} {q : Req} {act : Act} (o : TakeOrder) (mem : act ∈ actUnknown :: actTable o)
    (p : P 256 s) : P 0 (s.request h code q act) :=
  k.arrive (fun _ _ q => k.atMost q 0 (by decide)) (fun _ => ⟨o, mem⟩) p

theorem arriveRead {f : Frame} {read : Frame → State → State} (reads : ∀ f u, P 256 u → P 0 (read f u))
    (p : P 256 s) : P 0 (s.arriveRead f read) :=
  k.arrive reads (fun _ => ⟨{}, List.mem_cons_self⟩) p

/-! #### Slots and silences -/

theorem sendItem (own : Byte) (p : P 256 s) : P 0 (s.sendItem own) := by
  have stays {u : State} (q : P 256 u) : P 0 u := k.atMost q 0 (by decide)
  unfold State.sendItem
  split
  · unfold State.sendReport
    split
    · unfold State.sendAnswer
      split
      · unfold State.sendAtn
        split
        · exact stays p
        · exact stays (k.atnSent _ _ (k.forward _ _ _ p))
      next a rest answers => exact stays (k.answerSent _ _ a rest answers (k.forward _ _ _ p))
    next r rest rpts => exact stays (k.reportSent _ _ r rest rpts (k.forward _ _ _ p))
  next x next => exact k.due s own x (nextSetpoint_mem next) p

theorem slot (p : P 256 s) : P 0 s.slot := by
  have stays {u : State} (q : P 256 u) : P 0 u := k.atMost q 0 (by decide)
  unfold State.slot
  split
  · exact stays p
  · split
    · exact stays p
    · exact k.sendItem _ (k.window _ _ ((k.units 256).settle p))

theorem discardAtn (p : P n s) : P n s.discardAtn := by
  unfold State.discardAtn
  split
  · exact p
  · exact k.discarded n s _ rfl p

theorem silentAttention (raiseFirst : Bool) (p : P n s) : P n (s.silentAttention raiseFirst) := by
  unfold State.silentAttention State.raiseSilent
  split
  · exact k.discardAtn (k.raised _ _ p)
  · exact k.raised _ _ (k.discardAtn p)

theorem silence (o : TakeOrder) (p : P n s) : P n (s.silence o) := by
  have quiet := k.silentAttention o.raiseFirst (k.ringQuiet n _ ((k.units n).settle p))
  exact k.cassettesReset n _ (k.quietAndFlush o.drives .ringSilence (k.trackerSilent n _ quiet))


/-! #### Commands and steps -/

theorem exec {c : Instr} {t : State} (run : Machine.exec c s = .next t) (p : P 256 s) : P 0 t := by
  have stays {u : State} (q : P 256 u) : P 0 u := k.atMost q 0 (by decide)
  have ofRequest {h : Header} {code : Byte} {q : Req} {act : Act} (o : TakeOrder) (mem : act ∈ actUnknown :: actTable o)
      (e : (.next (s.request h code q act) : Host.Outcome State Fault Refusal) = .next t) : P 0 t := by
    cases e
    exact k.request o mem p
  have ofTable {h : Header} {code : Byte} {q : Req} {act : Act} (o : TakeOrder)
      (e : (.next (s.request h code q act) : Host.Outcome State Fault Refusal) = .next t) (i : Nat) (at' : (actTable o)[i]? = some act) : P 0 t :=
    ofRequest o (List.mem_cons_of_mem _ (List.mem_of_getElem? at')) e
  have ofUnit {b : Bool} {u : CycUnit} (e : (.next (if b then s.takeUnit u else s) : Host.Outcome State Fault Refusal) = .next t) : P 0 t := by
    cases e
    split
    · exact stays ((k.units 256).takeUnit u p)
    · exact stays p
  cases c with
  | powerOnReset straps => cases run; exact stays (k.reset 256 s straps p)
  | powerOnResetRelease => cases run; exact stays (k.released 256 s p)
  | cycArrival h payload o =>
    cases run
    exact k.arriveRead (fun f u q => k.fewer 0 _ (k.readCycle o _ (Nat.min_le_left ..) q)) p
  | mrkArrival h payload =>
    cases run
    exact k.arriveRead (fun f u q =>
      k.readMark _ (by decide) (k.atMost ((k.units 256).takeUnit .planner q) 1 (by decide))) p
  | tmpArrival h payload o =>
    cases run
    exact k.arriveRead (fun f u q => stays (foldl_keeps (fun u c q => k.tmp 256 u c _ _ q) _ u q)) p
  | dstArrival h payload o =>
    cases run
    exact k.arriveRead (fun f u q => stays (foldl_keeps (fun u d q => k.readDst d _ _ q) _ u q)) p
  | frameArrival raw o =>
    cases run
    exact k.arrive (fun f u q => k.readFrame o f q) (fun code => ⟨o, actOf_mem o code⟩) p
  | injectionSlot => cases run; exact k.slot p
  | ringSilence o =>
    cases run
    split
    · exact stays (k.silence o p)
    · exact stays p
  | tmpTimeout c => exact ofUnit run
  | soakComplete c => exact ofUnit run
  | driftExpiry c => exact ofUnit run
  | answerTimeout d => exact ofUnit run
  | dstTimeout d => exact ofUnit run
  | writeDesign h q => exact ofTable {} run 0 rfl
  | writeLane h q => exact ofTable {} run 1 rfl
  | writeSequence h q => exact ofTable {} run 2 rfl
  | writeFoilMap h q => exact ofTable {} run 3 rfl
  | writeJob h q => exact ofTable {} run 4 rfl
  | read h q => exact ofTable {} run 5 rfl
  | writeStation h q => exact ofTable {} run 6 rfl
  | armChangeover h q => exact ofTable {} run 7 rfl
  | cancelChangeover h q => exact ofTable {} run 8 rfl
  | copyActiveToStandby h q => exact ofTable {} run 9 rfl
  | clearStandby h q => exact ofTable {} run 10 rfl
  | start h q => exact ofTable {} run 11 rfl
  | stop h q => exact ofTable {} run 12 rfl
  | holdLane h q => exact ofTable {} run 13 rfl
  | releaseLane h q => exact ofTable {} run 14 rfl
  | setTrim h q => exact ofTable {} run 15 rfl
  | setPitch h q => exact ofTable {} run 16 rfl
  | loadFoil h q => exact ofTable {} run 17 rfl
  | eventEnable h q => exact ofTable {} run 18 rfl
  | eventDisable h q => exact ofTable {} run 19 rfl
  | setLevel h q => exact ofTable {} run 20 rfl
  | ackEvent h q => exact ofTable {} run 21 rfl
  | pollEvents h q => exact ofTable {} run 22 rfl
  | fetchLog h q => exact ofTable {} run 23 rfl
  | setWatch h q => exact ofTable {} run 24 rfl
  | snapshot h q => exact ofTable {} run 25 rfl
  | identify h q => exact ofTable {} run 26 rfl
  | softReset h q o => exact ofTable o run 27 rfl
  | unknownRequestCode h code q => exact ofRequest {} (actOf_mem {} code) run

/-- What every act of a step keeps, the step keeps. -/
theorem step {t : State} (run : Machine.step s = .next t) (p : P 256 s)
    (pending : ∀ v, P 256 s → P 256 (s.setPending v) := by intros; assumption) : P 0 t := by
  unfold Machine.step at run
  split at run
  · cases run
    exact k.atMost p 0 (by decide)
  · exact k.exec run (pending _ p)

end Kept

end Sys2Proof.Machine

/-! ## What is kept part by part

Where a property speaks of one block alone, the compound acts of the planner and the foil allocator keep it because each
of the small changes that they are made of does. -/

namespace Sys2Proof.Machine

/-! ### Decisions and tests -/

/-- The events that a decision may raise: those of the log and of the watch unit, and CHANGEOVER_TAKEN (R42, R169, R172). -/
def decisionEvents : List (Fin 18) :=
  [Event.logOverwrite, Event.logHalf, Event.watchHit, Event.changeoverTaken]

/-- Kept by each change that telling of a decision is made of: its record, its report, its count. -/
structure ReportParts (P : State → Prop) : Prop where
  event : ∀ s k d, k ∈ decisionEvents → P s → P (s.raise k d) := by intros; assumption
  write : ∀ s r, P s → P (s.setReport (s.report.write r)) := by intros; assumption
  hand : ∀ s r, P s → P (s.handReport r) := by intros; assumption
  count : ∀ s l d, P s → P (s.setPlanner (s.planner.count l d)) := by intros; assumption

/-- Kept by each change that a decision, a test of the planner or an acknowledgement is made of. -/
structure PlanParts (P : State → Prop) : Prop extends ReportParts P where
  queue : ∀ s q, q.length ≤ s.planner.queue.length → P s → P (s.setPlanner { s.planner with queue := q }) := by
    intros; assumption
  release : ∀ s f v, P s → P (s.modFoil f fun a => a.release v) := by intros; assumption
  state : ∀ s st, P s → P (s.setPlannerState st) := by intros; assumption
  pointer : ∀ s, (s.jobs.arm = none → s.standby.validate s.jobs.cfg = none) → P s →
    P ((s.setJobs { s.jobs with active := s.jobs.standbyNo, arm := none }).setTracker
      { s.tracker with staged := none }) := by intros; assumption

@[simp] theorem length_updateFirst {α : Type} (p : α → Bool) (f : α → α) (l : List α) :
    (updateFirst p f l).length = l.length := by
  rw [updateFirst_eq_atFirst, atFirst, List.length_modify]

theorem length_removeFirst_le {α : Type} (p : α → Bool) (l : List α) : (removeFirst p l).length ≤ l.length := by
  rw [removeFirst_eq_eraseP]
  exact List.length_eraseP_le

namespace ReportParts
variable {P : State → Prop} (k : ReportParts P) {s : State}
include k

theorem raiseOverwrite (rep : Report) (p : P s) : P (raiseOverwrite rep s) := by
  unfold Machine.raiseOverwrite
  split
  · exact p
  · split
    · exact p
    · exact k.event _ _ _ (by decide) p

theorem raiseHalf (rep : Report) (p : P s) : P (raiseHalf rep s) := by
  unfold Machine.raiseHalf
  split
  · exact k.event _ _ _ (by decide) p
  · exact p

theorem raiseWatch (rep : Report) (r : LogRecord) (p : P s) : P (raiseWatch rep r s) := by
  unfold Machine.raiseWatch
  split
  · exact p
  · exact k.event _ _ _ (by decide) p

theorem writeLog (r : LogRecord) (p : P s) : P (s.writeLog r) :=
  k.raiseWatch _ r (k.raiseHalf _ (k.raiseOverwrite _ (k.write s r p)))

theorem countPlan (q : Plan) (p : P s) : P (s.countPlan q) := by
  have counted : ∀ (es : List Entry) (v : Planner), P (s.setPlanner v) → P (s.setPlanner (es.foldl Planner.countEntry v)) := by
    intro es
    induction es with
    | nil => exact fun _ p => p
    | cons e es ih =>
      intro v p
      refine ih _ ?_
      unfold Planner.countEntry
      split
      · exact p
      · exact k.count (s.setPlanner v) _ _ p
  exact counted _ s.planner p

end ReportParts

namespace PlanParts
variable {P : State → Prop} (k : PlanParts P) {s : State}
include k

theorem takeChangeover (valid : s.jobs.arm = none → s.standby.validate s.jobs.cfg = none) (p : P s) :
    P s.takeChangeover := k.event _ _ _ (by decide) (k.pointer s valid p)

theorem changeoverCheck (n : Rep) (p : P s) : P (s.changeoverCheck n) := by
  unfold State.changeoverCheck
  split
  next due => exact k.takeChangeover (fun none => by simp [Jobs.isDue, none] at due) p
  · exact p

theorem drainCheck (p : P s) : P s.drainCheck := by
  unfold State.drainCheck State.enterReady
  split
  · simp only
    split
    next armed => exact k.takeChangeover (fun none => by rw [none] at armed; cases armed) (k.state s .ready p)
    · exact k.state s .ready p
  · exact p

theorem modPlan (n : Rep) (f : Plan → Plan) (p : P s) : P (s.modPlan n f) := k.queue s _ (by simp) p

theorem dropPlan (n : Rep) (p : P s) : P (s.dropPlan n) := k.queue s _ (length_removeFirst_le ..) p

theorem closePlan (q : Plan) (reports : Bool) (p : P s) : P (s.closePlan q reports) := by
  unfold State.closePlan
  simp only
  refine k.drainCheck (k.dropPlan _ ?_)
  split
  · exact k.hand _ _ (k.countPlan q p)
  · exact k.countPlan q p

theorem releaseSpent (q : Plan) (i : Option Nat) (p : P s) : P (s.releaseSpent q i) := by
  unfold State.releaseSpent
  split
  · exact p
  · exact k.release s _ _ p

theorem decideEntry (n : Rep) (l : Fin 8) (d : Decision) (reports : Bool) (p : P s) :
    P (s.decideEntry n l d reports) := by
  unfold State.decideEntry
  split
  · exact p
  · split
    · exact p
    · unfold State.decideIn
      simp only
      split
      · exact k.closePlan _ _ (k.writeLog _ (k.modPlan _ _ (k.releaseSpent _ _ p)))
      · exact k.writeLog _ (k.modPlan _ _ (k.releaseSpent _ _ p))

theorem tests : KeptByTests P where
  decide _ n l d reports p := k.decideEntry n l d reports p
  closeDone _ q _ reports _ _ p := k.closePlan q reports p
  withdraw _ _ _ _ _ _ _ _ _ p := k.release _ _ _ (k.modPlan _ _ p)
  moveDue _ _ _ p := k.modPlan _ _ p
  entryDue _ _ _ p := k.modPlan _ _ p

theorem acknowledge (i : PlanItem) (p : P s) : P (s.acknowledge i) := by
  cases i with
  | phs n l => exact k.modPlan _ _ p
  | fmv n i => exact k.modPlan _ _ p

end PlanParts

/-! ### Marks -/

/-- The events that the planning of a repeat may raise besides those of a decision (R60, R64, R94, R97). -/
def draftEvents : List (Fin 18) :=
  [Event.planOverflow, Event.foilOut, Event.foilLow, Event.sequenceWrap]

/-- Kept by each change that the planning of a repeat is made of. -/
structure DraftParts (P : State → Prop) : Prop extends ReportParts P where
  draftEvent : ∀ s k d, k ∈ draftEvents → P s → P (s.raise k d) := by intros; assumption
  advance : ∀ s l, P s → P (s.setActive (s.active.modLane l Lane.advance)) := by intros; assumption
  join : ∀ s p, s.planner.queue.length < 32 → P s →
    P (s.setPlanner { s.planner with queue := s.planner.queue ++ [p] }) := by intros; assumption
  reserve : ∀ s f v, P s → P (s.modFoil f fun a => a.reserve v) := by intros; assumption
  low : ∀ s f, P s → P (s.modFoil f fun a => { a with low := true }) := by intros; assumption
  save : ∀ s f lr v, P s → P (s.modFoil f fun a => a.save lr v) := by intros; assumption

/-- Kept by each change that a mark and the planning of its repeat are made of, besides those of a decision. -/
structure MarkParts (P : State → Prop) : Prop extends PlanParts P, DraftParts P where
  numbered : ∀ s t mt, Marked s t → P s → P (s.setTracker { t with mtPrev := mt, repeatNo := s.tracker.repeatNo + 1 }) := by
    intros; assumption
  pitch : ∀ s l, s.tracker.staged = some l → P s →
    P ((s.setActive { s.active with job := { s.active.job with lr := l } }).setTracker
      { s.tracker with staged := none }) := by intros; assumption

/-- What a mark makes of the tracker's items besides its mode and its counts (R8 to R17). -/
theorem Marked.keeps {s : State} {t : Tracker} (mark : Marked s t) :
    t.stray = s.tracker.stray ∧ t.speed = s.tracker.speed ∧ t.staged = s.tracker.staged := by
  cases mark <;> exact ⟨rfl, rfl, rfl⟩

@[simp] theorem setActive_planner (s : State) (b : Bank) : (s.setActive b).planner = s.planner := rfl

theorem lowTest_planner (s : State) (f : Fin 4) : (s.lowTest f).planner = s.planner := by
  unfold State.lowTest
  split <;> rfl

theorem group_planner (nip : Pos) (f : Fin 4) (later : List (Fin 4)) (d : Draft) :
    (d.group nip f later).s.planner = d.s.planner := by
  unfold Draft.group
  simp only
  split
  · rfl
  · split
    · rfl
    · exact lowTest_planner _ _

theorem groups_planner (nip : Pos) : ∀ (fs : List (Fin 4)) (d : Draft),
    (Draft.groups nip fs d).s.planner = d.s.planner
  | [], _ => rfl
  | f :: later, d => (groups_planner nip later _).trans (group_planner nip f later d)

@[simp] theorem draft_planner (s : State) (h : HandOver) : (s.draft h).s.planner = s.planner :=
  groups_planner _ webs4 { s, entries := lanes8.filterMap (s.laneEntry h (h.mt + len s.jobs.cfg.d)), moves := [] }

@[simp] theorem advanceLane_planner (s : State) (l : Fin 8) : (s.advanceLane l).planner = s.planner := by
  unfold State.advanceLane
  simp only
  split <;> rfl

@[simp] theorem advanceLanes_planner (s : State) (es : List Entry) : (s.advanceLanes es).planner = s.planner :=
  foldl_keeps (P := fun v : State => v.planner = s.planner) (fun v e h => (advanceLane_planner v e.lane).trans h) _ s rfl

@[simp] theorem logPlanned_planner (s : State) (p : Plan) : (s.logPlanned p).planner = s.planner := by
  refine foldl_keeps (P := fun v : State => v.planner = s.planner) (fun v e h => ?_) p.entries s rfl
  split
  · exact h
  · rw [writeLog_planner, h]

namespace DraftParts
variable {P : State → Prop} (k : DraftParts P) {s : State}
include k

theorem lowTest (f : Fin 4) (p : P s) : P (s.lowTest f) := by
  unfold State.lowTest
  split
  · exact k.draftEvent _ _ _ (by decide) (k.low s f p)
  · exact p

theorem groups (nip : Pos) : ∀ (fs : List (Fin 4)) (d : Draft), P d.s → P (Draft.groups nip fs d).s
  | [], _, p => p
  | f :: later, d, p => by
    refine groups nip later _ ?_
    unfold Draft.group
    simp only
    split
    · exact p
    · split
      · exact k.draftEvent _ _ _ (by decide) p
      · exact k.save _ _ _ _ (k.lowTest f (k.reserve _ _ _ p))

theorem advanceLanes (es : List Entry) (p : P s) : P (s.advanceLanes es) := by
  refine foldl_keeps (fun v e q => ?_) _ s p
  unfold State.advanceLane
  simp only
  split
  · exact k.draftEvent _ _ _ (by decide) (k.advance v _ q)
  · exact k.advance v _ q

theorem logPlanned (q : Plan) (p : P s) : P (s.logPlanned q) := by
  refine foldl_keeps (fun v e r => ?_) _ s p
  split
  · exact r
  · exact k.writeLog _ r

theorem joinOrClose (q : Plan) (room : s.planner.queue.length < 32) (p : P s) : P (s.joinOrClose q) := by
  unfold State.joinOrClose
  split
  · exact k.hand _ _ (k.countPlan q p)
  · exact k.join s q room p

theorem planEntries (h : HandOver) (first : Bool) (room : s.planner.queue.length < 32) (p : P s) :
    P (s.planEntries h first) := by
  unfold State.planEntries
  exact k.joinOrClose _ (by simpa using room) (k.logPlanned _ (k.advanceLanes _ (k.groups _ _ _ p)))

theorem overflow (h : HandOver) (p : P s) : P (s.overflow h) := by
  unfold State.overflow
  exact k.draftEvent _ _ _ (by decide) (k.hand _ _ (foldl_keeps (fun v l q => k.count _ _ _ (k.writeLog _ q)) _ s p))

end DraftParts

namespace MarkParts
variable {P : State → Prop} (k : MarkParts P) {s : State}
include k

theorem takePitch (p : P s) : P s.takePitch := by
  unfold State.takePitch
  split
  · exact p
  next l staged => exact k.pitch s l staged p

theorem plannerTakes (h : HandOver) (p : P s) : P (s.plannerTakes h) := by
  unfold State.plannerTakes
  split
  · exact p
  · exact p
  · unfold State.planRepeat
    split
    · exact k.overflow h p
    next room =>
      refine k.planEntries h _ ?_ (k.changeoverCheck _ p)
      unfold State.changeoverCheck
      have : s.planner.queue.length < 32 := not_le.mp room
      split <;> exact this
  · exact k.changeoverCheck _ p

theorem takeMark (t : Tracker) (mt : Pos) (r : Int) (synth : Bool) (mark : Marked s t) (p : P s) :
    P (s.takeMark t mt r synth) :=
  k.takePitch (k.plannerTakes _ (k.numbered s t mt mark p))

end MarkParts

/-! ### Setpoints sent -/

/-- A list with its first member that meets a test changed, related one by one to the list before. -/
theorem forall₂_updateFirst {α : Type} {R : α → α → Prop} (refl : ∀ x, R x x) {f : α → α} (changed : ∀ x, R x (f x))
    (test : α → Bool) : ∀ l : List α, List.Forall₂ R l (updateFirst test f l)
  | [] => .nil
  | x :: xs => by
    simp only [updateFirst]
    split
    · exact .cons (changed x) (List.forall₂_same.mpr fun x _ => refl x)
    · exact .cons (refl x) (forall₂_updateFirst refl changed test xs)

theorem forall₂_modify {α : Type} {R : α → α → Prop} (refl : ∀ x, R x x) {f : α → α} (changed : ∀ x, R x (f x)) :
    ∀ (l : List α) (i : Nat), List.Forall₂ R l (l.modify i f)
  | [], i => by simp
  | x :: xs, 0 => .cons (changed x) (List.forall₂_same.mpr fun x _ => refl x)
  | x :: xs, i + 1 => .cons (refl x) (forall₂_modify refl changed xs i)

/-- A move that is unsent only where the other one is. -/
def Move.After (m m' : Move) : Prop := m'.st.isUnsent = true → m.st.isUnsent = true

/-- A plan that differs from another in the states of its setpoints and in the numbers of its moves alone: of the same
repeat, with as many moves, none of which has become unsent, its entries for the same lanes and decided alike. -/
def Plan.SameShape (p q : Plan) : Prop :=
  q.repeatNo = p.repeatNo ∧ List.Forall₂ Move.After p.moves q.moves
    ∧ q.entries.map (fun e => (e.lane, e.undecided)) = p.entries.map (fun e => (e.lane, e.undecided))

theorem movesAfter_refl (ms : List Move) : List.Forall₂ Move.After ms ms := List.forall₂_same.mpr fun _ _ => id

theorem Plan.SameShape.refl (p : Plan) : p.SameShape p := ⟨rfl, movesAfter_refl _, rfl⟩

theorem Plan.sameShape_modMove (p : Plan) (i : Nat) {f : Move → Move} (sent : ∀ m : Move, m.After (f m)) :
    p.SameShape (p.modMove i f) :=
  ⟨rfl, forall₂_modify (fun _ => id) sent _ _, rfl⟩

/-- A list mapped to a quality keeps it when one member is changed in other qualities. -/
theorem map_updateFirst {α β : Type} {g : α → β} {f : α → α} (same : ∀ x, g (f x) = g x) (p : α → Bool) (l : List α) :
    (updateFirst p f l).map g = l.map g := by
  induction l with
  | nil => rfl
  | cons x xs ih =>
    simp only [updateFirst]
    split <;> simp [same, ih]

theorem Plan.sameShape_modEntries (p : Plan) (test : Entry → Bool) {f : Entry → Entry}
    (same : ∀ e : Entry, (f e).lane = e.lane ∧ (f e).undecided = e.undecided) :
    p.SameShape { p with entries := updateFirst test f p.entries } :=
  ⟨rfl, movesAfter_refl _, map_updateFirst (fun e => by rw [(same e).1, (same e).2]) _ _⟩

/-- What a move makes of its state: made DUE it is unsent still, withdrawn, sent or acknowledged it is not. -/
theorem Move.after_release (m : Move) : m.After { m with st := m.st.release } := by
  intro unsent
  simp only [SetState.release] at unsent
  split at unsent
  next same => rw [same]; rfl
  · exact unsent

theorem Move.after_of_sent {m m' : Move} (sent : m'.st.isUnsent = false) : m.After m' := fun unsent => by
  rw [sent] at unsent
  cases unsent

/-- Plans of the same shapes, one by one. -/
def SameShapes (q r : List Plan) : Prop := List.Forall₂ Plan.SameShape q r

theorem SameShapes.refl (q : List Plan) : SameShapes q q := List.forall₂_same.mpr fun p _ => .refl p

theorem SameShapes.length {q r : List Plan} (h : SameShapes q r) : r.length = q.length := h.length_eq.symm

theorem sameShapes_updateFirst (test : Plan → Bool) {f : Plan → Plan} (same : ∀ p : Plan, p.SameShape (f p))
    (q : List Plan) :
    SameShapes q (updateFirst test f q) := forall₂_updateFirst .refl same test q

theorem movesAfter_trim (f : Fin 4) (t : Nat) (ms : List Move) :
    List.Forall₂ Move.After ms (updateFirst (Move.canFollow f) (Move.trim t) ms) :=
  forall₂_updateFirst (fun _ => id) (fun _ => id) _ ms

theorem sameShapes_trimPlans (f : Fin 4) (t : Nat) : ∀ q : List Plan, SameShapes q (trimPlans f t q)
  | [] => .nil
  | p :: q => by
    simp only [trimPlans]
    split
    · exact .cons ⟨rfl, movesAfter_trim .., rfl⟩ (SameShapes.refl q)
    · exact .cons (.refl p) (sameShapes_trimPlans f t q)

theorem sameShapes_trimSuccessor (f : Fin 4) (i t : Nat) : ∀ q : List Plan, SameShapes q (trimSuccessor f i t q)
  | [] => .nil
  | p :: q => by
    simp only [trimSuccessor]
    split
    · have moves := List.rel_append (movesAfter_refl (p.moves.take (i + 1))) (movesAfter_trim f t (p.moves.drop (i + 1)))
      simp only [List.take_append_drop] at moves
      exact .cons ⟨rfl, moves, rfl⟩ (SameShapes.refl q)
    · exact .cons (.refl p) (sameShapes_trimPlans f t q)

theorem sameShapes_onPlansFrom (n : Rep) (f : Fin 4) (i t : Nat) (q : List Plan) :
    SameShapes q (onPlansFrom n (trimSuccessor f i t) q) := by
  have parts := List.takeWhile_append_dropWhile (p := fun p => !p.isRepeat n) (l := q)
  have joined : SameShapes (q.takeWhile (fun p => !p.isRepeat n) ++ plansFrom n q) (onPlansFrom n (trimSuccessor f i t) q) :=
    List.rel_append (SameShapes.refl _) (sameShapes_trimSuccessor f i t (plansFrom n q))
  rwa [plansFrom, parts] at joined

/-- Kept by each change that the sending of a setpoint is made of. -/
structure SetpointParts (P : State → Prop) : Prop where
  replan : ∀ s q, SameShapes s.planner.queue q → P s → P (s.setPlanner { s.planner with queue := q }) := by
    intros; assumption
  raise : ∀ s k d, P s → P (s.raise k d) := by intros; assumption
  low : ∀ s f, P s → P (s.modFoil f fun a => { a with low := true }) := by intros; assumption
  consume : ∀ s f m c, P s → P (s.modFoil f fun a => a.consume m c) := by intros; assumption
  order : ∀ s e, P s → P (s.setPort { s.port with order := s.orderAfter e }) := by intros; assumption
  send : ∀ s (d : Fin 12) i, s.drives[d].eligible = true → P s → P (s.modDrive d fun x => x.send i) := by
    intros; assumption
  forward : ∀ s raw, P s → P (s.forward raw) := by intros; assumption

/-- Kept by each change that a step is made of, besides those that a property names one by one. -/
structure SendParts (P : State → Prop) : Prop extends MarkParts P, SetpointParts P

namespace SetpointParts
variable {P : State → Prop} (k : SetpointParts P) {s : State}
include k

theorem modPlan (n : Rep) {f : Plan → Plan} (same : ∀ p : Plan, p.SameShape (f p)) (p : P s) : P (s.modPlan n f) :=
  k.replan s _ (sameShapes_updateFirst _ same _) p

theorem sendFoil (n : Rep) (i : Nat) (m : Move) (c : SendPlan) (p : P s) : P (s.sendFoil n i m c) := by
  have trimmed : P (s.trimNext n i m c) := by
    unfold State.trimNext
    split
    · exact p
    · exact k.replan s _ (sameShapes_onPlansFrom ..) p
  unfold State.sendFoil
  simp only
  split
  · exact k.consume _ _ _ _ trimmed
  · unfold State.lowTest
    split
    · exact k.raise _ _ _ (k.low _ _ (k.consume _ _ _ _ trimmed))
    · exact k.consume _ _ _ _ trimmed

theorem sendDue (own : Byte) (x : Due) (waits : x ∈ s.waitingSetpoints) (p : P s) : P (s.sendDue own x) := by
  have eligible : s.drives[x.drive].eligible = true := (List.mem_filter.mp waits).2
  cases x with
  | phs n e =>
    have sent (p : Plan) : p.SameShape (p.sendPhs e s.drives[cassetteDrive e.lane].next) :=
      p.sameShape_modEntries _ fun _ => ⟨rfl, rfl⟩
    exact k.forward _ _ (k.send _ _ _ eligible (k.modPlan _ sent (k.order s e p)))
  | fmv n i m =>
    refine k.forward _ _ (k.send _ _ _ ?_ (k.modPlan _ (fun p => p.sameShape_modMove _ fun _ => Move.after_of_sent rfl) (k.sendFoil n i m _ p)))
    rw [(modPlan_frame ..).drives, (sendFoil_frame ..).drives]
    exact eligible

end SetpointParts

/-! ### Cassettes and rolls -/

/-- A cassette's part of a cycle frame changes that cassette and may raise CASSETTE_COLD (R115 to R117). -/
theorem cassetteCycle_keeps {P : State → Prop} {s : State} {c : Fin 8}
    (changed : P (s.modCassette c (·.cycled s.jobs.cfg.ntmp s.active.lanes[c].nsoak s.active.lanes[c].ndrift)))
    (raise : ∀ u d, P u → P (u.raise Event.cassetteCold d)) : P (s.cassetteCycle c) := by
  unfold State.cassetteCycle
  simp only
  split
  · exact raise _ _ changed
  · exact changed

/-- A temperature report changes the cassettes it is read for and may raise CASSETTE_COLD (R112 to R114, R118). -/
theorem readTmp_keeps {P : State → Prop} {s : State} {c : Fin 8} {temp : Int} {fault : Bool}
    (changed : ∀ u f, P u → P (State.modCassette u c f)) (raise : ∀ u d, P u → P (State.raise u Event.cassetteCold d))
    (p : P s) : P (s.readTmp c temp fault) := by
  unfold State.readTmp
  simp only
  split
  · exact changed _ _ (changed _ _ p)
  · split
    · exact raise _ _ (changed _ _ (changed _ _ p))
    · exact changed _ _ (changed _ _ p)

theorem PlanParts.takeNow {P : State → Prop} (k : PlanParts P) {s : State}
    (valid : s.standby.validate s.jobs.cfg = none) (p : P s) : P s.takeNow :=
  k.state _ _ (k.takeChangeover (fun _ => valid) p)

/-- The low test both ways at a loaded roll (R104). -/
theorem MarkParts.loadTest {P : State → Prop} (k : MarkParts P) {s : State} {f : Fin 4}
    (clear : P (s.modFoil f fun a => { a with low := false })) (p : P s) : P (s.loadTest f) := by
  unfold State.loadTest
  split
  · exact clear
  · exact k.lowTest f p

/-! ### A whole step -/

/-- A property of one block is kept along a step when each of the small changes keeps it. -/
theorem SendParts.kept {P : State → Prop} (parts : SendParts P) (acts : ActSteps fun _ => P)
    (arrivals : ArrivalSteps fun _ => P)
    (clear : ∀ s f, P s → P (s.modFoil f fun a => { a with low := false }) := by intros; assumption)
    (load : ∀ s f v, v ≤ Config.maxFoil → P s → P (s.modFoil f fun a => { a with remaining := max v a.reserved }) := by
      intros; assumption) : Kept fun _ => P where
  toActSteps := acts
  toArrivalSteps := arrivals
  tests _ := parts.tests
  takeNow _ _ _ valid p := parts.takeNow valid p
  stop _ s _ p := parts.drainCheck (parts.state s .draining p)
  roll _ s f v most p := parts.loadTest (clear _ f (load s f v most p)) (load s f v most p)
  mark _ _ _ _ _ _ _ m p := parts.takeMark _ _ _ _ m p
  acknowledged _ _ _ _ p := parts.acknowledge _ p
  due _ _ _ waits p := parts.toSetpointParts.sendDue _ _ waits p

end Sys2Proof.Machine

/-! ## Invariants of one block -/

namespace Sys2Proof.Machine

/-! ### The queue of commands -/

theorem sendParts_pending (cs : List Instr) : SendParts fun s => s.pending = cs where

theorem kept_pending (cs : List Instr) : Kept fun _ s => s.pending = cs :=
  (sendParts_pending cs).kept
    { unitSteps := fun _ => { cassette := fun _ _ p => cassetteCycle_keeps (P := fun s => s.pending = cs) p fun _ _ p => p } }
    { tmp := fun _ _ _ _ _ p => readTmp_keeps (P := fun s => s.pending = cs) (fun _ _ p => p) (fun _ _ p => p) p }

/-- Every command gives a next state: no arm of the dispatch stops the part. -/
theorem exec_next (c : Instr) (s : State) : ∃ t, exec c s = .next t := by
  cases c <;> exact ⟨_, rfl⟩

/-- Settles O2: every arm answers a next state, and no act of a command touches the queue of commands. -/
theorem everyCommandCompletes : Obligations.EveryCommandCompletes := by
  intro c s
  obtain ⟨t, run⟩ := exec_next c s
  exact ⟨t, run, (kept_pending s.pending).exec run rfl⟩


/-! ### The bounds of lists and queues -/

theorem length_joinReports_le {rs : List RepeatReport} (bound : rs.length ≤ 8) (r : RepeatReport) :
    (joinReports rs r).length ≤ 8 := by
  unfold joinReports
  split
  next room =>
    have : rs.length < 8 := room
    simp
    omega
  · simp
    omega

theorem length_write_log_le {rep : Report} (bound : rep.log.length ≤ 256) (r : LogRecord) :
    (rep.write r).log.length ≤ 256 := by
  rw [(Report.logTook_write bound r).length, List.length_singleton]
  omega

/-- A bound on every drive's list holds after one drive is changed when it holds of the change. -/
theorem forall_modDrive {Q : Drive → Prop} {s : State} (h : ∀ d : Fin 12, Q s.drives[d]) (d : Fin 12)
    {f : Drive → Drive}
    (q : Q (f s.drives[d])) : ∀ e : Fin 12, Q (s.modDrive d f).drives[e] := forall_getElem_set h d q

theorem forall_replicate {α : Type} {n : Nat} {Q : α → Prop} {x : α} (q : Q x) (i : Fin n) :
    Q (Vector.replicate n x)[i] := by
  rw [Fin.getElem_fin, Vector.getElem_replicate]
  exact q

/-- A drive whose list stays within four records may change in every other way. -/
theorem State.ListsBounded.modDrive {s : State} (h : s.ListsBounded) (d : Fin 12) {f : Drive → Drive}
    (bound : s.drives[d].out.length ≤ 4 → (f s.drives[d]).out.length ≤ 4) : (s.modDrive d f).ListsBounded := by
  obtain ⟨queue, answers, rpts, log, window, out⟩ := h
  exact ⟨queue, answers, rpts, log, window, forall_modDrive (Q := fun x => x.out.length ≤ 4) out d (bound (out d))⟩

theorem sendParts_lists : SendParts State.ListsBounded where
  write _ r h := by
    obtain ⟨queue, answers, rpts, log, rest⟩ := h
    exact ⟨queue, answers, rpts, length_write_log_le log r, rest⟩
  hand s r h := by
    obtain ⟨queue, answers, rpts, rest⟩ := h
    refine ⟨queue, answers, ?_, ?_⟩ <;> simp only [State.handReport, Report.handReport, State.setReport_report] <;> split
    · exact rpts
    · exact length_joinReports_le rpts r
    · exact rest
    · exact rest
  queue _ _ shorter h := ⟨shorter.trans h.1, h.2⟩
  replan _ _ same h := ⟨same.length.le.trans h.1, h.2⟩
  count s l d h := by
    obtain ⟨queue, rest⟩ := h
    exact ⟨by simpa using queue, rest⟩
  join s p room h := ⟨by simpa using room, h.2⟩
  send _ d _ eligible h := by
    refine h.modDrive d fun _ => ?_
    have room : _ < 4 := of_decide_eq_true (Bool.and_eq_true_iff.mp eligible).2
    simpa [Drive.send] using room

theorem actSteps_lists : ActSteps fun _ s => s.ListsBounded where
  unitSteps _ :=
    { cassette := fun _ _ p => cassetteCycle_keeps p fun _ _ p => p
      counted := fun _ d h => h.modDrive d fun out => by simpa [Drive.counted] using out
      silenced := fun _ d h => h.modDrive d fun _ => Nat.zero_le 4 }
  fetched _ s v h := by
    obtain ⟨queue, answers, rpts, log, rest⟩ := h
    exact ⟨queue, answers, rpts, by simp; omega, rest⟩

theorem arrivalSteps_lists : ArrivalSteps fun _ s => s.ListsBounded where
  reset _ _ _ _ := ⟨Nat.zero_le _, Nat.zero_le _, Nat.zero_le _, Nat.zero_le _, Nat.zero_le _,
    forall_replicate (Q := fun x : Drive => x.out.length ≤ 4) (Nat.zero_le 4)⟩
  answers _ s a room h := by
    obtain ⟨queue, answers, rest⟩ := h
    exact ⟨queue, by simpa using room, rest⟩
  openCycle _ _ h := by
    obtain ⟨queue, answers, rpts, log, window, out⟩ := h
    exact ⟨queue, answers, rpts, log, le_refl 6, out⟩
  tmp _ _ _ _ _ h := readTmp_keeps (fun _ _ h => h) (fun _ _ h => h) h
  dstRead _ d h := h.modDrive d id
  dropped _ d v h := h.modDrive d fun out => by
    simp only [List.length_drop]
    omega
  faulted _ d h := h.modDrive d id
  answering _ d h := h.modDrive d id
  flags _ d _ _ _ h := h.modDrive d id
  ringQuiet _ _ h := by
    obtain ⟨queue, answers, rpts, log, window, out⟩ := h
    exact ⟨queue, answers, Nat.zero_le 8, log, Nat.zero_le 6, out⟩
  window _ _ h := by
    obtain ⟨queue, answers, rpts, log, window, out⟩ := h
    exact ⟨queue, answers, rpts, log, (Nat.sub_le _ 1).trans window, out⟩
  reportSent _ s r rest rpts h := by
    obtain ⟨queue, answers, bound, more⟩ := h
    rw [rpts] at bound
    exact ⟨queue, answers, (Nat.le_succ _).trans bound, more⟩
  answerSent _ s a rest answers h := by
    obtain ⟨queue, bound, more⟩ := h
    rw [answers] at bound
    exact ⟨queue, (Nat.le_succ _).trans bound, more⟩

theorem kept_lists : Kept fun _ s => s.ListsBounded := sendParts_lists.kept actSteps_lists arrivalSteps_lists

/-! ### The port -/

/-- A lane moved to the end of the eight leaves the eight (R153). -/
theorem moveToEnd_perm {order : List (Fin 8)} (perm : order.Perm lanes8) (l : Fin 8) :
    (moveToEnd l order).Perm lanes8 := by
  have one : order.filter (· == l) = [l] := by
    have alone : ∀ l : Fin 8, lanes8.filter (· == l) = [l] := by decide
    have filtered := perm.filter (· == l)
    rw [alone] at filtered
    exact List.perm_singleton.mp filtered
  have parts := List.filter_append_perm (· == l) order
  rw [one] at parts
  exact List.perm_append_comm.trans (parts.trans perm)

theorem stationOfStraps_inRange (straps : BitVec 6) : StationInRange (stationOfStraps straps) := by
  intro b e
  unfold stationOfStraps at e
  split_ifs at e with outside
  cases e
  rw [not_or] at outside
  have small := straps.isLt
  rw [BitVec.toNat_setWidth]
  omega

theorem sendParts_port : SendParts fun s => s.port.Consistent where
  order s e h := by
    refine ⟨?_, h.2⟩
    simp only [State.orderAfter, State.setPort_port]
    split
    · exact moveToEnd_perm h.1 e.lane
    · exact h.1

theorem kept_port : Kept fun _ s => s.port.Consistent :=
  sendParts_port.kept
    { unitSteps := fun _ =>
        { cassette := fun _ _ h => cassetteCycle_keeps (P := fun s => s.port.Consistent) h fun _ _ h => h } }
    { tmp := fun _ _ _ _ _ h => readTmp_keeps (P := fun s => s.port.Consistent) (fun _ _ h => h) (fun _ _ h => h) h
      reset := fun _ _ straps _ => ⟨List.Perm.refl _, stationOfStraps_inRange straps⟩ }

/-! ### The log -/

/-- Consecutive records stay consecutive when the next one joins them and the oldest may leave (R169). -/
theorem Report.LogConsecutive.write {rep : Report} (h : rep.LogConsecutive) (r : LogRecord) :
    (rep.write r).LogConsecutive := by
  have kept : ∃ v, rep.kept = rep.log.drop v := by
    unfold Report.kept
    split
    · exact ⟨0, rfl⟩
    · exact ⟨1, rfl⟩
  obtain ⟨v, kept⟩ := kept
  intro i inside
  have log : (rep.write r).log = rep.log.drop v ++ [rep.stampRecord r] := by rw [← kept]; rfl
  have next : (rep.write r).nextLog = rep.nextLog + 1 := rfl
  simp only [log, List.length_append, List.length_drop, List.length_singleton] at inside
  simp only [log, next, List.getElem_append, List.length_append, List.length_drop, List.length_singleton]
  split
  next old =>
    have steps : rep.log.length - v + 1 - i = rep.log.length - (v + i) + 1 := by omega
    rw [List.getElem_drop, h, steps, BitVec.ofNat_add]
    bv_omega
  next new =>
    have place : i = rep.log.length - v := by omega
    subst place
    simp [Report.stampRecord]

theorem LogConsecutive.drop {rep : Report} (h : rep.LogConsecutive) (v : Nat) :
    Report.LogConsecutive { rep with log := rep.log.drop v } := by
  intro i inside
  simp only [List.length_drop] at inside
  have steps : rep.log.length - v - i = rep.log.length - (v + i) := by omega
  simp only [List.getElem_drop, List.length_drop, steps]
  exact h _ _

theorem handReport_log (s : State) (r : RepeatReport) : (s.handReport r).report.log = s.report.log
    ∧ (s.handReport r).report.nextLog = s.report.nextLog := by
  simp only [State.handReport, Report.handReport, State.setReport_report]
  split <;> exact ⟨rfl, rfl⟩

/-- The consecutive order speaks of the log and the next sequence alone. -/
theorem Report.LogConsecutive.of_eq {a b : Report} (h : a.LogConsecutive) (log : b.log = a.log)
    (next : b.nextLog = a.nextLog) : b.LogConsecutive := by
  intro i inside
  simp only [log] at inside
  simp only [log, next]
  exact h i inside

theorem sendParts_log : SendParts fun s => s.report.LogConsecutive where
  write _ r h := h.write r
  hand s r h := h.of_eq (handReport_log s r).1 (handReport_log s r).2

theorem kept_log : Kept fun _ s => s.report.LogConsecutive :=
  sendParts_log.kept
    { unitSteps := fun _ =>
        { cassette := fun _ _ h => cassetteCycle_keeps (P := fun s => s.report.LogConsecutive) h fun _ _ h => h }
      fetched := fun _ _ v h => LogConsecutive.drop h v }
    { tmp := fun _ _ _ _ _ h => readTmp_keeps (P := fun s => s.report.LogConsecutive) (fun _ _ h => h) (fun _ _ h => h) h
      reset := fun _ _ _ _ _ inside => absurd inside (Nat.not_lt_zero _) }

/-! ### The drives -/

theorem Drive.powerOn_consistent : Drive.powerOn.Consistent :=
  ⟨fun _ inside => absurd inside (Nat.not_lt_zero _), fun some => absurd rfl some, fun _ => ⟨rfl, rfl, rfl⟩⟩

theorem Drive.Consistent.counted {x : Drive} (h : x.Consistent) : x.counted.Consistent := by
  obtain ⟨seqs, sent, silent⟩ := h
  refine ⟨fun i inside => ?_, fun some => sent fun none => some (by simp [Drive.counted, none]), fun link => ?_⟩
  · simp only [Drive.counted, List.length_map] at inside
    simp only [Drive.counted, List.getElem_map, List.length_map]
    exact seqs i inside
  · obtain ⟨out, rest⟩ := silent link
    exact ⟨by simp [Drive.counted, out], rest⟩

theorem Drive.silenced_consistent (x : Drive) : x.silenced.Consistent :=
  ⟨fun _ inside => absurd inside (Nat.not_lt_zero _), fun some => absurd rfl some, fun _ => ⟨rfl, rfl, rfl⟩⟩

/-- The oldest records leave: those left carry the numbers up to the newest one still. -/
theorem Drive.Consistent.dropped {x : Drive} (h : x.Consistent) (v : Nat) :
    Drive.Consistent { x with out := x.out.drop v } := by
  obtain ⟨seqs, sent, silent⟩ := h
  refine ⟨fun i inside => ?_, fun some => sent fun none => some (by simp [none]), fun link => ?_⟩
  · simp only [List.length_drop] at inside
    have steps : x.out.length - v - i = x.out.length - (v + i) := by omega
    simp only [List.getElem_drop, List.length_drop, steps]
    exact seqs _ _
  · obtain ⟨out, rest⟩ := silent link
    exact ⟨by simp [out], rest⟩

/-- A setpoint sent joins the list with the next number (R132). -/
theorem Drive.Consistent.sent {x : Drive} (h : x.Consistent) (eligible : x.eligible = true) (i : PlanItem) :
    (x.send i).Consistent := by
  obtain ⟨seqs, -, -⟩ := h
  refine ⟨fun i inside => ?_, fun _ => rfl, fun link => ?_⟩
  · simp only [Drive.send, List.length_append, List.length_singleton] at inside
    simp only [Drive.send, List.getElem_append, List.length_append, List.length_singleton]
    split
    next old =>
      have steps : x.out.length + 1 - i = x.out.length - i + 1 := by omega
      rw [seqs, steps, BitVec.ofNat_add]
      bv_omega
    next new =>
      have place : i = x.out.length := by omega
      subst place
      simp
  · have answering : x.link = .answering := by simpa using (Bool.and_eq_true_iff.mp eligible).1
    have same : (x.send i).link = x.link := rfl
    rw [same, answering] at link
    cases link

theorem Drive.Consistent.linked {x : Drive} (h : x.Consistent) {l : Link} (heard : l ≠ .silent) :
    Drive.Consistent { x with link := l } := ⟨h.1, h.2.1, fun link => absurd link heard⟩

/-- The flags of a frame are held by a drive that is not SILENT, or that was sent to (R126, R131). -/
theorem Drive.Consistent.flagged {x : Drive} (h : x.Consistent) (heard : x.link = .silent → x.sent = true)
    (last lastEcho : Byte) : Drive.Consistent { x with last, lastEcho } := by
  obtain ⟨seqs, sent, silent⟩ := h
  refine ⟨seqs, sent, fun link => ?_⟩
  obtain ⟨_, none, _⟩ := silent link
  rw [heard link] at none
  cases none

/-- Every drive is consistent with its numbers and its link state. -/
def State.DrivesConsistent (s : State) : Prop := ∀ d : Fin 12, s.drives[d].Consistent

theorem State.DrivesConsistent.modDrive {s : State} (h : s.DrivesConsistent) (d : Fin 12) {f : Drive → Drive}
    (changed : s.drives[d].Consistent → (f s.drives[d]).Consistent) : (s.modDrive d f).DrivesConsistent :=
  forall_modDrive h d (changed (h d))

theorem sendParts_drives : SendParts State.DrivesConsistent where
  send _ d i eligible h := h.modDrive d fun x => x.sent eligible i

theorem kept_drives : Kept fun _ => State.DrivesConsistent :=
  sendParts_drives.kept
    { unitSteps := fun _ =>
        { cassette := fun _ _ h => cassetteCycle_keeps h fun _ _ h => h
          counted := fun _ d h => h.modDrive d fun x => x.counted
          silenced := fun _ d h => h.modDrive d fun _ => Drive.silenced_consistent _ } }
    { tmp := fun _ _ _ _ _ h => readTmp_keeps (fun _ _ h => h) (fun _ _ h => h) h
      reset := fun _ _ _ _ => forall_replicate (Q := Drive.Consistent) Drive.powerOn_consistent
      dstRead := fun _ d h => h.modDrive d fun x => ⟨x.1, x.2.1, x.2.2⟩
      dropped := fun _ d v h => h.modDrive d fun x => x.dropped v
      faulted := fun _ d h => h.modDrive d fun x => x.linked (by decide)
      answering := fun _ d h => h.modDrive d fun x => x.linked (by decide)
      flags := fun _ d _ _ heard h => h.modDrive d fun x => x.flagged heard _ _ }

/-- Settles O54: each of the four properties speaks of a single block, and is kept by every change of that block. -/
theorem listsAndSequencesKept : Obligations.ListsAndSequencesKept :=
  ⟨fun _ _ bounded run => kept_lists.step run bounded, fun _ _ port run => kept_port.step run port,
    fun _ _ log run => kept_log.step run log, fun _ _ drives run => kept_drives.step run drives⟩

end Sys2Proof.Machine

/-! ## The attention unit -/

namespace Sys2Proof.Machine

/-! ### The winner of a selection (R175) -/

namespace Attention
variable {a : Attention} {k j : Fin 18}

/-- One kind comes before another at a selection: the lower level, the lower kind among equal levels (R175). -/
def Before (a : Attention) (k j : Fin 18) : Prop :=
  a.kinds[k].level < a.kinds[j].level ∨ (a.kinds[k].level = a.kinds[j].level ∧ k ≤ j)

theorem Before.refl (k : Fin 18) : a.Before k k := Or.inr ⟨rfl, le_refl k⟩

theorem Before.trans {i : Fin 18} (h : a.Before k j) (g : a.Before j i) : a.Before k i := by
  unfold Before at *
  omega

theorem Before.antisymm (h : a.Before k j) (g : a.Before j k) : k = j := by
  unfold Before at *
  omega

/-- What a selection has found among the kinds it has compared: no candidate, or the first of the candidates. -/
def Best (a : Attention) (seen : List (Fin 18)) : Option (Fin 18) → Prop
  | none => ∀ j ∈ seen, a.candidate j = false
  | some k => k ∈ seen ∧ a.candidate k = true ∧ ∀ j ∈ seen, a.candidate j = true → a.Before k j

theorem Best.better {seen : List (Fin 18)} {best : Option (Fin 18)} (h : a.Best seen best) (later : ∀ j ∈ seen, j < k) :
    a.Best (seen ++ [k]) (a.better best k) := by
  unfold Attention.better
  by_cases candidate : a.candidate k = true
  · rw [if_pos candidate]
    cases best with
    | none =>
      refine ⟨by simp, candidate, fun j among chosen => ?_⟩
      rcases List.mem_append.mp among with old | new
      · rw [h j old] at chosen
        cases chosen
      · rw [List.mem_singleton.mp new]
        exact Before.refl k
    | some b =>
      obtain ⟨old, chosen, first⟩ := h
      have order := later b old
      simp only
      split
      next lower =>
        have ahead : a.Before k b := Or.inl lower
        refine ⟨by simp, candidate, fun j among cand => ?_⟩
        rcases List.mem_append.mp among with old | new
        · exact ahead.trans (first j old cand)
        · rw [List.mem_singleton.mp new]
          exact Before.refl k
      next notLower =>
        have ahead : a.Before b k := by
          unfold Before
          omega
        refine ⟨List.mem_append_left _ old, chosen, fun j among cand => ?_⟩
        rcases List.mem_append.mp among with old | new
        · exact first j old cand
        · rw [List.mem_singleton.mp new]
          exact ahead
  · rw [if_neg candidate]
    rw [Bool.not_eq_true] at candidate
    cases best with
    | none =>
      intro j among
      rcases List.mem_append.mp among with old | new
      · exact h j old
      · rw [List.mem_singleton.mp new]
        exact candidate
    | some b =>
      obtain ⟨old, chosen, first⟩ := h
      refine ⟨List.mem_append_left _ old, chosen, fun j among cand => ?_⟩
      rcases List.mem_append.mp among with old | new
      · exact first j old cand
      · rw [List.mem_singleton.mp new, candidate] at cand
        cases cand

/-- The comparison taken through kinds in increasing number. -/
theorem Best.foldl : ∀ (ks seen : List (Fin 18)) (best : Option (Fin 18)), (seen ++ ks).Pairwise (· < ·) →
    a.Best seen best → a.Best (seen ++ ks) (ks.foldl a.better best)
  | [], seen, best, _, h => by simpa using h
  | k :: ks, seen, best, sorted, h => by
    have later : ∀ j ∈ seen, j < k := fun j old => (List.pairwise_append.mp sorted).2.2 j old k (by simp)
    rw [List.append_cons] at sorted ⊢
    exact Best.foldl ks _ _ sorted (h.better later)

theorem winner_best (a : Attention) : a.Best kinds18 a.winner :=
  Best.foldl kinds18 [] none (by decide) fun _ none => absurd none List.not_mem_nil

theorem mem_kinds18 (k : Fin 18) : k ∈ kinds18 := by
  revert k
  decide

theorem winner_eq_none_iff : a.winner = none ↔ ∀ k, a.candidate k = false := by
  have best := winner_best a
  constructor
  · intro none k
    rw [none] at best
    exact best k (mem_kinds18 k)
  · intro no
    cases winner : a.winner with
    | none => rfl
    | some k =>
      rw [winner] at best
      obtain ⟨-, chosen, -⟩ := best
      rw [no k] at chosen
      cases chosen

theorem winner_eq_some_iff :
    a.winner = some k ↔ a.candidate k = true ∧ ∀ j, a.candidate j = true → a.Before k j := by
  have best := winner_best a
  constructor
  · intro winner
    rw [winner] at best
    obtain ⟨-, chosen, first⟩ := best
    exact ⟨chosen, fun j => first j (mem_kinds18 j)⟩
  · rintro ⟨chosen, first⟩
    cases winner : a.winner with
    | none =>
      rw [winner_eq_none_iff.mp winner k] at chosen
      cases chosen
    | some j =>
      rw [winner] at best
      obtain ⟨-, chosen', first'⟩ := best
      rw [Before.antisymm (first j chosen') (first' k (mem_kinds18 k) chosen)]

theorem candidate_iff (a : Attention) (k : Fin 18) : a.candidate k = true ↔
    a.kinds[k].pending = true ∧ a.kinds[k].enabled = true ∧ ∀ m ∈ a.service, m.1 ≠ k := by
  simp [candidate, inService, and_assoc]

/-! ### A selection (R175) -/

theorem select_of_none (winner : a.winner = none) : a.select = a := by simp only [select, winner]

theorem select_of_held (winner : a.winner = some k) (held : ∃ m ∈ a.service, m.2 ≤ a.kinds[k].level) :
    a.select = a := by
  simp only [select, winner]
  rw [if_neg]
  simpa using held

theorem select_of_urgent (winner : a.winner = some k) (urgent : ∀ m ∈ a.service, a.kinds[k].level < m.2) :
    a.select = a.queue k := by
  simp only [select, winner]
  rw [if_pos]
  simpa using urgent

/-- A selection does nothing, or queues a candidate more urgent than every kind in service (R175). -/
theorem select_cases (a : Attention) : a.select = a ∨ ∃ k, a.candidate k = true
    ∧ (∀ m ∈ a.service, a.kinds[k].level < m.2) ∧ a.select = a.queue k := by
  cases winner : a.winner with
  | none => exact Or.inl (select_of_none winner)
  | some k =>
    by_cases held : ∃ m ∈ a.service, m.2 ≤ a.kinds[k].level
    · exact Or.inl (select_of_held winner held)
    · have urgent : ∀ m ∈ a.service, a.kinds[k].level < m.2 := by simpa using held
      exact Or.inr ⟨k, (winner_eq_some_iff.mp winner).1, urgent, select_of_urgent winner urgent⟩

@[simp] theorem select_kinds (a : Attention) : a.select.kinds = a.kinds := by
  rcases select_cases a with same | ⟨k, -, -, queued⟩
  · rw [same]
  · rw [queued]
    rfl

end Attention

/-- Settles O46: the winner is the first of the candidates, and a selection queues it or does nothing. -/
theorem selectionAndRaising : Obligations.SelectionAndRaising := by
  refine ⟨fun a => ⟨Attention.winner_eq_none_iff, fun k => Attention.winner_eq_some_iff, a.candidate_iff,
    Attention.select_of_none, fun k winner => ⟨Attention.select_of_held winner, fun urgent => ?_⟩⟩, fun s k v => rfl⟩
  have same : a.serviceWithoutWaiting = a.service.filter fun m => decide (a.waiting ≠ some m.1) := by
    refine List.filter_congr fun m _ => ?_
    rw [Bool.eq_iff_iff]
    simp
  rw [Attention.select_of_urgent winner urgent, Attention.queue, same]

/-! ### The attention unit stays consistent -/

namespace Attention
variable {a : Attention}

/-- The in-service set may lose members, as long as those left are pending and the waiting kind is one of them. -/
theorem Consistent.filter (h : a.Consistent) (p : Fin 18 × Fin 8 → Bool) {kinds : Vector EventCell 18}
    {waiting : Option (Fin 18)} (pending : ∀ m ∈ a.service, p m = true → a.kinds[m.1].pending = true →
      kinds[m.1].pending = true) (waits : ∀ k, waiting = some k → a.waiting = some k ∧ ∀ l, p (k, l) = true) :
    Attention.Consistent { kinds, service := a.service.filter p, waiting } := by
  obtain ⟨kindsDiffer, levelsDiffer, served, inside⟩ := h
  refine ⟨kindsDiffer.sublist (List.filter_sublist.map _), levelsDiffer.sublist (List.filter_sublist.map _),
    fun m left => ?_, fun k waiting => ?_⟩
  · obtain ⟨member, kept⟩ := List.mem_filter.mp left
    exact pending m member kept (served m member)
  · obtain ⟨waited, kept⟩ := waits k waiting
    obtain ⟨m, member, kind⟩ := (inService_iff a k).mp (inside k waited)
    exact (inService_iff _ k).mpr ⟨m, List.mem_filter.mpr ⟨member, by rw [← kind] at kept; exact kept m.2⟩, kind⟩

/-- Cells may change as long as those of the kinds in service stay pending. -/
theorem Consistent.cells (h : a.Consistent) {kinds : Vector EventCell 18}
    (pending : ∀ m ∈ a.service, a.kinds[m.1].pending = true → kinds[m.1].pending = true) :
    Attention.Consistent { a with kinds } := by
  have all := h.filter (fun _ => true) (kinds := kinds) (waiting := a.waiting) (fun m member _ => pending m member)
    fun k waits => ⟨waits, fun _ => rfl⟩
  rwa [List.filter_true] at all

theorem modCell_kinds_self (a : Attention) (k : Fin 18) (f : EventCell → EventCell) :
    (a.modCell k f).kinds[k] = f a.kinds[k] := by simp [modCell]

theorem modCell_kinds_other (a : Attention) {k j : Fin 18} (f : EventCell → EventCell) (other : j ≠ k) :
    (a.modCell k f).kinds[j] = a.kinds[j] := by
  have apart : k.val ≠ j.val := fun same => other (Fin.ext same.symm)
  simp [modCell, apart]

theorem Consistent.modCell (h : a.Consistent) (k : Fin 18) {f : EventCell → EventCell}
    (pending : (∃ m ∈ a.service, m.1 = k) → a.kinds[k].pending = true → (f a.kinds[k]).pending = true) :
    (a.modCell k f).Consistent := by
  refine h.cells fun m member was => ?_
  by_cases same : m.1 = k
  · subst same
    exact (congrArg EventCell.pending (modCell_kinds_self a m.1 f)).trans (pending ⟨m, member, rfl⟩ was)
  · exact (congrArg EventCell.pending (modCell_kinds_other a f same)).trans was

theorem mem_serviceWithoutWaiting {m : Fin 18 × Fin 8} : m ∈ a.serviceWithoutWaiting → m ∈ a.service :=
  fun member => (List.mem_filter.mp member).1

/-- A kind queued is pending, and neither it nor its level is in service already (R175). -/
theorem Consistent.select (h : a.Consistent) : a.select.Consistent := by
  rcases select_cases a with same | ⟨k, candidate, urgent, queued⟩
  · rw [same]
    exact h
  rw [queued]
  obtain ⟨pending, -, unserved⟩ := (candidate_iff a k).mp candidate
  obtain ⟨kindsDiffer, levelsDiffer, served, -⟩ := h
  refine ⟨?_, ?_, fun m member => ?_, fun j waits => ?_⟩
  · simp only [queue, List.map_append, List.map_singleton]
    refine (kindsDiffer.sublist (List.filter_sublist.map _)).append (List.nodup_singleton _) ?_
    rw [List.disjoint_singleton]
    intro twice
    obtain ⟨m, member, kind⟩ := List.mem_map.mp twice
    exact unserved m (mem_serviceWithoutWaiting member) kind
  · simp only [queue, List.map_append, List.map_singleton]
    refine (levelsDiffer.sublist (List.filter_sublist.map _)).append (List.nodup_singleton _) ?_
    rw [List.disjoint_singleton]
    intro twice
    obtain ⟨m, member, level⟩ := List.mem_map.mp twice
    exact absurd (urgent m (mem_serviceWithoutWaiting member)) (by rw [level]; exact lt_irrefl _)
  · rcases List.mem_append.mp member with old | new
    · exact served m (mem_serviceWithoutWaiting old)
    · rw [List.mem_singleton.mp new]
      exact pending
  · cases waits
    exact (inService_iff _ k).mpr ⟨(k, _), List.mem_append_right _ (List.mem_singleton.mpr rfl), rfl⟩

theorem Consistent.raise (h : a.Consistent) (k : Fin 18) (v : BitVec 32) : (a.raise k v).Consistent :=
  (h.modCell k fun _ _ => rfl).select

theorem Consistent.leaveService (h : a.Consistent) (k : Fin 18) : (a.leaveService k).Consistent := by
  refine h.filter _ (fun _ _ _ pending => pending) fun j waits => ?_
  split at waits
  · cases waits
  next other =>
    refine ⟨waits, fun _ => bne_iff_ne.mpr fun same => other ?_⟩
    rw [waits, ← same]

theorem Consistent.acknowledge (h : a.Consistent) (k : Fin 18) : (a.acknowledge k).Consistent := by
  refine ((h.leaveService k).modCell k fun served => ?_).select
  obtain ⟨m, left, kind⟩ := served
  exact absurd kind (bne_iff_ne.mp (List.mem_filter.mp left).2)

theorem Consistent.setEnables (h : a.Consistent) (set : Nat) (on : Bool) : (a.setEnables set on).Consistent := by
  refine (h.cells fun m _ pending => ?_).select
  rw [Fin.getElem_fin, Vector.getElem_ofFn]
  split
  · exact pending
  · exact pending

theorem Consistent.discardWaiting (h : a.Consistent) : a.discardWaiting.Consistent :=
  h.filter _ (fun _ _ _ pending => pending) fun _ waits => by cases waits

theorem Consistent.atnSent (h : a.Consistent) : Attention.Consistent { a with waiting := none } := by
  obtain ⟨kindsDiffer, levelsDiffer, served, -⟩ := h
  exact ⟨kindsDiffer, levelsDiffer, served, fun _ waits => by cases waits⟩

/-- Nothing is in service after a reset or a start (R178). -/
theorem consistent_of_empty {kinds : Vector EventCell 18} :
    Attention.Consistent { kinds, service := [], waiting := none } :=
  ⟨List.nodup_nil, List.nodup_nil, fun _ member => absurd member List.not_mem_nil, fun _ waits => by cases waits⟩

end Attention

theorem sendParts_attention : SendParts fun s => s.attention.Consistent where
  event _ k d _ h := h.raise k d
  draftEvent _ k d _ h := h.raise k d
  raise _ k d h := h.raise k d

theorem kept_attention : Kept fun _ s => s.attention.Consistent :=
  sendParts_attention.kept
    { unitSteps := fun _ =>
        { cassette := fun _ _ h => cassetteCycle_keeps (P := fun s => s.attention.Consistent) h fun _ d h => h.raise _ d
          driveSilent := fun _ d h => h.raise _ d }
      raise := fun _ _ k d h => h.raise k d
      enables := fun _ _ a set on e h => (congrArg Attention.Consistent e).mpr (h.setEnables set on)
      level := fun _ _ a k l e h => (congrArg Attention.Consistent e).mpr ((h.modCell k fun _ pending => pending).select)
      acked := fun _ _ a k e h => (congrArg Attention.Consistent e).mpr (h.acknowledge k)
      cleared := fun _ _ _ => Attention.consistent_of_empty }
    { tmp := fun _ _ _ _ _ h =>
        readTmp_keeps (P := fun s => s.attention.Consistent) (fun _ _ h => h) (fun _ d h => h.raise _ d) h
      reset := fun _ _ _ _ => Attention.consistent_of_empty
      discarded := fun _ _ a e h => (congrArg Attention.Consistent e).mpr (h.discardWaiting.select)
      atnSent := fun _ _ h => h.atnSent }

/-- Settles O56: every change of the attention unit ends in a selection, which queues only a pending kind of a level
that no kind in service has, or takes members away. -/
theorem attentionKept : Obligations.AttentionKept := fun _ _ consistent run => kept_attention.step run consistent

end Sys2Proof.Machine

/-! ## The ranges of the entries and the counts -/

namespace Sys2Proof.Machine

theorem countUp_le (top n : Nat) : countUp top n ≤ top := by
  unfold countUp
  split <;> omega

/-! ### Banks and cassettes (sections 2.1 and 2.4, R110) -/

/-- The banks and the station configuration within their ranges. -/
def State.JobsInRange (s : State) : Prop := (∀ b : Fin 2, s.jobs.banks[b].InRange) ∧ s.jobs.cfg.InRange

def State.CassettesInRange (s : State) : Prop := ∀ c : Fin 8, s.cassettes[c].InRange

theorem Bank.InRange.modLane {b : Bank} (h : b.InRange) (l : Fin 8) {f : Lane → Lane}
    (changed : b.lanes[l].InRange → (f b.lanes[l]).InRange) : (b.modLane l f).InRange := by
  obtain ⟨designs, lanes, foil⟩ := h
  exact ⟨designs, forall_getElem_set lanes l (changed (lanes l)), foil⟩

/-- The progress moved on stays below the sequence length (R64). -/
theorem Lane.InRange.advance {x : Lane} (h : x.InRange) : x.advance.InRange := by
  unfold Lane.advance
  split
  · exact h
  · exact h
  · exact h
  · obtain ⟨least, most, -, rest⟩ := h
    refine ⟨least, most, ?_, rest⟩
    simp only
    split <;> omega

theorem State.JobsInRange.active {s : State} (h : s.JobsInRange) : s.active.InRange := h.1 s.jobs.active

theorem State.JobsInRange.setActive {s : State} (h : s.JobsInRange) {b : Bank} (range : b.InRange) :
    (s.setActive b).JobsInRange := ⟨forall_getElem_set h.1 s.jobs.active range, h.2⟩

/-- A heat state that counts no dwell is entered with the counts as they stand. -/
theorem Cassette.InRange.enters {x : Cassette} (h : x.InRange) {heat : Heat} (soak : heat ≠ .soak)
    (drift : heat ≠ .drift) :
    Cassette.InRange { x with heat } := by
  obtain ⟨mostSoak, mostDrift, since, -⟩ := h
  exact ⟨mostSoak, mostDrift, since, fun same => absurd same soak, fun same => absurd same drift⟩

/-- A soak begins to count at zero (R113). -/
theorem Cassette.InRange.soaks {x : Cassette} (h : x.InRange) :
    Cassette.InRange { x with heat := .soak, soak := 0 } := by
  obtain ⟨-, mostDrift, since, -⟩ := h
  exact ⟨Nat.zero_le _, mostDrift, since, fun _ => Nat.zero_lt_succ _,
    fun same => absurd same (by decide : Heat.soak ≠ .drift)⟩

/-- A drift begins to count at zero (R114). -/
theorem Cassette.InRange.drifts {x : Cassette} (h : x.InRange) :
    Cassette.InRange { x with heat := .drift, drift := 0 } := by
  obtain ⟨mostSoak, -, since, -⟩ := h
  exact ⟨mostSoak, Nat.zero_le _, since, fun same => absurd same (by decide : Heat.drift ≠ .soak), fun _ => Nat.zero_lt_succ _⟩

theorem Cassette.InRange.warmed {x : Cassette} (h : x.InRange) (nsoak : Nat) : (x.warmed nsoak).InRange := by
  have ready := h.enters (heat := .ready) (by decide) (by decide)
  have starts : Cassette.InRange (if nsoak = 0 then { x with heat := .ready } else { x with heat := .soak, soak := 0 }) := by
    split
    · exact ready
    · exact h.soaks
  unfold Cassette.warmed
  split
  · exact starts
  · exact starts
  · exact h
  · exact h
  · exact ready

theorem Cassette.InRange.cooled {x : Cassette} (h : x.InRange) (ndrift : Nat) : (x.cooled ndrift).InRange := by
  have cold := h.enters (heat := .cold) (by decide) (by decide)
  unfold Cassette.cooled
  split
  · exact h
  · exact cold
  · split
    · exact cold
    · exact h.drifts
  · exact h
  · exact cold

/-- A dwell that goes on after it counted is below the number it counts to (R116, R117). -/
theorem Cassette.InRange.dwelt {x : Cassette} (h : x.InRange) {nsoak ndrift : Nat} (mostSoak : nsoak ≤ 65535)
    (mostDrift : ndrift ≤ 4000) : (x.dwelt nsoak ndrift).InRange := by
  obtain ⟨soak, drift, since, soaking, drifting⟩ := h
  unfold Cassette.dwelt
  split
  next heat =>
    have room := soaking heat
    refine ⟨room, drift, since, fun goes => ?_, fun goes => ?_⟩ <;> simp only at goes ⊢ <;> split at goes
    · cases goes
    · omega
    · cases goes
    · cases goes
  next heat =>
    have room := drifting heat
    refine ⟨soak, room, since, fun goes => ?_, fun goes => ?_⟩ <;> simp only at goes ⊢ <;> split at goes
    · cases goes
    · cases goes
    · cases goes
    · omega
  all_goals exact ⟨soak, drift, since, soaking, drifting⟩

theorem Cassette.InRange.cycled {x : Cassette} (h : x.InRange) {nsoak ndrift : Nat} (ntmp : Nat)
    (mostSoak : nsoak ≤ 65535) (mostDrift : ndrift ≤ 4000) : (x.cycled ntmp nsoak ndrift).InRange := by
  unfold Cassette.cycled
  split
  · obtain ⟨soak, drift, -⟩ := h
    exact ⟨soak, drift, countUp_le _ _, fun same => absurd same (by decide : Heat.lost ≠ .soak),
      fun same => absurd same (by decide : Heat.lost ≠ .drift)⟩
  · obtain ⟨soak, drift, -, soaking, drifting⟩ := h.dwelt mostSoak mostDrift
    exact ⟨soak, drift, countUp_le _ _, soaking, drifting⟩

theorem State.CassettesInRange.modCassette {s : State} (h : s.CassettesInRange) (c : Fin 8) {f : Cassette → Cassette}
    (changed : s.cassettes[c].InRange → (f s.cassettes[c]).InRange) : (s.modCassette c f).CassettesInRange :=
  forall_getElem_set h c (changed (h c))

theorem State.CassettesInRange.readTmp {s : State} (h : s.CassettesInRange) (c : Fin 8) (temp : Int) (fault : Bool) :
    (s.readTmp c temp fault).CassettesInRange := by
  have fresh : (s.modCassette c fun x => { x with since := 0 }).CassettesInRange :=
    h.modCassette c fun ⟨soak, drift, _, rest⟩ => ⟨soak, drift, Nat.zero_le _, rest⟩
  have cooled := fresh.modCassette c (f := (·.cooled s.active.lanes[c].ndrift)) fun x => x.cooled _
  unfold State.readTmp
  simp only
  split
  · exact fresh.modCassette c (f := (·.warmed _)) fun x => x.warmed _
  · split
    · exact cooled
    · exact cooled

theorem readTmp_jobs (s : State) (c : Fin 8) (temp : Int) (fault : Bool) : (s.readTmp c temp fault).jobs = s.jobs :=
  readTmp_keeps (P := fun t => t.jobs = s.jobs) (fun _ _ h => h) (fun _ _ h => h) rfl

theorem sendParts_jobs : SendParts fun s => s.JobsInRange ∧ s.CassettesInRange where
  pitch _ _ _ h := ⟨h.1.setActive h.1.active, h.2⟩
  advance _ l h := ⟨h.1.setActive (h.1.active.modLane l Lane.InRange.advance), h.2⟩

theorem stationInRange_none : StationInRange none := fun _ e => by cases e

theorem StationCfg.powerOn_inRange : StationCfg.powerOn.InRange :=
  ⟨stationInRange_none, forall_replicate (Q := StationInRange) stationInRange_none,
    forall_replicate (Q := StationInRange) stationInRange_none, by decide⟩

theorem Cassette.afterReset_inRange : Cassette.afterReset.InRange := by
  refine ⟨Nat.zero_le _, Nat.zero_le _, Nat.zero_le _, fun heat => ?_, fun heat => ?_⟩ <;> cases heat

theorem kept_jobs : Kept fun _ s => s.JobsInRange ∧ s.CassettesInRange :=
  sendParts_jobs.kept
    { unitSteps := fun _ =>
        { cassette := fun s c ⟨jobs, heat⟩ => by
            obtain ⟨-, -, -, -, -, -, -, -, -, mostSoak, mostDrift⟩ := jobs.active.2.1 c
            have changed := heat.modCassette c (f := (·.cycled s.jobs.cfg.ntmp _ _)) fun x =>
              x.cycled s.jobs.cfg.ntmp mostSoak mostDrift
            exact cassetteCycle_keeps (P := fun t => t.JobsInRange ∧ t.CassettesInRange) ⟨jobs, changed⟩ fun _ _ h => h }
      standby := fun _ s b _ range ⟨jobs, heat⟩ => ⟨⟨forall_getElem_set jobs.1 _ (range jobs.1), jobs.2⟩, heat⟩
      cfg := fun _ _ _ _ _ range ⟨jobs, heat⟩ => ⟨⟨jobs.1, range jobs.2⟩, heat⟩
      lane := fun _ _ l _ _ range ⟨jobs, heat⟩ => ⟨jobs.setActive (jobs.active.modLane l (range _)), heat⟩
      cassettesReset := fun _ _ ⟨jobs, _⟩ => ⟨jobs, forall_replicate (Q := Cassette.InRange) Cassette.afterReset_inRange⟩ }
    { tmp := fun _ s c temp fault ⟨jobs, heat⟩ =>
        ⟨by rw [State.JobsInRange, readTmp_jobs]; exact jobs, heat.readTmp c temp fault⟩
      reset := fun _ _ _ _ =>
        ⟨⟨forall_replicate (Q := Bank.InRange) Bank.cleared_inRange, StationCfg.powerOn_inRange⟩,
          forall_replicate (Q := Cassette.InRange) Cassette.afterReset_inRange⟩ }

/-! ### Counts of the drives, the planner and the foil accounts -/

/-- The counts of a drive link within a byte (R126). -/
def Drive.CountsInRange (x : Drive) : Prop := x.cycles ≤ 255 ∧ ∀ o ∈ x.out, o.age ≤ 255

def State.DriveCountsInRange (s : State) : Prop := ∀ d : Fin 12, s.drives[d].CountsInRange

theorem State.DriveCountsInRange.modDrive {s : State} (h : s.DriveCountsInRange) (d : Fin 12) {f : Drive → Drive}
    (changed : s.drives[d].CountsInRange → (f s.drives[d]).CountsInRange) : (s.modDrive d f).DriveCountsInRange :=
  forall_modDrive h d (changed (h d))

theorem Drive.counted_countsInRange (x : Drive) : x.counted.CountsInRange := by
  refine ⟨countUp_le _ _, fun o counted => ?_⟩
  obtain ⟨_, -, rfl⟩ := List.mem_map.mp counted
  exact countUp_le _ _

theorem Drive.CountsInRange.sent {x : Drive} (h : x.CountsInRange) (i : PlanItem) : (x.send i).CountsInRange := by
  refine ⟨h.1, fun o member => ?_⟩
  rcases List.mem_append.mp member with old | new
  · exact h.2 o old
  · rw [List.mem_singleton.mp new]
    exact Nat.zero_le _

theorem Drive.countsInRange_of_empty {x : Drive} (cycles : x.cycles = 0) (out : x.out = []) : x.CountsInRange :=
  ⟨by rw [cycles]; exact Nat.zero_le _, fun o member => by rw [out] at member; cases member⟩

theorem sendParts_driveCounts : SendParts State.DriveCountsInRange where
  send _ d i _ h := h.modDrive d fun x => x.sent i

theorem kept_driveCounts : Kept fun _ => State.DriveCountsInRange :=
  sendParts_driveCounts.kept
    { unitSteps := fun _ =>
        { cassette := fun _ _ h => cassetteCycle_keeps h fun _ _ h => h
          counted := fun _ d h => h.modDrive d fun _ => Drive.counted_countsInRange _
          silenced := fun _ d h => h.modDrive d fun _ => Drive.countsInRange_of_empty rfl rfl } }
    { tmp := fun _ _ _ _ _ h => readTmp_keeps (fun _ _ h => h) (fun _ _ h => h) h
      reset := fun _ _ _ _ => forall_replicate (Q := Drive.CountsInRange) (Drive.countsInRange_of_empty rfl rfl)
      dstRead := fun _ d h => h.modDrive d fun x => ⟨Nat.zero_le _, x.2⟩
      dropped := fun _ d v h => h.modDrive d fun x => ⟨x.1, fun o member => x.2 o (List.mem_of_mem_drop member)⟩
      faulted := fun _ d h => h.modDrive d fun x => x
      answering := fun _ d h => h.modDrive d fun x => x
      flags := fun _ d _ _ _ h => h.modDrive d fun x => x }

/-- The counters of stamped and of rejected impressions of each lane within 32 bits (R81). -/
def State.LaneCountsInRange (s : State) : Prop :=
  ∀ l : Fin 8, s.planner.stamped[l] ≤ 4294967295 ∧ s.planner.rejected[l] ≤ 4294967295

theorem State.LaneCountsInRange.count {s : State} (h : s.LaneCountsInRange) (l : Fin 8) (d : Decision) :
    (s.setPlanner (s.planner.count l d)).LaneCountsInRange := by
  have stamped := forall_getElem_set (Q := (· ≤ 4294967295)) (fun l => (h l).1) l
    (countUp_le Config.maxCount32 s.planner.stamped[l])
  have rejected := forall_getElem_set (Q := (· ≤ 4294967295)) (fun l => (h l).2) l
    (countUp_le Config.maxCount32 s.planner.rejected[l])
  cases d with
  | stamped => exact fun i => ⟨stamped i, (h i).2⟩
  | suppressed _ => exact fun i => ⟨(h i).1, rejected i⟩
  | reject _ => exact fun i => ⟨(h i).1, rejected i⟩

theorem sendParts_laneCounts : SendParts State.LaneCountsInRange where
  count _ l d h := h.count l d

theorem kept_laneCounts : Kept fun _ => State.LaneCountsInRange :=
  sendParts_laneCounts.kept
    { unitSteps := fun _ => { cassette := fun _ _ h => cassetteCycle_keeps h fun _ _ h => h } }
    { tmp := fun _ _ _ _ _ h => readTmp_keeps (fun _ _ h => h) (fun _ _ h => h) h
      reset := fun _ _ _ _ l =>
        have zero := forall_replicate (Q := (· ≤ 4294967295)) (Nat.zero_le _) l
        ⟨zero, zero⟩ }

/-- The count of saved foil of each web within 32 bits (R88). -/
def State.SavedInRange (s : State) : Prop := ∀ f : Fin 4, s.foil[f].saved ≤ 4294967295

theorem State.SavedInRange.modFoil {s : State} (h : s.SavedInRange) (f : Fin 4) {g : FoilAccount → FoilAccount}
    (changed : s.foil[f].saved ≤ 4294967295 → (g s.foil[f]).saved ≤ 4294967295) : (s.modFoil f g).SavedInRange :=
  forall_getElem_set (Q := fun a : FoilAccount => a.saved ≤ 4294967295) h f (changed (h f))

theorem sendParts_saved : SendParts State.SavedInRange where
  release _ f _ h := h.modFoil f id
  reserve _ f _ h := h.modFoil f id
  low _ f h := h.modFoil f id
  consume _ f _ _ h := h.modFoil f id
  save _ f _ _ h := h.modFoil f fun _ => Nat.min_le_left _ _

theorem kept_saved : Kept fun _ => State.SavedInRange :=
  sendParts_saved.kept
    { unitSteps := fun _ => { cassette := fun _ _ h => cassetteCycle_keeps h fun _ _ h => h } }
    { tmp := fun _ _ _ _ _ h => readTmp_keeps (fun _ _ h => h) (fun _ _ h => h) h
      reset := fun _ _ _ _ => forall_replicate (Q := fun a : FoilAccount => a.saved ≤ 4294967295) (Nat.zero_le _) }
    (clear := fun _ f h => h.modFoil f id)
    (load := fun _ f _ _ h => h.modFoil f id)

/-! ### Counts of the event kinds, the port and the tracker -/

/-- The counts of the event kinds within a byte (R173). -/
def Attention.CountsInRange (a : Attention) : Prop := ∀ k : Fin 18, a.kinds[k].count ≤ 255

namespace Attention.CountsInRange
variable {a : Attention}

theorem select (h : a.CountsInRange) : a.select.CountsInRange := by
  rw [Attention.CountsInRange, Attention.select_kinds]
  exact h

theorem modCell (h : a.CountsInRange) (k : Fin 18) {f : EventCell → EventCell}
    (changed : a.kinds[k].count ≤ 255 → (f a.kinds[k]).count ≤ 255) : (a.modCell k f).CountsInRange :=
  forall_getElem_set (Q := fun c : EventCell => c.count ≤ 255) h k (changed (h k))

theorem raise (h : a.CountsInRange) (k : Fin 18) (v : BitVec 32) : (a.raise k v).CountsInRange :=
  (h.modCell k fun _ => countUp_le _ _).select

theorem setEnables (h : a.CountsInRange) (set : Nat) (on : Bool) : (a.setEnables set on).CountsInRange := by
  refine select fun k => ?_
  rw [Fin.getElem_fin, Vector.getElem_ofFn]
  split
  · exact h k
  · exact h k

theorem acknowledge (h : a.CountsInRange) (k : Fin 18) : (a.acknowledge k).CountsInRange := by
  have left : (a.leaveService k).CountsInRange := h
  exact (left.modCell k fun _ => Nat.zero_le _).select

theorem discardWaiting (h : a.CountsInRange) : a.discardWaiting.CountsInRange := h

theorem softCleared : a.softCleared.CountsInRange := by
  intro k
  rw [Attention.softCleared, Fin.getElem_fin, Vector.getElem_map]
  exact Nat.zero_le _

theorem powerOn : Attention.powerOn.CountsInRange := by
  intro k
  rw [Attention.powerOn, Fin.getElem_fin, Vector.getElem_map]
  exact Nat.zero_le _

end Attention.CountsInRange

theorem sendParts_eventCounts : SendParts fun s => s.attention.CountsInRange where
  event _ k d _ h := h.raise k d
  draftEvent _ k d _ h := h.raise k d
  raise _ k d h := h.raise k d

theorem kept_eventCounts : Kept fun _ s => s.attention.CountsInRange :=
  sendParts_eventCounts.kept
    { unitSteps := fun _ =>
        { cassette := fun _ _ h =>
            cassetteCycle_keeps (P := fun s => s.attention.CountsInRange) h fun _ d h => h.raise _ d
          driveSilent := fun _ d h => h.raise _ d }
      raise := fun _ _ k d h => h.raise k d
      enables := fun _ _ a set on e h => (congrArg Attention.CountsInRange e).mpr (h.setEnables set on)
      level := fun _ _ a k l e h => (congrArg Attention.CountsInRange e).mpr (h.modCell k id).select
      acked := fun _ _ a k e h => (congrArg Attention.CountsInRange e).mpr (h.acknowledge k)
      cleared := fun _ _ _ => Attention.CountsInRange.softCleared }
    { tmp := fun _ _ _ _ _ h =>
        readTmp_keeps (P := fun s => s.attention.CountsInRange) (fun _ _ h => h) (fun _ d h => h.raise _ d) h
      reset := fun _ _ _ _ => Attention.CountsInRange.powerOn
      discarded := fun _ _ a e h => (congrArg Attention.CountsInRange e).mpr h.discardWaiting.select }

/-- The counts of damaged frames and of stray marks within 16 bits (R19, R143). -/
def State.LineCountsInRange (s : State) : Prop := s.port.damaged ≤ 65535 ∧ s.tracker.stray ≤ 65535

theorem sendParts_lineCounts : SendParts State.LineCountsInRange where
  numbered _ _ _ mark h := ⟨h.1, mark.keeps.1.le.trans h.2⟩

theorem kept_lineCounts : Kept fun _ => State.LineCountsInRange :=
  sendParts_lineCounts.kept
    { unitSteps := fun _ => { cassette := fun _ _ h => cassetteCycle_keeps h fun _ _ h => h }
      trackerReset := fun _ _ h => ⟨h.1, Nat.zero_le _⟩ }
    { tmp := fun _ _ _ _ _ h => readTmp_keeps (fun _ _ h => h) (fun _ _ h => h) h
      reset := fun _ _ _ _ => ⟨Nat.zero_le _, Nat.zero_le _⟩
      damaged := fun _ _ h => ⟨countUp_le _ _, h.2⟩
      stray := fun _ _ h => ⟨h.1, countUp_le _ _⟩ }

/-- Settles O55: the entries are written only with values decoded in their ranges, and every count saturates. -/
theorem countsKept : Obligations.CountsKept := by
  rintro s t ⟨banks, cfg, cassettes, drives, lanes, saved, events, damaged, stray⟩ run
  obtain ⟨⟨banks', cfg'⟩, cassettes'⟩ := kept_jobs.step run ⟨⟨banks, cfg⟩, cassettes⟩
  obtain ⟨damaged', stray'⟩ := kept_lineCounts.step run ⟨damaged, stray⟩
  exact ⟨banks', cfg', cassettes', kept_driveCounts.step run drives, kept_laneCounts.step run lanes,
    kept_saved.step run saved, kept_eventCounts.step run events, damaged', stray'⟩

end Sys2Proof.Machine

/-! ## Banks, arm and tracker -/

namespace Sys2Proof.Machine

/-! ### Emptiness of the banks (R27) -/

theorem Bank.isEmpty_iff (b : Bank) : b.isEmpty = true ↔ ∀ l : Fin 8, b.lanes[l].mode = .off := by
  simp only [Bank.isEmpty, List.all_eq_true, beq_iff_eq]
  have all : ∀ l : Fin 8, l ∈ lanes8 := by decide
  exact ⟨fun h l => h l (all l), fun h l _ => h l⟩

/-- What holds of every entry, by its number, holds after one entry is replaced by one of which it holds. -/
theorem forall_getElem_set_at {α : Type} {n : Nat} {Q : Fin n → α → Prop} {v : Vector α n} (h : ∀ j : Fin n, Q j v[j])
    (k : Fin n) {x : α} (q : Q k x) (j : Fin n) : Q j (v.set k x)[j] := by
  rw [Fin.getElem_fin, Vector.getElem_set]
  split
  next same => exact Fin.ext same ▸ q
  · exact h j

/-- Lanes that keep their modes keep the bank empty or in use. -/
theorem Bank.isEmpty_congr {a b : Bank} (modes : ∀ l : Fin 8, b.lanes[l].mode = a.lanes[l].mode) :
    b.isEmpty = a.isEmpty := by
  rw [Bool.eq_iff_iff, Bank.isEmpty_iff, Bank.isEmpty_iff]
  simp only [modes]

theorem Bank.isEmpty_modLane (b : Bank) (l : Fin 8) {f : Lane → Lane} (mode : ∀ x : Lane, (f x).mode = x.mode) :
    (b.modLane l f).isEmpty = b.isEmpty :=
  Bank.isEmpty_congr (forall_getElem_set_at (Q := fun i (x : Lane) => x.mode = b.lanes[i].mode) (fun _ => rfl) l (mode _))

@[simp] theorem Lane.advance_mode (x : Lane) : x.advance.mode = x.mode := by
  unfold Lane.advance
  split <;> rfl

@[simp] theorem State.setActive_active (s : State) (b : Bank) : (s.setActive b).active = b := Vector.getElem_set_self _

@[simp] theorem State.setActive_standby (s : State) (b : Bank) : (s.setActive b).standby = s.standby := by
  have other : s.jobs.active.val ≠ s.jobs.standbyNo.val := fun same => s.jobs.standbyNo_ne_active (Fin.ext same.symm)
  exact Vector.getElem_set_ne s.jobs.active.isLt s.jobs.standbyNo.isLt other

/-- A changeover makes the standby bank the active one (R42). -/
@[simp] theorem State.takeChangeover_active (s : State) : s.takeChangeover.active = s.standby := rfl

theorem Bank.cleared_isEmpty : Bank.cleared.isEmpty = true := by decide

/-! ### The tracker's items (R4 to R22) -/

/-- An arm stands over a standby bank in use. -/
def State.ArmReady (s : State) : Prop := s.jobs.arm.isSome = true → s.standby.isEmpty = false

/-- The tracker's items without the banks: what `State.TrackerConsistent` says of the tracker alone. -/
def Tracker.ItemsInRange (t : Tracker) : Prop :=
  t.speed ≤ 500000 ∧ t.lock ≤ 2 ∧ (t.mode = .locking → t.lock = 1) ∧ (t.mode ≠ .coasting → t.coast = 0)
    ∧ ∀ l, t.staged = some l → 2000 ≤ l ∧ l ≤ 200000

theorem trackerConsistent_iff (s : State) : s.TrackerConsistent ↔
    s.tracker.ItemsInRange ∧ (s.active.isEmpty = true → s.tracker.mode = .unlocked) := by
  unfold State.TrackerConsistent Tracker.ItemsInRange
  tauto

/-- The tracker fits its banks, and a changeover that stands armed will leave it so. -/
def State.TrackerFits (s : State) : Prop :=
  s.tracker.ItemsInRange ∧ (s.active.isEmpty = true → s.tracker.mode = .unlocked) ∧ s.ArmReady

/-- A mark's tracker is consistent, and it is unlocked while no job is active (R8 to R17). -/
theorem State.TrackerFits.marked {s : State} (h : s.TrackerFits) {t : Tracker} (mark : Marked s t) :
    t.ItemsInRange ∧ (s.active.isEmpty = true → t.mode = .unlocked) := by
  obtain ⟨⟨speed, lock, locking, coast, staged⟩, empty, -⟩ := h
  have job {m : TrackMode} (mode : s.tracker.mode = m) (other : m ≠ .unlocked) {Q : Prop} : s.active.isEmpty = true → Q :=
    fun none => absurd (mode.symm.trans (empty none)) other
  cases mark with
  | noJob none =>
    exact ⟨⟨speed, Nat.zero_le _, fun same => (by cases same), fun _ => coast (by rw [empty none]; decide), staged⟩,
      fun _ => rfl⟩
  | startsLock used mode =>
    have none : s.tracker.coast = 0 := coast (by rcases mode with mode | mode <;> rw [mode] <;> decide)
    exact ⟨⟨speed, Nat.le_succ 1, fun _ => rfl, fun _ => none, staged⟩, fun empty => by rw [used] at empty; cases empty⟩
  | locks mode two =>
    exact ⟨⟨speed, le_refl _, fun same => (by cases same), fun _ => coast (by rw [mode]; decide), staged⟩,
      job mode (by decide)⟩
  | counts mode other => exact absurd (congrArg (· + 1) (locking mode)) other
  | corrected mode => exact ⟨⟨speed, lock, locking, coast, staged⟩, job mode (by decide)⟩
  | relocked mode => exact ⟨⟨speed, lock, fun same => (by cases same), fun _ => rfl, staged⟩, job mode (by decide)⟩
  | coasts c mode =>
    refine ⟨⟨speed, lock, fun same => (by cases same), fun other => absurd rfl other, staged⟩, ?_⟩
    rcases mode with mode | mode
    · exact job mode (by decide)
    · exact job mode (by decide)
  | lost mode => exact ⟨⟨speed, lock, fun same => (by cases same), fun _ => rfl, staged⟩, fun _ => rfl⟩

theorem State.TrackerFits.takeChangeover {s : State} (h : s.TrackerFits)
    (valid : s.jobs.arm = none → s.standby.validate s.jobs.cfg = none) : s.takeChangeover.TrackerFits := by
  obtain ⟨⟨speed, lock, locking, coast, -⟩, -, arm⟩ := h
  have used : s.standby.isEmpty = false := by
    cases armed : s.jobs.arm with
    | none => exact Bank.isEmpty_of_validate (valid armed)
    | some _ => exact arm (by rw [armed]; rfl)
  refine ⟨⟨speed, lock, locking, coast, fun _ none => (by cases none)⟩, fun empty => ?_, fun armed => (by cases armed)⟩
  rw [State.takeChangeover_active, used] at empty
  cases empty

/-- The active bank may be written as long as it stays empty or in use; the standby bank is another one. -/
theorem State.TrackerFits.setActive {s : State} (h : s.TrackerFits) {b : Bank} (same : b.isEmpty = s.active.isEmpty) :
    (s.setActive b).TrackerFits := by
  obtain ⟨items, empty, arm⟩ := h
  refine ⟨items, fun none => empty ?_, fun armed => ?_⟩
  · rw [← same]
    rwa [State.setActive_active] at none
  · rw [State.setActive_standby]
    exact arm armed

/-- A tracker that leaves the locked states with its coast count cleared (R6, R156, R165). -/
theorem Tracker.ItemsInRange.left {u : Tracker} (mode : u.mode = .unlocked) (lock : u.lock = 0) (coast : u.coast = 0)
    (speed : u.speed ≤ 500000) (staged : ∀ l, u.staged = some l → 2000 ≤ l ∧ l ≤ 200000) : u.ItemsInRange :=
  ⟨speed, by rw [lock]; exact Nat.zero_le _, fun same => absurd (mode.symm.trans same) (by decide), fun _ => coast, staged⟩

theorem sendParts_tracker : SendParts State.TrackerFits where
  pointer _ valid h := h.takeChangeover valid
  advance _ _ h := h.setActive (Bank.isEmpty_modLane _ _ Lane.advance_mode)
  numbered _ _ _ mark h := ⟨(h.marked mark).1, (h.marked mark).2, h.2.2⟩
  pitch s l _ h := by
    obtain ⟨⟨speed, lock, locking, coast, -⟩, rest⟩ :=
      h.setActive (b := { s.active with job := { s.active.job with lr := l } }) rfl
    exact ⟨⟨speed, lock, locking, coast, fun _ none => (by cases none)⟩, rest⟩

theorem actSteps_tracker : ActSteps fun _ => State.TrackerFits where
  unitSteps _ := { cassette := fun _ _ h => cassetteCycle_keeps h fun _ _ h => h }
  standby _ s b unarmed _ h := by
    obtain ⟨items, empty, -⟩ := h
    refine ⟨items, ?_, fun armed => absurd armed ?_⟩
    · rwa [State.setStandby_active]
    · simp [State.setStandby, Jobs.setStandbyBank, unarmed]
  arm _ _ _ _ valid h := ⟨h.1, h.2.1, fun _ => Bank.isEmpty_of_validate valid⟩
  disarm _ _ h := ⟨h.1, h.2.1, fun armed => by cases armed⟩
  lane _ _ _ _ mode _ h := h.setActive (Bank.isEmpty_modLane _ _ mode)
  pitch _ _ v least most h := by
    obtain ⟨⟨speed, lock, locking, coast, -⟩, rest⟩ := h
    refine ⟨⟨speed, lock, locking, coast, fun _ same => ?_⟩, rest⟩
    cases same
    exact ⟨least, most⟩
  trackerReset _ _ h :=
    ⟨.left rfl rfl rfl (Nat.zero_le _) fun _ none => (by cases none), fun _ => rfl, h.2.2⟩

theorem arrivalSteps_tracker : ArrivalSteps fun _ => State.TrackerFits where
  tmp _ _ _ _ _ h := readTmp_keeps (fun _ _ h => h) (fun _ _ h => h) h
  reset _ _ _ _ :=
    ⟨.left rfl rfl rfl (Nat.zero_le _) fun _ none => (by cases none), fun _ => rfl, fun armed => by cases armed⟩
  frame _ _ _ speed h := ⟨⟨speed, h.1.2⟩, h.2⟩
  unlock _ _ h := by
    obtain ⟨⟨speed, -, -, -, staged⟩, -, arm⟩ := h
    exact ⟨.left rfl rfl rfl speed staged, fun _ => rfl, arm⟩
  unlocking _ s mode h := by
    obtain ⟨⟨speed, -, -, coast, staged⟩, -, arm⟩ := h
    have none : s.tracker.coast = 0 := coast (by rw [mode]; decide)
    exact ⟨.left rfl rfl none speed staged, fun _ => rfl, arm⟩
  trackerSilent _ _ h := by
    obtain ⟨⟨-, -, -, -, staged⟩, -, arm⟩ := h
    exact ⟨.left rfl rfl rfl (Nat.zero_le _) staged, fun _ => rfl, arm⟩

theorem kept_tracker : Kept fun _ => State.TrackerFits := sendParts_tracker.kept actSteps_tracker arrivalSteps_tracker

/-- Settles O60: every mark moves the tracker between states that its items fit, and a changeover takes a bank in use. -/
theorem trackerKept : Obligations.TrackerKept := by
  rintro s t ⟨-, -, -, armed⟩ tracker run
  obtain ⟨items, empty⟩ := (trackerConsistent_iff s).mp tracker
  obtain ⟨items', empty', -⟩ := kept_tracker.step run ⟨items, empty, fun arm => Bank.isEmpty_of_validate (armed arm).2⟩
  exact (trackerConsistent_iff t).mpr ⟨items', empty'⟩

end Sys2Proof.Machine

/-! ## The planner, the banks and the arm in agreement -/

namespace Sys2Proof.Machine

/-! ### A plan that leaves the queue, before the entry to READY is tested (R55) -/

/-- What `State.JobConsistent` says but for the queue in DRAINING, which may be empty until the entry to READY. -/
def State.JobSettling (s : State) : Prop :=
  (s.planner.st = .idle ↔ s.active.isEmpty = true)
    ∧ (s.planner.st = .idle ∨ s.planner.st = .ready → s.planner.queue = [])
    ∧ (s.jobs.arm.isSome = true →
        (s.planner.st = .stamping ∨ s.planner.st = .draining) ∧ s.standby.validate s.jobs.cfg = none)

theorem State.JobConsistent.settling {s : State} (h : s.JobConsistent) : s.JobSettling := ⟨h.1, h.2.1, h.2.2.2⟩

/-- The agreement speaks of the planner's state, of the banks and the arm, and of whether a plan is queued. -/
theorem State.JobConsistent.of_same {s t : State} (h : s.JobConsistent) (st : t.planner.st = s.planner.st)
    (jobs : t.jobs = s.jobs) (queue : t.planner.queue.length = s.planner.queue.length) : t.JobConsistent := by
  unfold State.JobConsistent State.active State.standby at *
  simp only [ne_eq, ← List.length_eq_zero_iff] at *
  rwa [st, jobs, queue]

theorem State.JobSettling.of_same {s t : State} (h : s.JobSettling) (st : t.planner.st = s.planner.st)
    (jobs : t.jobs = s.jobs) (queue : t.planner.queue.length ≤ s.planner.queue.length) : t.JobSettling := by
  obtain ⟨idle, none, arm⟩ := h
  unfold State.JobSettling State.active State.standby at *
  rw [st, jobs]
  refine ⟨idle, fun unused => List.length_eq_zero_iff.mp ?_, arm⟩
  have := List.length_eq_zero_iff.mpr (none unused)
  omega

/-- A changeover while repeats are planned or drained puts a valid bank in use in place of one in use (R42, R44). -/
theorem State.JobConsistent.takeChangeover {s : State} (h : s.JobConsistent) (armed : s.jobs.arm.isSome = true) :
    s.takeChangeover.JobConsistent := by
  obtain ⟨idle, none, drains, arm⟩ := h
  obtain ⟨working, valid⟩ := arm armed
  refine ⟨⟨fun unused => ?_, fun empty => ?_⟩, none, drains, fun still => (by cases still)⟩
  · rw [takeChangeover_planner] at unused
    rw [unused] at working
    simp at working
  · rw [State.takeChangeover_active, Bank.isEmpty_of_validate valid] at empty
    cases empty

/-- READY agrees with an empty queue, an active bank in use and no arm. -/
theorem jobConsistent_of_ready {s : State} (st : s.planner.st = .ready) (empty : s.planner.queue = [])
    (used : s.active.isEmpty = false) (unarmed : s.jobs.arm.isSome = false) : s.JobConsistent := by
  unfold State.JobConsistent
  simp [st, empty, used, unarmed]

/-- The entry to READY, and the changeover that it takes, leave the agreement (R43, R55). -/
theorem State.JobSettling.drainCheck {s : State} (h : s.JobSettling) : s.drainCheck.JobConsistent := by
  obtain ⟨idle, none, arm⟩ := h
  unfold State.drainCheck
  split
  next last =>
    obtain ⟨draining, empty⟩ := Bool.and_eq_true_iff.mp last
    have draining : s.planner.st = .draining := by simpa using draining
    have empty : s.planner.queue = [] := List.isEmpty_iff.mp empty
    unfold State.enterReady
    simp only
    split
    next armed =>
      exact jobConsistent_of_ready (s := State.takeChangeover _) rfl empty (Bank.isEmpty_of_validate (arm armed).2) rfl
    next unarmed =>
      refine jobConsistent_of_ready (s := s.setPlanner _) rfl empty ?_ (Bool.not_eq_true _ ▸ unarmed)
      have used : ¬s.active.isEmpty = true := fun none => by
        rw [idle.mpr none] at draining
        cases draining
      exact Bool.not_eq_true _ ▸ used
  next more =>
    refine ⟨idle, none, fun draining empty => more ?_, arm⟩
    simp [draining, empty]

theorem State.JobConsistent.closePlan {s : State} (h : s.JobConsistent) (p : Plan) (reports : Bool) :
    (s.closePlan p reports).JobConsistent := by
  unfold State.closePlan
  refine State.JobSettling.drainCheck (h.settling.of_same ?_ ?_ ?_)
  · split <;> exact countPlan_st s p
  · split <;> rfl
  · refine (length_removeFirst_le _ _).trans ?_
    split <;> simp

theorem State.JobConsistent.modPlan {s : State} (h : s.JobConsistent) (n : Rep) (f : Plan → Plan) :
    (s.modPlan n f).JobConsistent := h.of_same rfl rfl (by simp)

@[simp] theorem modPlan_st (s : State) (n : Rep) (f : Plan → Plan) : (s.modPlan n f).planner.st = s.planner.st := rfl

theorem State.JobConsistent.decideEntry {s : State} (h : s.JobConsistent) (n : Rep) (l : Fin 8) (d : Decision)
    (reports : Bool) : (s.decideEntry n l d reports).JobConsistent := by
  unfold State.decideEntry
  split
  · exact h
  · split
    · exact h
    · unfold State.decideIn
      simp only
      split
      · exact closePlan (h.of_same (by simp) (by simp) (by simp)) _ _
      · exact h.of_same (by simp) (by simp) (by simp)

theorem keptByTests_job : KeptByTests State.JobConsistent where
  decide _ n l d reports h := h.decideEntry n l d reports
  closeDone _ p _ reports _ _ h := h.closePlan p reports
  withdraw _ _ _ _ _ _ _ _ _ h := h.modPlan _ _
  moveDue _ _ _ h := h.modPlan _ _
  entryDue _ _ _ h := h.modPlan _ _

/-! ### A repeat planned -/

/-- The agreement in STAMPING: a bank in use, and an arm over a valid one; the queue may be any. -/
def State.Stamping (s : State) : Prop :=
  s.planner.st = .stamping ∧ s.active.isEmpty = false ∧ (s.jobs.arm.isSome = true → s.standby.validate s.jobs.cfg = none)

theorem stamping_iff (s : State) : s.Stamping ↔ s.planner.st = .stamping ∧ s.JobConsistent := by
  unfold State.Stamping State.JobConsistent
  constructor
  · rintro ⟨st, used, arm⟩
    simp_all
  · rintro ⟨st, idle, -, -, arm⟩
    simp_all

theorem State.JobConsistent.setActive {s : State} (h : s.JobConsistent) {b : Bank}
    (same : b.isEmpty = s.active.isEmpty) :
    (s.setActive b).JobConsistent := by
  obtain ⟨idle, rest⟩ := h
  refine ⟨?_, ?_⟩
  · rw [State.setActive_active, same]
    exact idle
  · rw [State.setActive_standby]
    exact rest

theorem draftParts_stamping : DraftParts State.Stamping where
  count _ l d h := ⟨(Planner.count_st _ l d).trans h.1, h.2⟩
  advance s l h := by
    rw [stamping_iff] at *
    exact ⟨h.1, h.2.setActive (Bank.isEmpty_modLane _ _ Lane.advance_mode)⟩

theorem changeoverCheck_st (s : State) (n : Rep) : (s.changeoverCheck n).planner = s.planner := by
  unfold State.changeoverCheck
  split <;> rfl

theorem State.JobConsistent.changeoverCheck {s : State} (h : s.JobConsistent) (n : Rep) :
    (s.changeoverCheck n).JobConsistent := by
  unfold State.changeoverCheck
  split
  next due =>
    refine h.takeChangeover ?_
    cases armed : s.jobs.arm with
    | none => simp [Jobs.isDue, armed] at due
    | some _ => rfl
  · exact h

theorem State.JobConsistent.plannerTakes {s : State} (h : s.JobConsistent) (m : HandOver) :
    (s.plannerTakes m).JobConsistent := by
  unfold State.plannerTakes
  split
  · exact h
  · exact h
  next st =>
    unfold State.planRepeat
    split
    · exact ((stamping_iff _).mp (draftParts_stamping.overflow m ((stamping_iff s).mpr ⟨st, h⟩))).2
    next room =>
      have checked : (s.changeoverCheck m.repeatNo).Stamping :=
        (stamping_iff _).mpr ⟨by rw [changeoverCheck_st, st], h.changeoverCheck _⟩
      refine ((stamping_iff _).mp (draftParts_stamping.planEntries m _ ?_ checked)).2
      rw [changeoverCheck_st]
      exact not_le.mp room
  · exact h.changeoverCheck _

theorem State.JobConsistent.takePitch {s : State} (h : s.JobConsistent) : s.takePitch.JobConsistent := by
  unfold State.takePitch
  split
  · exact h
  next l _ => exact h.setActive (b := { s.active with job := { s.active.job with lr := l } }) rfl

/-! ### The step -/

theorem setpointParts_job : SetpointParts State.JobConsistent where
  replan _ _ same h := h.of_same rfl rfl same.length

theorem State.JobConsistent.takeNow {s : State} (h : s.JobConsistent)
    (unused : s.planner.st = .idle ∨ s.planner.st = .ready)
    (valid : s.standby.validate s.jobs.cfg = none) : s.takeNow.JobConsistent :=
  jobConsistent_of_ready rfl (h.2.1 unused) (Bank.isEmpty_of_validate valid) rfl

theorem actSteps_job : ActSteps fun _ => State.JobConsistent where
  unitSteps _ := { cassette := fun _ _ h => cassetteCycle_keeps h fun _ _ h => h }
  standby _ s b unarmed _ h := by
    obtain ⟨idle, none, drains, -⟩ := h
    refine ⟨?_, none, drains, fun armed => absurd armed ?_⟩
    · rwa [State.setStandby_active]
    · simp [State.setStandby, Jobs.setStandbyBank, unarmed]
  cfg _ _ _ stamping draining _ h := by
    obtain ⟨idle, none, drains, arm⟩ := h
    refine ⟨idle, none, drains, fun armed => ?_⟩
    rcases (arm armed).1 with st | st
    · exact absurd st stamping
    · exact absurd st draining
  arm _ _ _ st valid h := ⟨h.1, h.2.1, h.2.2.1, fun _ => ⟨st, valid⟩⟩
  disarm _ _ h := ⟨h.1, h.2.1, h.2.2.1, fun armed => (by cases armed)⟩
  start _ s st h := by
    obtain ⟨idle, none, drains, arm⟩ := h
    refine ⟨⟨fun same => (by cases same), fun empty => ?_⟩, fun same => by simp [State.setPlannerState] at same,
      fun same => (by cases same), fun armed => ⟨Or.inl rfl, (arm armed).2⟩⟩
    have := idle.mpr empty
    rw [this] at st
    simp at st
  lane _ _ _ _ mode _ h := h.setActive (Bank.isEmpty_modLane _ _ mode)
  plannerReset _ s empty unarmed h := by
    have st : s.plannerAfterReset.planner.st = if s.active.isEmpty then .idle else .ready := rfl
    refine ⟨?_, fun _ => empty, fun drains => ?_, fun armed => absurd armed ?_⟩
    · rw [st]
      change _ ↔ s.active.isEmpty = true
      split <;> simp_all
    · rw [st] at drains
      split at drains <;> cases drains
    · have same : s.plannerAfterReset.jobs = s.jobs := rfl
      simp [same, unarmed]

theorem arrivalSteps_job : ArrivalSteps fun _ => State.JobConsistent where
  tmp _ _ _ _ _ h := readTmp_keeps (fun _ _ h => h) (fun _ _ h => h) h
  reset _ _ _ _ := ⟨⟨fun _ => Bank.cleared_isEmpty, fun _ => rfl⟩, fun _ => rfl, fun drains => (by cases drains),
    fun armed => (by cases armed)⟩

theorem kept_job : Kept fun _ => State.JobConsistent where
  toActSteps := actSteps_job
  toArrivalSteps := arrivalSteps_job
  tests _ := keptByTests_job
  takeNow _ _ unused valid h := h.takeNow unused valid
  stop _ s st h := by
    obtain ⟨idle, none, drains, arm⟩ := h
    refine State.JobSettling.drainCheck ⟨⟨fun same => (by cases same), fun empty => ?_⟩, fun same => ?_,
      fun armed => ⟨Or.inr rfl, (arm armed).2⟩⟩
    · have := idle.mpr empty
      rw [st] at this
      cases this
    · simp [State.setPlannerState] at same
  roll _ _ f _ _ h := by
    unfold State.loadTest
    split
    · exact h
    · unfold State.lowTest
      split
      · exact h
      · exact h
  mark _ s t mt _ _ _ _ h := by
    have numbered : (s.setTracker { t with mtPrev := mt, repeatNo := s.tracker.repeatNo + 1 }).JobConsistent := h
    exact (numbered.plannerTakes _).takePitch
  acknowledged _ _ r _ h := by
    cases r.item with
    | phs n l => exact h.modPlan _ _
    | fmv n i => exact h.modPlan _ _
  due _ _ _ waits h := setpointParts_job.sendDue _ _ waits h

/-- Settles O57: the planner's state follows the queue and the active bank at every closing of a plan, and a changeover
takes a validated bank. -/
theorem jobKept : Obligations.JobKept := fun _ _ consistent run => kept_job.step run consistent

end Sys2Proof.Machine

/-! ## The drafting of a plan -/

namespace Sys2Proof.Machine

/-! ### Runs fitted to their room (R93) -/

/-- The smallest gap of two runs or more is the gap of an adjacent pair, and joining there leaves one run less. -/
theorem length_joinAtGap {g : Int} : ∀ {rs : List Run}, smallestGap rs = some g →
    (joinAtGap g rs).length + 1 = rs.length
  | [], found => by cases found
  | [_], found => by cases found
  | a :: b :: rs, found => by
    simp only [joinAtGap]
    split
    · simp
    next other =>
      have inner : smallestGap (b :: rs) = some g := by
        simp only [smallestGap] at found
        split at found
        · simp only [Option.some.injEq] at found
          exact absurd found other
        next h found' =>
          simp only [Option.some.injEq] at found
          rw [found']
          congr 1
          omega
      simpa using length_joinAtGap inner

theorem smallestGap_of_two (a b : Run) (rs : List Run) : ∃ g, smallestGap (a :: b :: rs) = some g := by
  simp only [smallestGap]
  split
  · exact ⟨_, rfl⟩
  · exact ⟨_, rfl⟩

/-- Enough joinings bring the runs within their room (R93). -/
theorem length_fitRoom_le {room : Nat} (some' : 1 ≤ room) : ∀ (n : Nat) (rs : List Run), rs.length ≤ n + room →
    (fitRoom n room rs).length ≤ room
  | 0, rs, few => by simpa [fitRoom] using few
  | n + 1, rs, few => by
    simp only [fitRoom]
    split
    next fits => exact fits
    next many =>
      match rs, many with
      | [], many => simp at many
      | [_], many => simp at many; omega
      | a :: b :: rs, _ =>
        obtain ⟨g, found⟩ := smallestGap_of_two a b rs
        rw [found]
        have joined := length_joinAtGap found
        exact length_fitRoom_le some' n _ (by omega)

theorem length_groupRuns_le (fw : FoilWeb) (nip : Pos) {room : Nat} (some' : 1 ≤ room) (group : List Entry) :
    (groupRuns fw nip room group).length ≤ room :=
  length_fitRoom_le some' _ _ (Nat.le_add_right _ _)

/-! ### The entries of a draft -/

@[simp] theorem refuseGroup_lane (f : Fin 4) (e : Entry) : (refuseGroup f e).lane = e.lane := by
  unfold refuseGroup
  split <;> rfl

@[simp] theorem assignMoves_lane (f : Fin 4) (base : Nat) (rs : List Run) (e : Entry) :
    (assignMoves f base rs e).lane = e.lane := by
  unfold assignMoves
  split <;> rfl

theorem assignMoves_inGroup (f g : Fin 4) (base : Nat) (rs : List Run) (e : Entry) :
    (assignMoves f base rs e).inGroup g = e.inGroup g := by
  unfold assignMoves
  split <;> rfl

/-- An entry refused with its group is in no group any more; any other stays as it is. -/
theorem refuseGroup_inGroup {f g : Fin 4} {e : Entry} (h : (refuseGroup f e).inGroup g = true) :
    e.inGroup g = true := by
  unfold refuseGroup at h
  split at h
  · simp [Entry.inGroup, Entry.undecided, Entry.decide] at h
  · exact h

theorem laterGroups_le {es es' : List Entry}
    (fewer : ∀ f : Fin 4, es'.any (Entry.inGroup f) = true → es.any (Entry.inGroup f) = true) :
    ∀ later : List (Fin 4), laterGroups es' later ≤ laterGroups es later := fun later =>
  (List.monotone_filter_right later fewer).length_le

/-- Entries changed one by one fill no group that they did not fill before. -/
theorem laterGroups_map_le (es : List Entry) {g : Entry → Entry}
    (kept : ∀ (f : Fin 4) (e : Entry), (g e).inGroup f = true → e.inGroup f = true) (later : List (Fin 4)) :
    laterGroups (es.map g) later ≤ laterGroups es later := by
  refine laterGroups_le (fun f any => ?_) later
  simp only [List.any_map, List.any_eq_true] at any ⊢
  obtain ⟨e, member, inGroup⟩ := any
  exact ⟨e, member, kept f e inGroup⟩

theorem laterGroups_cons {es : List Entry} {f : Fin 4} (some' : (es.filter (Entry.inGroup f)).isEmpty = false)
    (later : List (Fin 4)) : laterGroups es (f :: later) = laterGroups es later + 1 := by
  have any : es.any (Entry.inGroup f) = true := by
    rw [List.any_eq_true]
    cases h : es.filter (Entry.inGroup f) with
    | nil => rw [h] at some'; cases some'
    | cons e _ =>
      have member : e ∈ es.filter (Entry.inGroup f) := h ▸ List.mem_cons_self
      exact ⟨e, (List.mem_filter.mp member).1, (List.mem_filter.mp member).2⟩
  simp [laterGroups, any]

/-- What a draft keeps while groups are to be built on the webs of a list: its entries are for the lanes of `lanes`, and
there is room for a move of every group still to come (R93). -/
structure Draft.Roomy (lanes : List (Fin 8)) (fs : List (Fin 4)) (d : Draft) : Prop where
  lanes : d.entries.map (·.lane) = lanes
  room : d.moves.length + laterGroups d.entries fs ≤ 4

theorem Draft.Roomy.group {lanes : List (Fin 8)} {f : Fin 4} {later : List (Fin 4)} {d : Draft}
    (h : d.Roomy lanes (f :: later)) (nip : Pos) : (d.group nip f later).Roomy lanes later := by
  obtain ⟨same, room⟩ := h
  unfold Draft.group
  simp only
  split
  next none =>
    have skip : laterGroups d.entries later ≤ laterGroups d.entries (f :: later) :=
      ((List.sublist_cons_self f later).filter _).length_le
    exact ⟨same, by omega⟩
  next some' =>
    rw [Bool.not_eq_true] at some'
    rw [laterGroups_cons some'] at room
    have lanes {g : Entry → Entry} (lane : ∀ e, (g e).lane = e.lane) : (d.entries.map g).map (·.lane) = lanes := by
      rw [← same, List.map_map]
      exact List.map_congr_left fun e _ => lane e
    split
    · have fewer := laterGroups_map_le d.entries (g := refuseGroup f) (fun _ _ => refuseGroup_inGroup) later
      exact ⟨lanes (refuseGroup_lane f), by simp only; omega⟩
    · have fits := length_groupRuns_le (d.s.webEntry f) nip
        (room := Config.movesPerPlan - d.moves.length - laterGroups d.entries later)
        (by simp only [Config.movesPerPlan]; omega) (d.entries.filter (Entry.inGroup f))
      generalize groupRuns _ _ _ _ = runs at fits ⊢
      have fewer := laterGroups_map_le d.entries (g := assignMoves f d.moves.length runs)
        (fun g e inGroup => by rwa [assignMoves_inGroup] at inGroup) later
      refine ⟨lanes (assignMoves_lane f _ runs), ?_⟩
      simp only [List.length_append, List.length_map]
      simp only [Config.movesPerPlan] at fits
      omega

theorem Draft.Roomy.groups {lanes : List (Fin 8)} (nip : Pos) : ∀ (fs : List (Fin 4)) {d : Draft}, d.Roomy lanes fs →
    (Draft.groups nip fs d).Roomy lanes []
  | [], _, h => h
  | _ :: later, _, h => Draft.Roomy.groups nip later (h.group nip)

theorem laneEntry_lane {s : State} {h : HandOver} {nip : Pos} {l : Fin 8} {e : Entry}
    (made : s.laneEntry h nip l = some e) :
    e.lane = l := by
  unfold State.laneEntry at made
  obtain ⟨d, -, made⟩ := Option.bind_eq_some_iff.mp made
  obtain ⟨r, -, rfl⟩ := Option.map_eq_some_iff.mp made
  rfl

/-- The entries of a plan stand in increasing lane number (R57). -/
theorem pairwise_laneEntries (s : State) (h : HandOver) (nip : Pos) :
    ((lanes8.filterMap (s.laneEntry h nip)).map (·.lane)).Pairwise (· < ·) := by
  rw [List.pairwise_map, List.pairwise_filterMap]
  refine List.Pairwise.imp (fun {l k} before e made e' made' => ?_) (show lanes8.Pairwise (· < ·) by decide)
  rw [laneEntry_lane made, laneEntry_lane made']
  exact before

/-- The draft before any group is built (R61). -/
def State.firstDraft (s : State) (h : HandOver) : Draft :=
  { s, entries := lanes8.filterMap (s.laneEntry h (h.mt + len s.jobs.cfg.d)), moves := [] }

theorem draft_eq_groups (s : State) (h : HandOver) :
    s.draft h = Draft.groups (h.mt + len s.jobs.cfg.d) webs4 (s.firstDraft h) := rfl

theorem firstDraft_roomy (s : State) (h : HandOver) :
    (s.firstDraft h).Roomy ((lanes8.filterMap (s.laneEntry h (h.mt + len s.jobs.cfg.d))).map (·.lane)) webs4 := by
  refine ⟨rfl, ?_⟩
  simp only [State.firstDraft, List.length_nil, Nat.zero_add]
  exact List.length_filter_le _ webs4

/-- A drafted plan that is not done at once is consistent (R57, R65, R93). -/
theorem planOf_consistent {s : State} {h : HandOver} {first : Bool}
    (undone : (planOf s h first (s.draft h)).done = false) :
    (planOf s h first (s.draft h)).Consistent := by
  have roomy := Draft.Roomy.groups (h.mt + len s.jobs.cfg.d) webs4 (firstDraft_roomy s h)
  rw [← draft_eq_groups] at roomy
  refine ⟨undone, ?_, by have := roomy.room; exact Nat.le_of_add_right_le this⟩
  have lanes := roomy.lanes
  have increasing := pairwise_laneEntries s h (h.mt + len s.jobs.cfg.d)
  rwa [← lanes] at increasing

end Sys2Proof.Machine

/-! ## The queue of plans along a step -/

namespace Sys2Proof.Machine

/-! ### What a repeat adds to the queue (R60, R65) -/

/-- The plan that the repeat of a hand-over would join the queue with (R57). -/
def State.newPlan (s : State) (h : HandOver) (first : Bool) : Plan := planOf s h first (s.draft h)

theorem joinOrClose_queue (s : State) (p : Plan) :
    (s.joinOrClose p).planner.queue = s.planner.queue ++ if p.done then [] else [p] := by
  unfold State.joinOrClose
  split
  · simp
  · rfl

theorem planEntries_queue (s : State) (h : HandOver) (first : Bool) : (s.planEntries h first).planner.queue =
    s.planner.queue ++ if (s.newPlan h first).done then [] else [s.newPlan h first] := by
  unfold State.planEntries
  simp only [joinOrClose_queue, logPlanned_planner, advanceLanes_planner, draft_planner]
  rfl

theorem overflowLanes_queue (h : HandOver) : ∀ (ls : List (Fin 8)) (s : State),
    (ls.foldl (State.overflowLane h) s).planner.queue = s.planner.queue
  | [], _ => rfl
  | l :: ls, s => by
    rw [List.foldl_cons, overflowLanes_queue h ls]
    simp [State.overflowLane]

theorem overflow_queue (s : State) (h : HandOver) : (s.overflow h).planner.queue = s.planner.queue :=
  overflowLanes_queue h s.lanesInUse s

/-- A hand-over leaves the queue, or one plan joins its tail: a plan of the hand-over's repeat with an undecided entry. -/
theorem plannerTakes_queue (s : State) (h : HandOver) : (s.plannerTakes h).planner.queue = s.planner.queue
    ∨ ∃ p : Plan, p.Consistent ∧ p.repeatNo = h.repeatNo ∧ (s.plannerTakes h).planner.queue = s.planner.queue ++ [p] := by
  have checked (n : Rep) : (s.changeoverCheck n).planner.queue = s.planner.queue := by rw [changeoverCheck_st]
  unfold State.plannerTakes
  split
  · exact .inl rfl
  · exact .inl rfl
  · unfold State.planRepeat
    split
    · exact .inl (overflow_queue s h)
    · rw [planEntries_queue, checked]
      split
      · exact .inl (List.append_nil _)
      next undone =>
        rw [Bool.not_eq_true] at undone
        exact .inr ⟨_, planOf_consistent undone, rfl, rfl⟩
  · exact .inl (checked _)

@[simp] theorem takePitch_planner (s : State) : s.takePitch.planner = s.planner := by
  unfold State.takePitch
  split <;> rfl

theorem loadTest_planner (s : State) (f : Fin 4) : (s.loadTest f).planner = s.planner := by
  unfold State.loadTest
  split
  · rfl
  · exact lowTest_planner s f

theorem PlanFrame.repeatNo {s t : State} (frame : PlanFrame s t) : t.tracker.repeatNo = s.tracker.repeatNo :=
  by rw [frame.tracker]

/-! ### Properties of the queue and of the last repeat number -/

/-- Kept by each change of the queue, for a property of the queue that may speak of the last repeat number given out and
of how many the step may still give out. -/
structure QueueSteps (Q : Nat → Rep → List Plan → Prop) : Prop where
  fewer : ∀ n r q, Q (n + 1) r q → Q n r q
  empty : ∀ n r, Q n r []
  decided : ∀ n r q m l d, Q n r q → Q n r (queueDecided m l d q)
  reshaped : ∀ n r q q', SameShapes q q' → Q n r q → Q n r q'
  closed : ∀ n r q m, Q n r q → Q n r (removeFirst (Plan.isRepeat m) q)
  restart : ∀ n r q, Q n r q → Q 0 0 q
  skipped : ∀ n r q, n < 256 → Q (n + 1) r q → Q n (r + 1) q
  joined : ∀ n r q p, n < 256 → p.Consistent → p.repeatNo = r + 1 → Q (n + 1) r q → Q n (r + 1) (q ++ [p])

/-- The property of the queue as a property of the state. -/
theorem queueProperty_of_frame {Q : Nat → Rep → List Plan → Prop} {n : Nat} {s t : State} (frame : PlanFrame s t)
    {q : List Plan} (queue : t.planner.queue = q)
    (h : Q n s.tracker.repeatNo q) : Q n t.tracker.repeatNo t.planner.queue := by
  rwa [frame.repeatNo, queue]

namespace QueueSteps
variable {Q : Nat → Rep → List Plan → Prop} (k : QueueSteps Q)
include k

theorem last {r : Rep} {q : List Plan} : ∀ {n : Nat}, Q n r q → Q 0 r q
  | 0, h => h
  | n + 1, h => last (k.fewer n r q h)

theorem modPlan {n : Nat} (s : State) (m : Rep) {f : Plan → Plan} (same : ∀ p : Plan, p.SameShape (f p))
    (h : Q n s.tracker.repeatNo s.planner.queue) :
    Q n (s.modPlan m f).tracker.repeatNo (s.modPlan m f).planner.queue :=
  k.reshaped _ _ _ _ (sameShapes_updateFirst _ same _) h

theorem tests (n : Nat) : KeptByTests fun s => Q n s.tracker.repeatNo s.planner.queue where
  decide s m l d reports h := queueProperty_of_frame (decideEntry_frame ..) (decideEntry_queue s m l d reports) (k.decided _ _ _ _ _ _ h)
  closeDone s p _ reports _ _ h := queueProperty_of_frame (closePlan_frame ..) (closePlan_queue s p reports) (k.closed _ _ _ _ h)
  withdraw s _ _ _ _ _ _ _ _ h := k.modPlan s _ (fun p => p.sameShape_modMove _ fun _ => Move.after_of_sent rfl) h
  moveDue s _ _ h := k.modPlan s _ (fun p => p.sameShape_modMove _ Move.after_release) h
  entryDue s _ _ h := k.modPlan s _ (fun p => p.sameShape_modEntries _ fun _ => ⟨rfl, rfl⟩) h

theorem setpoints (n : Nat) : SetpointParts fun s => Q n s.tracker.repeatNo s.planner.queue where
  replan _ _ same h := k.reshaped _ _ _ _ same h

theorem takeMark {n : Nat} {s : State} (room : n < 256) (t : Tracker) (mt : Pos) (r : Int) (synth : Bool)
    (h : Q (n + 1) s.tracker.repeatNo s.planner.queue) :
    Q n (s.takeMark t mt r synth).tracker.repeatNo (s.takeMark t mt r synth).planner.queue := by
  have number : (s.takeMark t mt r synth).tracker.repeatNo = s.tracker.repeatNo + 1 := by rw [takeMark_tracker]
  rw [number, State.takeMark, State.handOver, takePitch_planner]
  rcases plannerTakes_queue (s.setTracker { t with mtPrev := mt, repeatNo := s.tracker.repeatNo + 1 })
    { repeatNo := s.tracker.repeatNo + 1, mt, residual := r, mode := t.mode, synth } with same | ⟨p, consistent, new, more⟩
  · rw [same]
    exact k.skipped _ _ _ room h
  · rw [more]
    exact k.joined _ _ _ _ room consistent new h

theorem kept : Kept fun n s => Q n s.tracker.repeatNo s.planner.queue where
  fewer n s h := k.fewer n _ _ h
  unitSteps n :=
    { cassette := fun _ _ h =>
        cassetteCycle_keeps (P := fun s => Q n s.tracker.repeatNo s.planner.queue) h fun _ _ h => h }
  trackerReset n s h := k.restart _ _ _ h
  tests := k.tests
  stop _ s _ h := queueProperty_of_frame ((setPlanner_frame s _).trans (drainCheck_frame _)) (drainCheck_queue _) h
  roll _ s f _ _ h := by
    refine queueProperty_of_frame ((modFoil_frame s f _).trans (loadTest_frame _ f)) ?_ h
    rw [loadTest_planner, modFoil_planner]
  reset n s _ _ := k.empty n _
  tmp n s c temp fault h :=
    readTmp_keeps (P := fun s => Q n s.tracker.repeatNo s.planner.queue) (fun _ _ h => h) (fun _ _ h => h) h
  mark _ _ t mt r synth room _ h := k.takeMark room t mt r synth h
  acknowledged s _ r _ h := by
    cases r.item with
    | phs n l => exact k.modPlan s _ (fun p => p.sameShape_modEntries _ fun _ => ⟨rfl, rfl⟩) h
    | fmv n i => exact k.modPlan s _ (fun p => p.sameShape_modMove _ fun _ => Move.after_of_sent rfl) h
  due _ _ _ waits h := k.last ((k.setpoints 256).sendDue _ _ waits h)

end QueueSteps

/-! ### Plans of the queue (R56, R57) -/

theorem mem_updateFirst {α : Type} {test : α → Bool} {f : α → α} {x : α} : ∀ {l : List α}, x ∈ updateFirst test f l →
    x ∈ l ∨ ∃ y, l.find? test = some y ∧ x = f y
  | [], member => by cases member
  | y :: ys, member => by
    simp only [updateFirst] at member
    split at member
    next meets =>
      rcases List.mem_cons.mp member with here | there
      · exact .inr ⟨y, by simp [meets], here⟩
      · exact .inl (List.mem_cons_of_mem _ there)
    next other =>
      rcases List.mem_cons.mp member with here | there
      · exact .inl (List.mem_cons.mpr (.inl here))
      · rcases mem_updateFirst there with old | ⟨y', found, e⟩
        · exact .inl (List.mem_cons_of_mem _ old)
        · exact .inr ⟨y', by simp [other, found], e⟩

theorem removeFirst_sublist {α : Type} (test : α → Bool) (l : List α) : (removeFirst test l).Sublist l := by
  rw [removeFirst_eq_eraseP]
  exact List.eraseP_sublist

/-- A plan of the queue after a decision was there before, or is the decided one, which still has an undecided entry. -/
theorem mem_queueDecided {n : Rep} {l : Fin 8} {d : Decision} {q : List Plan} {p' : Plan}
    (member : p' ∈ queueDecided n l d q) : p' ∈ q ∨ ∃ p e, q.find? (Plan.isRepeat n) = some p ∧ p.openEntry l = some e
      ∧ p' = p.decideOpen l e d ∧ (p.decideOpen l e d).done = false := by
  unfold queueDecided at member
  split at member
  · exact .inl member
  next p found =>
    split at member
    · exact .inl member
    next e isOpen =>
      split at member
      · exact .inl ((removeFirst_sublist _ _).subset member)
      next undone =>
        rw [Bool.not_eq_true] at undone
        rcases mem_updateFirst member with old | ⟨_, _, rfl⟩
        · exact .inl old
        · exact .inr ⟨p, e, found, isOpen, rfl, undone⟩

@[simp] theorem Plan.withdrawSpent_length (p : Plan) (i : Option Nat) :
    (p.withdrawSpent i).moves.length = p.moves.length := by
  unfold Plan.withdrawSpent
  split
  · rfl
  · simp [Plan.withdrawMove, Plan.modMove]

theorem Plan.decideOpen_lanes (p : Plan) (l : Fin 8) (e : Entry) (d : Decision) :
    (p.decideOpen l e d).entries.map (·.lane) = p.entries.map (·.lane) := by
  rw [Plan.decideOpen_entries]
  exact map_updateFirst (fun e => e.decide_lane d) _ _

theorem Plan.Consistent.decideOpen {p : Plan} (h : p.Consistent) {l : Fin 8} {e : Entry} {d : Decision}
    (undone : (p.decideOpen l e d).done = false) : (p.decideOpen l e d).Consistent := by
  obtain ⟨-, lanes, moves⟩ := h
  refine ⟨undone, ?_, ?_⟩
  · rwa [Plan.decideOpen_lanes]
  · rwa [Plan.decideOpen, Plan.withdrawSpent_length]

theorem Plan.Consistent.of_sameShape {p q : Plan} (h : p.Consistent) (same : p.SameShape q) : q.Consistent := by
  obtain ⟨undone, lanes, moves⟩ := h
  obtain ⟨-, after, entries⟩ := same
  refine ⟨?_, ?_, by rwa [← after.length_eq]⟩
  · have flags := congrArg (List.all · fun x => !x.2) entries
    simp only [List.all_map] at flags
    exact flags.trans undone
  · have numbers := congrArg (List.map Prod.fst) entries
    simp only [List.map_map] at numbers
    rw [show q.entries.map (·.lane) = p.entries.map (·.lane) from numbers]
    exact lanes

/-- What shapes keep of every plan is kept of every plan of a queue whose plans keep their shapes. -/
theorem forall_of_sameShapes {Q : Plan → Prop} (kept : ∀ p q : Plan, p.SameShape q → Q p → Q q) :
    ∀ {q r : List Plan}, SameShapes q r → (∀ p ∈ q, Q p) → ∀ p ∈ r, Q p
  | _, _, .nil, _, _, member => by cases member
  | _, _, .cons same rest, h, p, member => by
    rcases List.mem_cons.mp member with rfl | there
    · exact kept _ _ same (h _ List.mem_cons_self)
    · exact forall_of_sameShapes kept rest (fun p old => h p (List.mem_cons_of_mem _ old)) p there

theorem queueSteps_consistent : QueueSteps fun _ _ q => ∀ p ∈ q, p.Consistent where
  fewer _ _ _ h := h
  empty _ _ _ member := by cases member
  decided _ _ _ _ _ _ h p member := by
    rcases mem_queueDecided member with old | ⟨p, e, found, -, rfl, undone⟩
    · exact h p old
    · exact (h p (List.mem_of_find?_eq_some found)).decideOpen undone
  reshaped _ _ _ _ same h := forall_of_sameShapes (fun _ _ same h => h.of_sameShape same) same h
  closed _ _ _ _ h p member := h p ((removeFirst_sublist _ _).subset member)
  restart _ _ _ h := h
  skipped _ _ _ _ h := h
  joined _ _ _ p _ consistent _ h p' member := by
    rcases List.mem_append.mp member with old | new
    · exact h p' old
    · rwa [List.mem_singleton.mp new]

/-! ### Repeat numbers of the queue (R56) -/

theorem map_updateFirst_of {α β : Type} {g : α → β} {f : α → α} {test : α → Bool}
    (same : ∀ x, test x = true → g (f x) = g x) (l : List α) : (updateFirst test f l).map g = l.map g := by
  induction l with
  | nil => rfl
  | cons x xs ih =>
    simp only [updateFirst]
    split
    next meets => simp [same x meets]
    · simp [ih]

/-- The repeat numbers of the queue after a decision are those before it, but for the one of a plan that it closed. -/
theorem queueDecided_numbers (n : Rep) (l : Fin 8) (d : Decision) (q : List Plan) :
    ((queueDecided n l d q).map (·.repeatNo)).Sublist (q.map (·.repeatNo)) := by
  unfold queueDecided
  split
  · exact List.Sublist.refl _
  next p found =>
    split
    · exact List.Sublist.refl _
    · split
      · exact (removeFirst_sublist _ _).map _
      · have number : p.repeatNo = n := by simpa [Plan.isRepeat] using List.find?_some found
        refine (map_updateFirst_of (g := Plan.repeatNo) (fun p' meets => ?_) _).symm ▸ List.Sublist.refl _
        rw [Plan.decideOpen_repeatNo, number]
        exact (beq_iff_eq.mp meets).symm

theorem sameShapes_numbers : ∀ {q r : List Plan}, SameShapes q r → r.map (·.repeatNo) = q.map (·.repeatNo)
  | _, _, .nil => rfl
  | _, _, .cons same rest => by rw [List.map_cons, List.map_cons, same.1, sameShapes_numbers rest]

/-- Repeat numbers that are distinct, and among which are none of the next ones to be given out. -/
def NumbersAhead (n : Nat) (r : Rep) (ns : List Rep) : Prop :=
  ns.Nodup ∧ ∀ m ∈ ns, ∀ k : Nat, 1 ≤ k → k ≤ n → m ≠ r + BitVec.ofNat 32 k

theorem NumbersAhead.sublist {n : Nat} {r : Rep} {ns ms : List Rep} (h : NumbersAhead n r ns) (sub : ms.Sublist ns) :
    NumbersAhead n r ms := ⟨h.1.sublist sub, fun m member => h.2 m (sub.subset member)⟩

theorem repeatNo_add_succ (r : Rep) (k : Nat) : r + 1 + BitVec.ofNat 32 k = r + BitVec.ofNat 32 (k + 1) := by
  rw [BitVec.ofNat_add]
  bv_omega

/-- The next number given out leaves the ones after it ahead. -/
theorem NumbersAhead.next {n : Nat} {r : Rep} {ns : List Rep} (h : NumbersAhead (n + 1) r ns) :
    NumbersAhead n (r + 1) ns :=
  ⟨h.1, fun m member k least most => repeatNo_add_succ r k ▸ h.2 m member (k + 1) (by omega) (by omega)⟩

/-- The number given out is none of those there, and none of the fewer than 2^32 to come (R20, R56). -/
theorem NumbersAhead.join {n : Nat} {r : Rep} {ns : List Rep} (room : n < 256) (h : NumbersAhead (n + 1) r ns) :
    NumbersAhead n (r + 1) (ns ++ [r + 1]) := by
  refine ⟨h.1.append (List.nodup_singleton _) ?_, fun m member k least most => ?_⟩
  · rw [List.disjoint_singleton]
    exact fun twice => h.2 _ twice 1 (le_refl 1) (by omega) rfl
  · rcases List.mem_append.mp member with old | new
    · exact h.next.2 m old k least most
    · rw [List.mem_singleton.mp new]
      have small : k < 2 ^ 32 := by omega
      bv_omega

theorem queueSteps_distinct : QueueSteps fun n r q => NumbersAhead n r (q.map (·.repeatNo)) where
  fewer _ _ _ h := ⟨h.1, fun m member k least most => h.2 m member k least (by omega)⟩
  empty _ _ := ⟨List.nodup_nil, fun _ member => by cases member⟩
  decided _ _ _ _ _ _ h := h.sublist (queueDecided_numbers ..)
  reshaped _ _ _ _ same h := by rwa [sameShapes_numbers same]
  closed _ _ _ _ h := h.sublist ((removeFirst_sublist _ _).map _)
  restart _ _ _ h := ⟨h.1, fun _ _ k least most => by omega⟩
  skipped _ _ _ _ h := h.next
  joined _ _ _ p room _ number h := by
    rw [List.map_append, List.map_singleton, number]
    exact h.join room

/-- Settles O58: a plan joins the queue with an undecided entry and with the next repeat number, and leaves it with its
last decision. -/
theorem queueKept : Obligations.QueueKept := by
  refine ⟨fun _ _ consistent run => queueSteps_consistent.kept.step run consistent fun _ h => h, fun s t distinct ahead run => ?_⟩
  have start : NumbersAhead 256 s.tracker.repeatNo (s.planner.queue.map (·.repeatNo)) := by
    refine ⟨distinct, fun m member => ?_⟩
    obtain ⟨p, queued, rfl⟩ := List.mem_map.mp member
    exact ahead p queued
  exact (queueSteps_distinct.kept.step run start).1

end Sys2Proof.Machine

/-! ## The foil reserved for the queue -/

namespace Sys2Proof.Machine

/-! ### The first member that meets a test -/

/-- A list cut at its first member that meets a test: what a change and a removal of that member leave. -/
theorem exists_split_of_find? {α : Type} {test : α → Bool} {x : α} : ∀ {l : List α}, l.find? test = some x →
    ∃ a b, l = a ++ x :: b ∧ (∀ y ∈ a, test y = false) ∧ (∀ f, updateFirst test f l = a ++ f x :: b)
      ∧ removeFirst test l = a ++ b
  | [], found => by cases found
  | y :: ys, found => by
    by_cases meets : test y = true
    · obtain rfl : y = x := by simpa [meets] using found
      exact ⟨[], ys, rfl, fun _ member => (by cases member), fun f => by simp [updateFirst, meets],
        by simp [removeFirst, meets]⟩
    · rw [List.find?_cons_of_neg meets] at found
      obtain ⟨a, b, rfl, before, updated, removed⟩ := exists_split_of_find? found
      exact ⟨y :: a, b, rfl, by simpa [meets] using before, fun f => by simp [updateFirst, meets, updated],
        by simp [removeFirst, meets, removed]⟩

theorem updateFirst_of_find?_eq_none {α : Type} {test : α → Bool} {f : α → α} : ∀ {l : List α}, l.find? test = none →
    updateFirst test f l = l
  | [], _ => rfl
  | y :: ys, absent => by
    have other : ¬test y = true := fun meets => by simp [meets] at absent
    rw [List.find?_cons_of_neg other] at absent
    simp [updateFirst, other, updateFirst_of_find?_eq_none absent]

/-! ### The foil that a plan holds (R89) -/

/-- The foil that a move holds reserved on a web: its own while it is unsent (R88). -/
def Move.held (f : Fin 4) (m : Move) : Nat := if m.canFollow f then m.reserved else 0

/-- The foil that the unsent moves of a plan hold reserved on a web. -/
def Plan.held (f : Fin 4) (p : Plan) : Nat := (p.moves.map (Move.held f)).sum

theorem Plan.held_eq (f : Fin 4) (p : Plan) : p.held f = ((p.unsentOn f).map (·.reserved)).sum := by
  unfold Plan.held Plan.unsentOn
  induction p.moves with
  | nil => rfl
  | cons m ms ih =>
    rw [List.map_cons, List.sum_cons, ih, List.filter_cons]
    unfold Move.held
    split <;> simp

theorem State.reservedSum_eq (s : State) (f : Fin 4) : s.reservedSum f = (s.planner.queue.map (Plan.held f)).sum := by
  unfold State.reservedSum
  induction s.planner.queue with
  | nil => rfl
  | cons p q ih => simp [ih, Plan.held_eq]

/-- A move that holds foil is sent or withdrawn in place of one of the plan's: its foil alone is held no more. -/
theorem sum_map_modify {α : Type} {g : α → α} {h : α → Nat} {x : α} : ∀ {l : List α} {i : Nat}, l[i]? = some x →
    ((l.modify i g).map h).sum + h x = (l.map h).sum + h (g x)
  | [], _, found => by simp at found
  | y :: ys, 0, found => by
    obtain rfl : y = x := by simpa using found
    simp only [List.modify_zero_cons, List.map_cons, List.sum_cons]
    omega
  | y :: ys, i + 1, found => by
    have rest := sum_map_modify (g := g) (h := h) (l := ys) (i := i) (by simpa using found)
    simp only [List.modify_succ_cons, List.map_cons, List.sum_cons]
    omega

theorem Plan.held_modMove {p : Plan} {i : Nat} {m : Move} (found : p.moves[i]? = some m) (g : Move → Move) (f : Fin 4) :
    (p.modMove i g).held f + m.held f = p.held f + (g m).held f := sum_map_modify found

theorem Move.held_of_sent {m : Move} (sent : m.st.isUnsent = false) (f : Fin 4) : m.held f = 0 := by
  simp [Move.held, Move.canFollow, sent]

theorem Move.held_of_unsent {m : Move} (unsent : m.st.isUnsent = true) (f : Fin 4) :
    m.held f = if m.web = f then m.reserved else 0 := by
  simp [Move.held, Move.canFollow, unsent]

/-- Every unsent move of a plan holds its length and serves an undecided entry (R70, R88). -/
def Plan.Serves (p : Plan) : Prop :=
  ∀ i m, p.moves[i]? = some m → m.st.isUnsent = true → m.reserved = m.length ∧ p.entries.any (Entry.needs i) = true

theorem Plan.serves_iff (p : Plan) : p.Serves ↔ ∀ i : Nat, ∀ h : i < p.moves.length, p.moves[i].st.isUnsent = true →
    p.moves[i].reserved = p.moves[i].length ∧ p.entries.any (Entry.needs i) = true := by
  constructor
  · intro serves i inside
    exact serves i _ (List.getElem?_eq_getElem inside)
  · intro serves i m found
    obtain ⟨inside, rfl⟩ := List.getElem?_eq_some_iff.mp found
    exact serves i inside

/-- A plan without an undecided entry holds no foil. -/
theorem Plan.Serves.held_of_done {p : Plan} (h : p.Serves) (done : p.done = true) (f : Fin 4) : p.held f = 0 := by
  have zero : ∀ m ∈ p.moves, m.held f = 0 := by
    intro m member
    obtain ⟨i, inside, rfl⟩ := List.getElem_of_mem member
    cases unsent : p.moves[i].st.isUnsent with
    | false => exact Move.held_of_sent unsent f
    | true =>
      obtain ⟨-, needs⟩ := h i _ (List.getElem?_eq_getElem inside) unsent
      obtain ⟨e, entry, served⟩ := List.any_eq_true.mp needs
      have decided := List.all_eq_true.mp done e entry
      simp only [Entry.needs, Bool.and_eq_true] at served
      simp [served.2] at decided
  have all := List.map_congr_left (f := Move.held f) (g := fun _ => 0) zero
  simp [Plan.held, all]

/-- The plan with a move changed: the others serve as before. -/
theorem Plan.Serves.modMove {p : Plan} (h : p.Serves) {i : Nat} {g : Move → Move}
    (kept : ∀ m, p.moves[i]? = some m → (g m).st.isUnsent = true → m.st.isUnsent = true ∧ (m.reserved = m.length →
      (g m).reserved = (g m).length)) : (p.modMove i g).Serves := by
  intro j m found unsent
  simp only [Plan.modMove, List.getElem?_modify] at found
  split at found
  next same =>
    subst same
    obtain ⟨m, there, rfl⟩ := Option.map_eq_some_iff.mp found
    obtain ⟨was, equal⟩ := kept m there unsent
    obtain ⟨length, needs⟩ := h _ m there was
    exact ⟨equal length, needs⟩
  next other => exact h j m (by simpa using found) unsent

/-! ### The decision of an entry -/

theorem Entry.needs_decide (i : Nat) (e : Entry) (d : Decision) : (e.decide d).needs i = false := by
  simp [Entry.needs]

/-- Deciding an entry takes its need of its own move, and none other. -/
theorem any_needs_decide {es : List Entry} {test : Entry → Bool} {e : Entry} (found : es.find? test = some e) {i : Nat}
    (other : e.move ≠ some i) (d : Decision) :
    (updateFirst test (fun e => e.decide d) es).any (Entry.needs i) = es.any (Entry.needs i) := by
  obtain ⟨a, b, rfl, -, updated, -⟩ := exists_split_of_find? found
  have unneeded : e.needs i = false := by simp [Entry.needs, other]
  simp [updated, Entry.needs_decide, unneeded]

/-- The move that a decision withdraws is unsent, and the decided entry was the last one it served (R70). -/
theorem Plan.spentMove_eq_some {p : Plan} {j : Option Nat} {k : Nat} {m : Move} (spent : p.spentMove j = some (k, m)) :
    j = some k ∧ p.moves[k]? = some m ∧ m.st.isUnsent = true ∧ p.entries.any (Entry.needs k) = false := by
  unfold Plan.spentMove at spent
  split at spent
  · cases spent
  next i =>
    split at spent
    · cases spent
    next m' found =>
      split at spent
      next unneeded =>
        simp only [Option.some.injEq, Prod.mk.injEq] at spent
        obtain ⟨rfl, rfl⟩ := spent
        simp only [Bool.and_eq_true, Bool.not_eq_true'] at unneeded
        exact ⟨rfl, found, unneeded⟩
      · cases spent

theorem Plan.spentMove_eq_none {p : Plan} {i : Nat} (none : p.spentMove (some i) = none) {m : Move}
    (found : p.moves[i]? = some m) (unsent : m.st.isUnsent = true) : p.entries.any (Entry.needs i) = true := by
  simp only [Plan.spentMove, found, unsent, Bool.true_and] at none
  split at none
  · cases none
  next needed => simpa using needed

/-- The plan with an entry decided, before its spent move is withdrawn: every other unsent move serves as before. -/
theorem Plan.Serves.decided {p : Plan} (h : p.Serves) {l : Fin 8} {e : Entry} (isOpen : p.openEntry l = some e)
    (d : Decision) {i : Nat} {m : Move} (found : p.moves[i]? = some m) (unsent : m.st.isUnsent = true)
    (other : e.move ≠ some i) : (p.modOpen l fun e => e.decide d).entries.any (Entry.needs i) = true := by
  have same := any_needs_decide (test := isOpenLane l) isOpen other d
  exact same.trans (h i m found unsent).2

theorem Plan.Serves.decideOpen {p : Plan} (h : p.Serves) {l : Fin 8} {e : Entry} (isOpen : p.openEntry l = some e)
    (d : Decision) : (p.decideOpen l e d).Serves := by
  intro i m found unsent
  have entries : (p.decideOpen l e d).entries = (p.modOpen l fun e => e.decide d).entries := by
    rw [Plan.decideOpen_entries]
    rfl
  rw [entries]
  unfold Plan.decideOpen Plan.withdrawSpent at found
  split at found
  next none =>
    have there : p.moves[i]? = some m := found
    refine ⟨(h i m there unsent).1, ?_⟩
    by_cases own : e.move = some i
    · rw [own] at none
      exact Plan.spentMove_eq_none none found unsent
    · exact h.decided isOpen d there unsent own
  next k m' spent =>
    obtain ⟨own, withdrawn, -, -⟩ := Plan.spentMove_eq_some spent
    simp only [Plan.withdrawMove, Plan.modMove, List.getElem?_modify] at found
    split at found
    next same =>
      obtain ⟨_, -, rfl⟩ := Option.map_eq_some_iff.mp found
      simp [SetState.isUnsent] at unsent
    next differs =>
      have there : p.moves[i]? = some m := by simpa [Plan.modOpen] using found
      have other : e.move ≠ some i := by
        rw [own]
        simpa using differs
      exact ⟨(h i m there unsent).1, h.decided isOpen d there unsent other⟩

/-! ### The account and the queue -/

/-- Each web's account agrees with the foil that the plans of a queue hold (R88, R89). -/
def FoilBalanced (foil : Vector FoilAccount 4) (q : List Plan) : Prop :=
  (∀ f : Fin 4, foil[f].reserved ≤ foil[f].remaining ∧ foil[f].remaining ≤ 2147483648
      ∧ foil[f].reserved = (q.map (Plan.held f)).sum) ∧ ∀ p ∈ q, p.Serves

theorem foilConsistent_iff (s : State) : s.FoilConsistent ↔ FoilBalanced s.foil s.planner.queue := by
  unfold State.FoilConsistent FoilBalanced
  simp only [State.reservedSum_eq, Plan.serves_iff]

theorem forall_mem_replace {α : Type} {Q : α → Prop} {a b : List α} {x y : α} (h : ∀ z ∈ a ++ x :: b, Q z)
    (changed : Q x → Q y) : ∀ z ∈ a ++ y :: b, Q z := by
  simp only [List.mem_append, List.mem_cons] at h ⊢
  rintro z (before | rfl | behind)
  · exact h z (.inl before)
  · exact changed (h x (.inr (.inl rfl)))
  · exact h z (.inr (.inr behind))

/-- A plan replaced by one that holds as much. -/
theorem FoilBalanced.replace {foil : Vector FoilAccount 4} {a b : List Plan} {p p' : Plan}
    (h : FoilBalanced foil (a ++ p :: b)) (held : ∀ f, p'.held f = p.held f) (serves : p.Serves → p'.Serves) :
    FoilBalanced foil (a ++ p' :: b) := by
  obtain ⟨account, plans⟩ := h
  refine ⟨fun f => ?_, forall_mem_replace plans serves⟩
  have balance := account f
  simpa only [List.map_append, List.map_cons, held] using balance

/-- A plan that holds nothing leaves the queue. -/
theorem FoilBalanced.remove {foil : Vector FoilAccount 4} {a b : List Plan} {p : Plan}
    (h : FoilBalanced foil (a ++ p :: b)) (held : ∀ f, p.held f = 0) : FoilBalanced foil (a ++ b) := by
  obtain ⟨account, plans⟩ := h
  refine ⟨fun f => ?_, fun x member => plans x (by simp only [List.mem_append, List.mem_cons] at member ⊢; tauto)⟩
  have balance := account f
  simpa only [List.map_append, List.map_cons, List.sum_append, List.sum_cons, held, Nat.zero_add] using balance

/-- A plan replaced by one that holds a move's foil no more, with the foil given back (R70, R102). -/
theorem FoilBalanced.release {foil : Vector FoilAccount 4} {a b : List Plan} {p p' : Plan} {m : Move}
    (h : FoilBalanced foil (a ++ p :: b)) (unsent : m.st.isUnsent = true) (held : ∀ f, p'.held f + m.held f = p.held f)
    (serves : p.Serves → p'.Serves) :
    FoilBalanced (foil.set m.web (foil[m.web].release m.reserved)) (a ++ p' :: b) := by
  obtain ⟨account, plans⟩ := h
  refine ⟨fun f => ?_, forall_mem_replace plans serves⟩
  obtain ⟨within, most, balance⟩ := account f
  have parts := held f
  rw [Move.held_of_unsent unsent] at parts
  simp only [List.map_append, List.map_cons, List.sum_append, List.sum_cons] at balance ⊢
  rw [Fin.getElem_fin, Vector.getElem_set]
  by_cases same : m.web = f
  · subst same
    rw [if_pos rfl] at parts ⊢
    simp only [FoilAccount.release]
    omega
  · have apart : m.web.val ≠ f.val := fun e => same (Fin.ext e)
    rw [if_neg same] at parts
    rw [if_neg apart]
    refine ⟨within, most, ?_⟩
    simp only [Fin.getElem_fin] at balance
    omega

/-- The balance speaks of the reserved and the remaining foil alone. -/
theorem FoilBalanced.congr {foil foil' : Vector FoilAccount 4} {q : List Plan} (h : FoilBalanced foil q)
    (same : ∀ f : Fin 4, foil'[f].reserved = foil[f].reserved ∧ foil'[f].remaining = foil[f].remaining) :
    FoilBalanced foil' q := by
  refine ⟨fun f => ?_, h.2⟩
  rw [(same f).1, (same f).2]
  exact h.1 f

/-! ### Decisions and closings -/

@[simp] theorem takeChangeover_foil (s : State) : s.takeChangeover.foil = s.foil := rfl

@[simp] theorem drainCheck_foil (s : State) : s.drainCheck.foil = s.foil := by
  unfold State.drainCheck State.enterReady
  simp only
  split
  · split <;> rfl
  · rfl

@[simp] theorem closePlan_foil (s : State) (p : Plan) (reports : Bool) : (s.closePlan p reports).foil = s.foil := by
  unfold State.closePlan
  rw [drainCheck_foil]
  split <;> rfl

@[simp] theorem decideIn_foil (s : State) (p : Plan) (l : Fin 8) (e : Entry) (d : Decision) (reports : Bool) :
    (s.decideIn p l e d reports).foil = (s.releaseSpent (p.modOpen l fun e => e.decide d) e.move).foil := by
  unfold State.decideIn
  simp only
  split
  · rw [closePlan_foil, writeLog_foil]
    rfl
  · rw [writeLog_foil]
    rfl

/-- The plan that an entry was decided in, and the account that its spent move has given back to. -/
theorem FoilBalanced.decideOpen {s : State} {a b : List Plan} {p : Plan} (h : FoilBalanced s.foil (a ++ p :: b))
    {l : Fin 8} {e : Entry} (isOpen : p.openEntry l = some e) (d : Decision) :
    FoilBalanced (s.releaseSpent (p.modOpen l fun e => e.decide d) e.move).foil (a ++ p.decideOpen l e d :: b) := by
  have serves : p.Serves → (p.decideOpen l e d).Serves := fun h => h.decideOpen isOpen d
  unfold State.releaseSpent
  split
  next unspent =>
    have same : (p.decideOpen l e d).moves = p.moves := by
      simp only [Plan.decideOpen, Plan.withdrawSpent, unspent]
      rfl
    exact h.replace (fun f => by rw [Plan.held, same, Plan.held]) serves
  next k m spent =>
    obtain ⟨-, found, unsent, -⟩ := Plan.spentMove_eq_some spent
    have decided : p.decideOpen l e d = (p.modOpen l fun e => e.decide d).withdrawMove k := by
      simp only [Plan.decideOpen, Plan.withdrawSpent, spent]
    refine h.release unsent (fun f => ?_) serves
    have less := Plan.held_modMove found (fun m => { m with st := .withdrawn }) f
    rw [Move.held_of_sent (m := { m with st := .withdrawn }) rfl] at less
    rw [decided]
    exact less

theorem FoilBalanced.decideEntry {s : State} (h : FoilBalanced s.foil s.planner.queue) (n : Rep) (l : Fin 8)
    (d : Decision)
    (reports : Bool) :
    FoilBalanced (s.decideEntry n l d reports).foil (s.decideEntry n l d reports).planner.queue := by
  cases found : s.findPlan n with
  | none => rwa [decideEntry_noPlan found]
  | some p =>
    cases isOpen : p.openEntry l with
    | none => rwa [decideEntry_decided found isOpen]
    | some e =>
      obtain ⟨a, b, queue, -, updated, removed⟩ := exists_split_of_find? found
      rw [queue] at h
      have decided := h.decideOpen isOpen d
      rw [decideEntry_open found isOpen, decideIn_queue found, decideIn_foil, updated, removed]
      split
      next done =>
        have serves := decided.2 (p.decideOpen l e d) (by simp)
        exact decided.remove (serves.held_of_done done)
      · exact decided

theorem FoilBalanced.closeHead {s : State} {p : Plan} {rest : List Plan} (queue : s.planner.queue = p :: rest)
    (done : p.done = true) (reports : Bool) (h : FoilBalanced s.foil s.planner.queue) :
    FoilBalanced (s.closePlan p reports).foil (s.closePlan p reports).planner.queue := by
  rw [queue] at h
  have head : removeFirst (Plan.isRepeat p.repeatNo) s.planner.queue = rest := by
    simp [queue, removeFirst, Plan.isRepeat]
  rw [closePlan_foil, closePlan_queue, head]
  exact h.remove (a := []) ((h.2 p List.mem_cons_self).held_of_done done)

/-! ### Changes of one plan -/

/-- A plan of the queue changed so that it holds as much and serves as before. -/
theorem FoilBalanced.modPlan {foil : Vector FoilAccount 4} {q : List Plan} (h : FoilBalanced foil q) (n : Rep)
    {g : Plan → Plan} (held : ∀ p ∈ q, p.repeatNo = n → (∀ f, (g p).held f = p.held f) ∧ (p.Serves → (g p).Serves)) :
    FoilBalanced foil (updateFirst (Plan.isRepeat n) g q) := by
  cases found : q.find? (Plan.isRepeat n) with
  | none => rwa [updateFirst_of_find?_eq_none found]
  | some p =>
    obtain ⟨same, serves⟩ := held p (List.mem_of_find?_eq_some found) (by simpa [Plan.isRepeat] using List.find?_some found)
    obtain ⟨a, b, rfl, -, updated, -⟩ := exists_split_of_find? found
    rw [updated]
    exact h.replace same serves

/-- Entries may change their setpoints: what they need is their outcome and their move. -/
theorem Plan.Serves.entries {p : Plan} (h : p.Serves) {es : List Entry}
    (needs : ∀ i, es.any (Entry.needs i) = p.entries.any (Entry.needs i)) : Plan.Serves { p with entries := es } :=
  fun i m found unsent => ⟨(h i m found unsent).1, (needs i).trans (h i m found unsent).2⟩

theorem any_updateFirst {α : Type} {g : α → Bool} {f : α → α} (same : ∀ x, g (f x) = g x) (test : α → Bool)
    (l : List α) :
    (updateFirst test f l).any g = l.any g := by
  have flags := congrArg (List.any · id) (map_updateFirst same test l)
  simpa only [List.any_map, Function.id_comp] using flags

/-- A move that keeps what it holds, its length and whether it is unsent may change otherwise. -/
theorem Plan.held_modMove_eq {p : Plan} {i : Nat} {g : Move → Move}
    (same : ∀ m, p.moves[i]? = some m → ∀ f, (g m).held f = m.held f) (f : Fin 4) : (p.modMove i g).held f = p.held f := by
  cases found : p.moves[i]? with
  | none => 
    have : p.moves.modify i g = p.moves := List.modify_eq_self (by simpa using found)
    simp [Plan.held, Plan.modMove, this]
  | some m =>
    have parts := Plan.held_modMove found g f
    rw [same m found f] at parts
    omega

end Sys2Proof.Machine

/-! ## The foil of a move that is sent -/

namespace Sys2Proof.Machine

/-! ### The trim of a successor (R98, R100) -/

/-- A move trimmed by at most what it holds. -/
theorem Move.held_trim {x : Move} {f : Fin 4} (follows : x.canFollow f = true) {t : Nat} (most : t ≤ x.reserved)
    (g : Fin 4) :
    (x.trim t).held g + (if f = g then t else 0) = x.held g := by
  simp only [Move.canFollow, Bool.and_eq_true, beq_iff_eq] at follows
  obtain ⟨rfl, unsent⟩ := follows
  have web : (x.trim t).web = x.web := rfl
  have less : (x.trim t).reserved = x.reserved - t := rfl
  rw [Move.held_of_unsent unsent, Move.held_of_unsent (m := x.trim t) unsent, web, less]
  by_cases same : x.web = g
  · simp only [if_pos same]
    omega
  · simp only [if_neg same]

/-- The moves with the first one that can follow trimmed hold the trim less on its web. -/
theorem sum_held_trim {ms : List Move} {f : Fin 4} {x : Move} (found : ms.find? (Move.canFollow f) = some x) {t : Nat}
    (most : t ≤ x.reserved) (g : Fin 4) :
    ((updateFirst (Move.canFollow f) (Move.trim t) ms).map (Move.held g)).sum + (if f = g then t else 0)
      = (ms.map (Move.held g)).sum := by
  obtain ⟨a, b, rfl, -, updated, -⟩ := exists_split_of_find? found
  have trimmed := Move.held_trim (List.find?_some found) most g
  rw [updated]
  simp only [List.map_append, List.map_cons, List.sum_append, List.sum_cons]
  omega

/-- The members of a list with its first one that can follow trimmed: each stands where one stood of which it is the
trim, or itself. -/
theorem getElem?_trimFirst {f : Fin 4} {t : Nat} : ∀ {ms : List Move} {i : Nat} {m : Move},
    (updateFirst (Move.canFollow f) (Move.trim t) ms)[i]? = some m → ms[i]? = some m ∨ ∃ x, ms[i]? = some x ∧ m = x.trim t
  | [], _, _, found => by simp [updateFirst] at found
  | y :: ys, i, m, found => by
    simp only [updateFirst] at found
    split at found
    · cases i with
      | zero => exact .inr ⟨y, rfl, by simpa using found.symm⟩
      | succ i => exact .inl (by simpa using found)
    · cases i with
      | zero => exact .inl (by simpa using found)
      | succ i => simpa using getElem?_trimFirst (ms := ys) (i := i) (by simpa using found)

/-- A plan some of whose moves were trimmed serves as before. -/
theorem Plan.Serves.trimmed {p : Plan} (h : p.Serves) {ms : List Move} {t : Nat}
    (from' : ∀ (i : Nat) (m : Move), ms[i]? = some m → p.moves[i]? = some m ∨ ∃ x, p.moves[i]? = some x ∧ m = x.trim t) :
    Plan.Serves { p with moves := ms } := by
  intro i m found unsent
  rcases from' i m found with same | ⟨x, there, rfl⟩
  · exact h i m same unsent
  · obtain ⟨length, needs⟩ := h i x there unsent
    exact ⟨by simp only [Move.trim, length], needs⟩

/-- What a trim does to the plans of a queue: they hold the trim less on the web, and serve as before. -/
structure Trimmed (f : Fin 4) (t : Nat) (q r : List Plan) : Prop where
  held : ∀ g, (r.map (Plan.held g)).sum + (if f = g then t else 0) = (q.map (Plan.held g)).sum
  serves : (∀ p ∈ q, p.Serves) → ∀ p ∈ r, p.Serves

theorem Trimmed.head {f : Fin 4} {t : Nat} {p p' : Plan} {q : List Plan}
    (held : ∀ g, p'.held g + (if f = g then t else 0) = p.held g) (serves : p.Serves → p'.Serves) :
    Trimmed f t (p :: q) (p' :: q) where
  held g := by
    have := held g
    simp only [List.map_cons, List.sum_cons]
    omega
  serves h := forall_mem_replace (a := []) h serves

theorem Trimmed.behind {f : Fin 4} {t : Nat} {q r : List Plan} (h : Trimmed f t q r) (p : Plan) :
    Trimmed f t (p :: q) (p :: r) where
  held g := by
    have := h.held g
    simp only [List.map_cons, List.sum_cons]
    omega
  serves all x member := by
    rcases List.mem_cons.mp member with rfl | there
    · exact all _ List.mem_cons_self
    · exact h.serves (fun p old => all p (List.mem_cons_of_mem _ old)) x there

theorem trimmed_trimPlans {f : Fin 4} {x : Move} {t : Nat} (most : t ≤ x.reserved) : ∀ {q : List Plan},
    (q.flatMap Plan.moves).find? (Move.canFollow f) = some x → Trimmed f t q (trimPlans f t q)
  | [], found => by simp at found
  | p :: q, found => by
    rw [List.flatMap_cons, List.find?_append] at found
    simp only [trimPlans]
    split
    next any =>
      obtain ⟨y, here⟩ := Option.isSome_iff_exists.mp ((List.find?_isSome (p := Move.canFollow f)).mpr (List.any_eq_true.mp any))
      obtain rfl : y = x := by simpa [here] using found
      exact .head (sum_held_trim here most) fun h => Plan.Serves.trimmed h fun _ _ => getElem?_trimFirst
    next never =>
      have absent : p.moves.find? (Move.canFollow f) = none := by
        rw [List.find?_eq_none]
        intro m member follows
        exact never (List.any_eq_true.mpr ⟨m, member, follows⟩)
      rw [absent, Option.none_or] at found
      exact (trimmed_trimPlans most found).behind p

/-- The successor of a move of the plan at the head is trimmed where it is found. -/
theorem trimmed_trimSuccessor {f : Fin 4} {i : Nat} {x : Move} {t : Nat} (most : t ≤ x.reserved) {p : Plan}
    {q : List Plan}
    (found : successorIn f i (p :: q) = some x) : Trimmed f t (p :: q) (trimSuccessor f i t (p :: q)) := by
  simp only [successorIn] at found
  simp only [trimSuccessor]
  split
  next any =>
    obtain ⟨y, here⟩ := Option.isSome_iff_exists.mp ((List.find?_isSome (p := Move.canFollow f)).mpr (List.any_eq_true.mp any))
    obtain rfl : y = x := by simpa [here] using found
    have later : i + 1 < p.moves.length := by
      obtain ⟨m, member, -⟩ := List.any_eq_true.mp any
      have := List.length_pos_of_mem member
      rw [List.length_drop] at this
      omega
    refine .head (fun g => ?_) fun h => Plan.Serves.trimmed (t := t) h fun j m there => ?_
    · have rest := sum_held_trim here most g
      have parts : (p.moves.map (Move.held g)).sum
          = ((p.moves.take (i + 1)).map (Move.held g)).sum + ((p.moves.drop (i + 1)).map (Move.held g)).sum := by
        rw [← List.sum_append, ← List.map_append, List.take_append_drop]
      simp only [Plan.held, List.map_append, List.sum_append]
      omega
    · rw [List.getElem?_append] at there
      split at there
      next before =>
        rw [List.getElem?_take] at there
        split at there
        · exact .inl there
        · cases there
      next behind =>
        rw [List.length_take, Nat.min_eq_left later.le] at behind there
        have place : i + 1 + (j - (i + 1)) = j := by omega
        simpa only [List.getElem?_drop, place] using getElem?_trimFirst there
  next never =>
    have absent : (p.moves.drop (i + 1)).find? (Move.canFollow f) = none := by
      rw [List.find?_eq_none]
      intro m member follows
      exact never (List.any_eq_true.mpr ⟨m, member, follows⟩)
    rw [absent, Option.none_or] at found
    exact (trimmed_trimPlans most found).behind p

/-- The trim of a successor leaves the move that it follows as it is. -/
theorem trimSuccessor_head (f : Fin 4) (i t : Nat) (p : Plan) (q : List Plan) : ∃ p' r,
    trimSuccessor f i t (p :: q) = p' :: r ∧ p'.moves[i]? = p.moves[i]? ∧ p'.repeatNo = p.repeatNo := by
  simp only [trimSuccessor]
  split
  next any =>
    have later : i + 1 < p.moves.length := by
      obtain ⟨m, member, -⟩ := List.any_eq_true.mp any
      have := List.length_pos_of_mem member
      rw [List.length_drop] at this
      omega
    refine ⟨_, _, rfl, ?_, rfl⟩
    rw [List.getElem?_append_left (by rw [List.length_take]; omega), List.getElem?_take_of_lt (Nat.lt_succ_self i)]
  · exact ⟨p, _, rfl, rfl, rfl⟩

/-! ### The sending of a foil move (R99, R100) -/

/-- How a move is chained: foil is drawn over a gap only as far as it is available, and a trim takes no more than the
successor's length. -/
theorem chainPlan_cases (m : Move) (succ : Option Move) (available : Nat) :
    ((chainPlan m succ available).trim = 0 ∧ (chainPlan m succ available).extra ≤ available)
      ∨ (chainPlan m succ available).extra = 0 ∧ ∃ x, succ = some x ∧ (chainPlan m succ available).trim ≤ x.length := by
  unfold chainPlan
  cases succ with
  | none => exact .inl ⟨rfl, Nat.zero_le _⟩
  | some x =>
    simp only
    split_ifs with overlap near enough
    · exact .inr ⟨rfl, x, rfl, Nat.min_le_right _ _⟩
    · exact .inl ⟨rfl, enough⟩
    · exact .inl ⟨rfl, Nat.zero_le _⟩
    · exact .inl ⟨rfl, Nat.zero_le _⟩

theorem successorIn_mem {f : Fin 4} {i : Nat} {q : List Plan} {x : Move} (found : successorIn f i q = some x) :
    x.canFollow f = true ∧ ∃ p ∈ q, x ∈ p.moves := by
  cases q with
  | nil => cases found
  | cons p q =>
    rcases Option.or_eq_some_iff.mp found with here | ⟨-, there⟩
    · exact ⟨List.find?_some here, p, List.mem_cons_self, List.mem_of_mem_drop (List.mem_of_find?_eq_some here)⟩
    · obtain ⟨p', queued, member⟩ := List.mem_flatMap.mp (List.mem_of_find?_eq_some there)
      exact ⟨List.find?_some there, p', List.mem_cons_of_mem _ queued, member⟩

/-- The plans in front of the first one that meets a test, and it with those behind it. -/
theorem takeWhile_dropWhile_of_split {α : Type} {test : α → Bool} {a b : List α} {x : α}
    (before : ∀ y ∈ a, test y = false) (meets : test x = true) :
    (a ++ x :: b).takeWhile (fun y => !test y) = a ∧ (a ++ x :: b).dropWhile (fun y => !test y) = x :: b := by
  have pass : ∀ y ∈ a, (!test y) = true := fun y member => by simp [before y member]
  exact ⟨by rw [List.takeWhile_append_of_pos pass]; simp [meets], by rw [List.dropWhile_append_of_pos pass]; simp [meets]⟩

/-- The account of a web and the queue after a move was sent: its foil and the gap's taken, the trim given back. -/
theorem FoilBalanced.consumed {foil : Vector FoilAccount 4} {a r : List Plan} {q : List Plan} {p p' : Plan} {i : Nat}
    {m : Move} {c : SendPlan} (h : FoilBalanced foil (a ++ q)) (trimmed : Trimmed m.web c.trim q (p' :: r)) (member : p ∈ q)
    (found : p.moves[i]? = some m) (there : p'.moves[i]? = some m) (unsent : m.st.isUnsent = true)
    (drawn : c.extra ≤ foil[m.web].available ∧ c.trim = 0 ∨ c.extra = 0) (seq : Byte) :
    FoilBalanced (foil.set m.web (foil[m.web].consume m c)) (a ++ p'.sendFmv i seq c.chain :: r) := by
  obtain ⟨account, plans⟩ := h
  have length : m.reserved = m.length := (plans p (List.mem_append_right _ member) i m found unsent).1
  have serves : ∀ x ∈ p'.sendFmv i seq c.chain :: r, x.Serves :=
    forall_mem_replace (a := []) (trimmed.serves fun x old => plans x (List.mem_append_right _ old))
      fun h => h.modMove fun _ _ sent => by simp [SetState.isUnsent] at sent
  refine ⟨fun f => ?_, fun x queued => ?_⟩
  · obtain ⟨within, most, balance⟩ := account f
    have less := trimmed.held f
    have sent : (p'.sendFmv i seq c.chain).held f + m.held f = p'.held f := by
      have parts := Plan.held_modMove there (fun m => { m with st := .sent seq, chain := c.chain }) f
      rwa [Move.held_of_sent (m := { m with st := .sent seq, chain := c.chain }) rfl, Nat.add_zero] at parts
    rw [Move.held_of_unsent unsent] at sent
    simp only [List.map_append, List.map_cons, List.sum_append, List.sum_cons] at balance less ⊢
    rw [Fin.getElem_fin, Vector.getElem_set]
    by_cases same : m.web = f
    · subst same
      rw [if_pos rfl] at less sent ⊢
      simp only [FoilAccount.consume, FoilAccount.available] at drawn ⊢
      omega
    · have apart : m.web.val ≠ f.val := fun e => same (Fin.ext e)
      rw [if_neg same] at less sent
      rw [if_neg apart]
      simp only [Fin.getElem_fin] at within most balance
      omega
  · rcases List.mem_append.mp queued with before | after
    · exact plans x (List.mem_append_left _ before)
    · exact serves x after

/-- The queue in front of a plan of a repeat, that plan, and those behind it. -/
structure QueueSplit (q : List Plan) (n : Rep) (a : List Plan) (p : Plan) (b : List Plan) : Prop where
  queue : q = a ++ p :: b
  before : ∀ y ∈ a, Plan.isRepeat n y = false
  number : p.repeatNo = n

namespace QueueSplit
variable {q a b : List Plan} {n : Rep} {p : Plan}

theorem meets (h : QueueSplit q n a p b) : Plan.isRepeat n p = true := by simp [Plan.isRepeat, h.number]

theorem of_findPlan {s : State} (found : s.findPlan n = some p) : ∃ a b, QueueSplit s.planner.queue n a p b := by
  obtain ⟨a, b, queue, before, -⟩ := exists_split_of_find? found
  exact ⟨a, b, queue, before, findPlan_repeatNo found⟩

theorem plansFrom (h : QueueSplit q n a p b) : plansFrom n q = p :: b := by
  rw [Machine.plansFrom, h.queue]
  exact (takeWhile_dropWhile_of_split h.before h.meets).2

theorem onPlansFrom (h : QueueSplit q n a p b) (g : List Plan → List Plan) : onPlansFrom n g q = a ++ g (p :: b) := by
  rw [Machine.onPlansFrom, h.plansFrom, h.queue, (takeWhile_dropWhile_of_split h.before h.meets).1]

theorem updateFirst (h : QueueSplit q n a p b) (g : Plan → Plan) :
    updateFirst (Plan.isRepeat n) g q = a ++ g p :: b := by
  have meets := h.meets
  obtain ⟨rfl, before, -⟩ := h
  induction a with
  | nil => simp [Machine.updateFirst, meets]
  | cons y ys ih =>
    rw [List.forall_mem_cons] at before
    simp [Machine.updateFirst, before.1, ih before.2]

end QueueSplit

/-- The queue after the trim of a successor, when one is trimmed. -/
theorem trimNext_queue {s : State} {n : Rep} {a b : List Plan} {p : Plan} (split : QueueSplit s.planner.queue n a p b)
    (i : Nat) (m : Move) (c : SendPlan) : ∃ p' r, QueueSplit (s.trimNext n i m c).planner.queue n a p' r
      ∧ p'.moves[i]? = p.moves[i]?
      ∧ p' :: r = if c.trim = 0 then p :: b else trimSuccessor m.web i c.trim (p :: b) := by
  unfold State.trimNext
  by_cases none : c.trim = 0
  · simp only [if_pos none]
    exact ⟨p, b, split, rfl, rfl⟩
  · simp only [if_neg none, State.setPlanner_planner, split.onPlansFrom]
    obtain ⟨p', r, trimmed, move, number⟩ := trimSuccessor_head m.web i c.trim p b
    rw [trimmed]
    exact ⟨p', r, ⟨rfl, split.before, number.trans split.number⟩, move, rfl⟩

@[simp] theorem sendFoil_planner (s : State) (n : Rep) (i : Nat) (m : Move) (c : SendPlan) :
    (s.sendFoil n i m c).planner = (s.trimNext n i m c).planner := by
  unfold State.sendFoil
  simp only
  split
  · rfl
  · exact lowTest_planner _ _

@[simp] theorem modFoil_other (s : State) {f g : Fin 4} (h : FoilAccount → FoilAccount) (other : f ≠ g) :
    (s.modFoil f h).foil[g] = s.foil[g] := by
  have apart : f.val ≠ g.val := fun e => other (Fin.ext e)
  simp only [State.modFoil, State.setFoil_foil, Fin.getElem_fin]
  exact Vector.getElem_set_ne f.isLt g.isLt apart

/-- The low test sets a flag: it touches neither the reserved nor the remaining foil (R96). -/
theorem lowTest_foil (s : State) (f g : Fin 4) : (s.lowTest f).foil[g].reserved = s.foil[g].reserved
    ∧ (s.lowTest f).foil[g].remaining = s.foil[g].remaining := by
  unfold State.lowTest
  split
  · by_cases same : f = g
    · subst same
      have changed := State.modFoil_foil_same s f fun a => { a with low := true }
      exact ⟨(congrArg FoilAccount.reserved changed).trans rfl, (congrArg FoilAccount.remaining changed).trans rfl⟩
    · have kept := modFoil_other s (fun a => { a with low := true }) same
      exact ⟨congrArg FoilAccount.reserved kept, congrArg FoilAccount.remaining kept⟩
  · exact ⟨rfl, rfl⟩

/-- The queue after a foil move was sent: the move is SENT, and its successor may be trimmed (R68, R100). -/
theorem sendFmv_queue {s : State} {n : Rep} {a b : List Plan} {p : Plan} (split : QueueSplit s.planner.queue n a p b)
    (own : Byte) (i : Nat) (m : Move) : ∃ p' r seq, QueueSplit (s.trimNext n i m (s.sendPlan n i m)).planner.queue n a p' r
      ∧ p'.moves[i]? = p.moves[i]?
      ∧ p' :: r = (if (s.sendPlan n i m).trim = 0 then p :: b
          else trimSuccessor m.web i (s.sendPlan n i m).trim (p :: b))
      ∧ (s.sendFmv own n i m).planner.queue = a ++ p'.sendFmv i seq (s.sendPlan n i m).chain :: r := by
  obtain ⟨p', r, split', move, trimmed⟩ := trimNext_queue split i m (s.sendPlan n i m)
  refine ⟨p', r, s.drives[foilDrive m.web].next, split', move, trimmed, ?_⟩
  have sent : (s.sendFmv own n i m).planner.queue = updateFirst (Plan.isRepeat n)
      (fun p => p.sendFmv i s.drives[foilDrive m.web].next (s.sendPlan n i m).chain)
      (s.sendFoil n i m (s.sendPlan n i m)).planner.queue := rfl
  rw [sent, sendFoil_planner, split'.updateFirst]

theorem trimNext_foil (s : State) (n : Rep) (i : Nat) (m : Move) (c : SendPlan) :
    (s.trimNext n i m c).foil = s.foil := by
  unfold State.trimNext
  split <;> rfl

/-- The account of a web after a move was sent, but for its low flag (R99, R100). -/
theorem sendFmv_foil (s : State) (own : Byte) (n : Rep) (i : Nat) (m : Move) (f : Fin 4) :
    (s.sendFmv own n i m).foil[f].reserved
        = (s.foil.set m.web (s.foil[m.web].consume m (s.sendPlan n i m)))[f].reserved
      ∧ (s.sendFmv own n i m).foil[f].remaining
        = (s.foil.set m.web (s.foil[m.web].consume m (s.sendPlan n i m)))[f].remaining := by
  have consumed : ((s.trimNext n i m (s.sendPlan n i m)).modFoil m.web fun a => a.consume m (s.sendPlan n i m)).foil
      = s.foil.set m.web (s.foil[m.web].consume m (s.sendPlan n i m)) := by
    simp only [State.modFoil, State.setFoil_foil, trimNext_foil]
  have sent : (s.sendFmv own n i m).foil = (s.sendFoil n i m (s.sendPlan n i m)).foil := rfl
  simp only [sent, ← consumed, State.sendFoil]
  split
  · exact ⟨rfl, rfl⟩
  · exact lowTest_foil _ _ _

/-- A foil move that stands unsent in the queue is sent: the account and the queue stay balanced (R99, R100). -/
theorem FoilBalanced.sendFmv {s : State} (h : FoilBalanced s.foil s.planner.queue) {n : Rep} {p : Plan}
    (found : s.findPlan n = some p) (own : Byte) {i : Nat} {m : Move} (there : p.moves[i]? = some m)
    (unsent : m.st.isUnsent = true) :
    FoilBalanced (s.sendFmv own n i m).foil (s.sendFmv own n i m).planner.queue := by
  obtain ⟨a, b, split⟩ := QueueSplit.of_findPlan found
  obtain ⟨p', r, seq, -, move, trimmed, queue⟩ := sendFmv_queue split own i m
  have cases := chainPlan_cases m (successorIn m.web i (plansFrom n s.planner.queue)) s.foil[m.web].available
  rw [split.plansFrom] at cases
  have chain : s.sendPlan n i m = chainPlan m (successorIn m.web i (p :: b)) s.foil[m.web].available := by
    rw [State.sendPlan, split.plansFrom]
  rw [← chain] at cases
  rw [queue]
  rw [split.queue] at h
  have lessHeld : Trimmed m.web (s.sendPlan n i m).trim (p :: b) (p' :: r) := by
    rw [trimmed]
    by_cases none : (s.sendPlan n i m).trim = 0
    · rw [if_pos none, none]
      exact ⟨fun g => by split <;> rfl, id⟩
    · rw [if_neg none]
      obtain ⟨zero, -⟩ | ⟨-, x, found, most⟩ := cases
      · exact absurd zero none
      · obtain ⟨follows, y, queued, member⟩ := successorIn_mem found
        obtain ⟨j, inside, rfl⟩ := List.getElem_of_mem member
        have unsent := (Bool.and_eq_true_iff.mp follows).2
        have length := (h.2 y (List.mem_append_right _ queued) j _ (List.getElem?_eq_getElem inside) unsent).1
        exact trimmed_trimSuccessor (by omega) found
  refine (h.consumed lessHeld List.mem_cons_self there (move.trans there) unsent ?_ seq).congr fun f => ?_
  · obtain ⟨zero, drawn⟩ | ⟨zero, -⟩ := cases
    · exact .inl ⟨drawn, zero⟩
    · exact .inr zero
  · exact sendFmv_foil s own n i m f

end Sys2Proof.Machine

/-! ## The foil that a new plan reserves -/

namespace Sys2Proof.Machine

/-! ### The lanes of runs (R91 to R93) -/

/-- Runs that hold the given lanes among them, each of the runs some. -/
def RunsHold (rs : List Run) (lanes : List (Fin 8)) : Prop :=
  (rs.flatMap (·.lanes)).Perm lanes ∧ ∀ r ∈ rs, r.lanes ≠ []

theorem insertLane_perm (l : Fin 8) : ∀ ls : List (Fin 8), (insertLane l ls).Perm (l :: ls)
  | [] => .refl _
  | x :: xs => by
    simp only [insertLane]
    split
    · exact .refl _
    · exact ((insertLane_perm l xs).cons x).trans (.swap l x xs)

theorem joinRuns_lanes (a b : Run) : (joinRuns a b).lanes.Perm (a.lanes ++ b.lanes) := by
  have fold : ∀ (bs as : List (Fin 8)), (bs.foldl (fun acc l => insertLane l acc) as).Perm (as ++ bs) := by
    intro bs
    induction bs with
    | nil => exact fun as => by simp
    | cons l bs ih => exact fun as => (ih _).trans (((insertLane_perm l as).append_right bs).trans List.perm_middle.symm)
  exact fold b.lanes a.lanes

theorem joinRuns_lanes_ne_nil {a b : Run} (some' : a.lanes ≠ []) : (joinRuns a b).lanes ≠ [] := by
  intro none
  have same := (joinRuns_lanes a b).length_eq
  rw [none, List.length_append, List.length_nil] at same
  exact some' (List.length_eq_zero_iff.mp (by omega))

/-- Two runs that stand next to each other joined. -/
theorem RunsHold.join {lanes : List (Fin 8)} {a b : Run} {rs : List Run} (h : RunsHold (a :: b :: rs) lanes) :
    RunsHold (joinRuns a b :: rs) lanes := by
  obtain ⟨perm, filled⟩ := h
  simp only [List.flatMap_cons, List.mem_cons] at perm filled
  refine ⟨?_, fun r member => ?_⟩
  · rw [List.flatMap_cons]
    exact ((joinRuns_lanes a b).append_right _).trans (by rwa [List.append_assoc])
  · rcases List.mem_cons.mp member with rfl | there
    · exact joinRuns_lanes_ne_nil (filled a (.inl rfl))
    · exact filled r (.inr (.inr there))

theorem RunsHold.behind {lanes lanes' : List (Fin 8)} {a : Run} {rs rs' : List Run} (h : RunsHold (a :: rs) lanes)
    (rest : RunsHold rs lanes' → RunsHold rs' lanes') (of : (rs.flatMap (·.lanes)).Perm lanes') : RunsHold (a :: rs') lanes := by
  obtain ⟨perm, filled⟩ := h
  obtain ⟨perm', filled'⟩ := rest ⟨of, fun r member => filled r (List.mem_cons_of_mem _ member)⟩
  refine ⟨?_, fun r member => ?_⟩
  · rw [List.flatMap_cons] at perm ⊢
    exact ((perm'.trans of.symm).append_left a.lanes).trans perm
  · rcases List.mem_cons.mp member with rfl | there
    · exact filled _ List.mem_cons_self
    · exact filled' r there

theorem RunsHold.mergeInto {gmin : Nat} :
    ∀ {rs : List Run} {cur : Run} {lanes : List (Fin 8)}, RunsHold (cur :: rs) lanes →
    RunsHold (mergeInto gmin cur rs) lanes
  | [], _, _, h => h
  | r :: rs, cur, lanes, h => by
    simp only [Machine.mergeInto]
    split
    · exact mergeInto h.join
    · exact h.behind mergeInto (.refl _)

theorem RunsHold.joinAtGap {g : Int} : ∀ {rs : List Run} {lanes : List (Fin 8)}, RunsHold rs lanes →
    RunsHold (joinAtGap g rs) lanes
  | [], _, h => h
  | [_], _, h => h
  | a :: b :: rs, lanes, h => by
    simp only [Machine.joinAtGap]
    split
    · exact h.join
    · exact h.behind joinAtGap (.refl _)

theorem RunsHold.fitRoom {room : Nat} : ∀ (n : Nat) {rs : List Run} {lanes : List (Fin 8)}, RunsHold rs lanes →
    RunsHold (fitRoom n room rs) lanes
  | 0, _, _, h => h
  | n + 1, rs, lanes, h => by
    simp only [Machine.fitRoom]
    split
    · exact h
    · split
      · exact h
      · exact fitRoom n h.joinAtGap

theorem insertRun_perm (nip : Pos) (r : Run) : ∀ rs : List Run, (insertRun nip r rs).Perm (r :: rs)
  | [] => .refl _
  | x :: xs => by
    simp only [insertRun]
    split
    · exact .refl _
    · exact ((insertRun_perm nip r xs).cons x).trans (.swap r x xs)

theorem orderRuns_perm (nip : Pos) (rs : List Run) : (orderRuns nip rs).Perm rs := by
  have fold : ∀ (rs acc : List Run), (rs.foldl (fun acc r => insertRun nip r acc) acc).Perm (acc ++ rs) := by
    intro rs
    induction rs with
    | nil => exact fun acc => by simp
    | cons r rs ih => exact fun acc => (ih _).trans (((insertRun_perm nip r acc).append_right rs).trans List.perm_middle.symm)
  exact fold rs []

/-- The runs of a group hold the lanes of its entries (R91 to R93). -/
theorem groupRuns_hold (fw : FoilWeb) (nip : Pos) (room : Nat) (group : List Entry) :
    RunsHold (groupRuns fw nip room group) (group.map (·.lane)) := by
  have intervals : RunsHold (group.map (foilInterval fw.fm)) (group.map (·.lane)) := by
    refine ⟨?_, fun r member => ?_⟩
    · induction group with
      | nil => exact .refl _
      | cons e es ih =>
        rw [List.map_cons, List.map_cons, List.flatMap_cons]
        exact ih.cons e.lane
    · obtain ⟨e, -, rfl⟩ := List.mem_map.mp member
      exact List.cons_ne_nil _ _
  have ordered : RunsHold (orderRuns nip (group.map (foilInterval fw.fm))) (group.map (·.lane)) := by
    have perm := orderRuns_perm nip (group.map (foilInterval fw.fm))
    exact ⟨(perm.flatMap_right _).trans intervals.1, fun r member => intervals.2 r (perm.subset member)⟩
  refine RunsHold.fitRoom _ ?_
  unfold mergeRuns
  split
  next none => rwa [none] at ordered
  next r rs some' =>
    rw [some'] at ordered
    exact ordered.mergeInto

/-- With no lane twice, each run is the one that its lanes are served by. -/
theorem RunsHold.exists_runIndex {rs : List Run} {lanes : List (Fin 8)} (h : RunsHold rs lanes) (distinct : lanes.Nodup)
    {i : Nat} (inside : i < rs.length) : ∃ l ∈ lanes, runIndex rs l = some i := by
  obtain ⟨perm, filled⟩ := h
  obtain ⟨l, ls, lanes'⟩ := List.exists_cons_of_ne_nil (filled rs[i] (List.getElem_mem inside))
  have own : l ∈ rs[i].lanes := lanes' ▸ List.mem_cons_self
  refine ⟨l, perm.subset (List.mem_flatMap.mpr ⟨_, List.getElem_mem inside, own⟩), ?_⟩
  rw [runIndex, List.findIdx?_eq_some_iff_getElem]
  refine ⟨inside, by simpa using own, fun j before => ?_⟩
  have apart := (List.nodup_flatMap.mp (perm.nodup_iff.mpr distinct)).2
  rw [List.pairwise_iff_getElem] at apart
  have disjoint := apart j i (by omega) inside before
  simp only [List.contains_eq_mem, decide_eq_true_eq]
  exact fun twice => disjoint twice own

/-! ### A group reserved or refused (R94, R95) -/

/-- A reservation counts the need to the reserved foil of its web (R94). -/
theorem reserveFoil_foil (s : State) (f g : Fin 4) (need : Nat) :
    (s.reserveFoil f need).foil[g].reserved = s.foil[g].reserved + (if f = g then need else 0)
      ∧ (s.reserveFoil f need).foil[g].remaining = s.foil[g].remaining := by
  unfold State.reserveFoil
  have low := lowTest_foil (s.modFoil f fun a => a.reserve need) f g
  by_cases same : f = g
  · subst same
    rw [State.modFoil_foil_same] at low
    rw [State.modFoil_foil_same, if_pos rfl]
    exact low
  · rw [modFoil_other _ _ same] at low
    rw [modFoil_other _ _ same, if_neg same]
    exact low

/-- What a draft has reserved, against the state it began with, while groups are to be built on the webs of a list: the
moves are unsent, their foil is counted, and each serves an entry on a web that is not in the list. -/
structure Draft.Reserves (s : State) (fs : List (Fin 4)) (d : Draft) : Prop where
  foil : ∀ f : Fin 4, d.s.foil[f].reserved = s.foil[f].reserved + (d.moves.map (Move.held f)).sum
    ∧ d.s.foil[f].remaining = s.foil[f].remaining
    ∧ (s.foil[f].reserved ≤ s.foil[f].remaining → d.s.foil[f].reserved ≤ d.s.foil[f].remaining)
  moves : ∀ m ∈ d.moves, m.st.isUnsent = true ∧ m.reserved = m.length
  served : ∀ i < d.moves.length, ∃ e ∈ d.entries, e.needs i = true ∧ ∃ g, e.web = some g ∧ g ∉ fs
  lanes : (d.entries.map (·.lane)).Nodup

theorem Entry.web_of_inGroup {f : Fin 4} {e : Entry} (h : e.inGroup f = true) : e.web = some f := by
  simp only [Entry.inGroup, Bool.and_eq_true, beq_iff_eq] at h
  exact h.2

theorem Entry.inGroup_other {f g : Fin 4} {e : Entry} (web : e.web = some g) (other : f ≠ g) : e.inGroup f = false := by
  simp [Entry.inGroup, web, Ne.symm other]

theorem sum_held_toMove (f g : Fin 4) (fw : FoilWeb) (rs : List Run) :
    ((rs.map (Run.toMove f fw)).map (Move.held g)).sum = if f = g then needOf rs else 0 := by
  have held (r : Run) : (r.toMove f fw).held g = if f = g then r.length else 0 := Move.held_of_unsent rfl g
  unfold needOf
  induction rs with
  | nil => simp
  | cons r rs ih =>
    simp only [List.map_cons, List.sum_cons, ih, held]
    split <;> rfl

theorem map_refuseGroup_lanes (f : Fin 4) (es : List Entry) :
    (es.map (refuseGroup f)).map (·.lane) = es.map (·.lane) := by
  rw [List.map_map]
  exact List.map_congr_left fun e _ => refuseGroup_lane f e

theorem map_assignMoves_lanes (f : Fin 4) (base : Nat) (rs : List Run) (es : List Entry) :
    (es.map (assignMoves f base rs)).map (·.lane) = es.map (·.lane) := by
  rw [List.map_map]
  exact List.map_congr_left fun e _ => assignMoves_lane f base rs e

/-- Entries outside a group are not changed with it, so that the moves they need stay served. -/
theorem Draft.Reserves.served_map {s : State} {f : Fin 4} {later : List (Fin 4)} {d : Draft}
    (h : d.Reserves s (f :: later)) {g : Entry → Entry} (same : ∀ e : Entry, e.inGroup f = false → g e = e) {i : Nat}
    (inside : i < d.moves.length) : ∃ e ∈ d.entries.map g, e.needs i = true ∧ ∃ w, e.web = some w ∧ w ∉ later := by
  obtain ⟨e, entry, needs, w, web, passed⟩ := h.served i inside
  rw [List.mem_cons, not_or] at passed
  have unchanged := same e (Entry.inGroup_other web (Ne.symm passed.1))
  exact ⟨e, List.mem_map.mpr ⟨e, entry, unchanged⟩, needs, w, web, passed.2⟩

/-- A group that is reserved: its runs' moves join, and each run serves one of the group's entries (R94, R95). -/
theorem Draft.Reserves.reserve {s : State} {f : Fin 4} {later : List (Fin 4)} {d : Draft}
    (h : d.Reserves s (f :: later))
    (fresh : f ∉ later) {rs : List Run} (hold : RunsHold rs ((d.entries.filter (Entry.inGroup f)).map (·.lane)))
    (fw : FoilWeb) (enough : needOf rs ≤ d.s.foil[f].available) :
    Draft.Reserves s later { s := d.s.reserveFoil f (needOf rs), entries := d.entries.map (assignMoves f d.moves.length rs),
                             moves := d.moves ++ rs.map (Run.toMove f fw) } where
  foil g := by
    obtain ⟨reserved, remaining, within⟩ := h.foil g
    obtain ⟨reserved', remaining'⟩ := reserveFoil_foil d.s f g (needOf rs)
    simp only [List.map_append, List.sum_append, sum_held_toMove]
    refine ⟨by omega, by omega, fun start => ?_⟩
    have := within start
    by_cases same : f = g
    · subst same
      rw [if_pos rfl] at reserved'
      simp only [FoilAccount.available] at enough
      omega
    · rw [if_neg same] at reserved'
      omega
  moves m member := by
    rcases List.mem_append.mp member with old | new
    · exact h.moves m old
    · obtain ⟨r, -, rfl⟩ := List.mem_map.mp new
      exact ⟨rfl, rfl⟩
  served i inside := by
    by_cases old : i < d.moves.length
    · exact h.served_map (fun e out => by simp [assignMoves, out]) old
    · simp only [List.length_append, List.length_map] at inside
      have distinct : ((d.entries.filter (Entry.inGroup f)).map (·.lane)).Nodup :=
        h.lanes.sublist (List.filter_sublist.map _)
      obtain ⟨l, lane, index⟩ := hold.exists_runIndex distinct (i := i - d.moves.length) (by omega)
      obtain ⟨e, member, rfl⟩ := List.mem_map.mp lane
      obtain ⟨entry, inGroup⟩ := List.mem_filter.mp member
      have place : d.moves.length + (i - d.moves.length) = i := by omega
      refine ⟨_, List.mem_map.mpr ⟨e, entry, rfl⟩, ?_, f, ?_, fresh⟩
      · have undecided : e.undecided = true := by
          simp only [Entry.inGroup, Bool.and_eq_true] at inGroup
          exact inGroup.1.1
        simpa [assignMoves, inGroup, index, place, Entry.needs, Entry.undecided] using undecided
      · simpa [assignMoves, inGroup] using Entry.web_of_inGroup inGroup
  lanes := by
    rw [map_assignMoves_lanes]
    exact h.lanes

theorem Draft.Reserves.group {s : State} {f : Fin 4} {later : List (Fin 4)} {d : Draft} (h : d.Reserves s (f :: later))
    (fresh : f ∉ later) (nip : Pos) : (d.group nip f later).Reserves s later := by
  unfold Draft.group
  simp only
  split
  · refine ⟨h.foil, h.moves, fun i inside => ?_, h.lanes⟩
    obtain ⟨e, entry, needs, w, web, passed⟩ := h.served i inside
    exact ⟨e, entry, needs, w, web, fun there => passed (List.mem_cons_of_mem _ there)⟩
  · split
    · refine ⟨h.foil, h.moves, fun i inside => h.served_map (fun e out => by simp [refuseGroup, out]) inside, ?_⟩
      rw [map_refuseGroup_lanes]
      exact h.lanes
    next enough => exact h.reserve fresh (groupRuns_hold ..) _ (not_lt.mp enough)

theorem Draft.Reserves.groups {s : State} (nip : Pos) : ∀ (fs : List (Fin 4)) {d : Draft}, fs.Nodup → d.Reserves s fs →
    (Draft.groups nip fs d).Reserves s []
  | [], _, _, h => h
  | _ :: later, _, distinct, h => by
    obtain ⟨fresh, rest⟩ := List.nodup_cons.mp distinct
    exact Draft.Reserves.groups nip later rest (h.group fresh nip)

theorem draft_reserves (s : State) (h : HandOver) : (s.draft h).Reserves s [] := by
  rw [draft_eq_groups]
  refine Draft.Reserves.groups _ webs4 (by decide) ⟨fun f => ⟨rfl, rfl, id⟩, fun _ member => (by cases member),
    fun _ inside => absurd inside (Nat.not_lt_zero _), ?_⟩
  exact (pairwise_laneEntries s h _).imp fun before => before.ne

/-! ### A new plan in the queue (R65, R89) -/

theorem newPlan_serves (s : State) (h : HandOver) (first : Bool) : (s.newPlan h first).Serves := by
  intro i m found unsent
  obtain ⟨inside, rfl⟩ := List.getElem?_eq_some_iff.mp found
  have reserves := draft_reserves s h
  obtain ⟨e, entry, needs, -⟩ := reserves.served i inside
  exact ⟨(reserves.moves _ (List.getElem_mem inside)).2, List.any_eq_true.mpr ⟨e, entry, needs⟩⟩

@[simp] theorem advanceLanes_foil (s : State) (es : List Entry) : (s.advanceLanes es).foil = s.foil := by
  refine foldl_keeps (P := fun v : State => v.foil = s.foil) (fun v e same => ?_) _ s rfl
  unfold State.advanceLane
  simp only
  split <;> exact same

@[simp] theorem logPlanned_foil (s : State) (p : Plan) : (s.logPlanned p).foil = s.foil := by
  refine foldl_keeps (P := fun v : State => v.foil = s.foil) (fun v e same => ?_) p.entries s rfl
  split
  · exact same
  · rw [writeLog_foil, same]

theorem planEntries_foil (s : State) (h : HandOver) (first : Bool) :
    (s.planEntries h first).foil = (s.draft h).s.foil := by
  have join (u : State) (p : Plan) : (u.joinOrClose p).foil = u.foil := by
    unfold State.joinOrClose
    split <;> rfl
  unfold State.planEntries
  simp only [join, logPlanned_foil, advanceLanes_foil]

theorem FoilBalanced.planEntries {s : State} (balanced : FoilBalanced s.foil s.planner.queue) (h : HandOver)
    (first : Bool) :
    FoilBalanced (s.planEntries h first).foil (s.planEntries h first).planner.queue := by
  obtain ⟨account, plans⟩ := balanced
  have serves := newPlan_serves s h first
  have held (f : Fin 4) : (s.draft h).s.foil[f].reserved = s.foil[f].reserved + (s.newPlan h first).held f :=
    ((draft_reserves s h).foil f).1
  rw [planEntries_foil, planEntries_queue]
  refine ⟨fun f => ?_, fun p member => ?_⟩
  · obtain ⟨within, most, balance⟩ := account f
    obtain ⟨-, remaining, stays⟩ := (draft_reserves s h).foil f
    have reserved := held f
    refine ⟨stays within, by omega, ?_⟩
    rw [List.map_append, List.sum_append, ← balance, reserved]
    split
    next done => simp [serves.held_of_done done f]
    · simp
  · rcases List.mem_append.mp member with old | new
    · exact plans p old
    · split at new
      · cases new
      · rwa [List.mem_singleton.mp new]

end Sys2Proof.Machine

/-! ## The foil account and the drives' records along a step -/

namespace Sys2Proof.Machine

/-! ### Foil moves that the drives' records name (R68, R132) -/

/-- A plan has an unsent move at an index. -/
def Plan.UnsentAt (p : Plan) (i : Nat) : Prop := ∃ m, p.moves[i]? = some m ∧ m.st.isUnsent = true

/-- No record of a drive names an unsent move of a plan of the queue. -/
def RecordsPast (q : List Plan) (drives : Vector Drive 12) : Prop :=
  ∀ p ∈ q, ∀ i, p.UnsentAt i → ∀ d : Fin 12, ∀ r ∈ drives[d].out, r.item ≠ .fmv p.repeatNo i

theorem recordsSent_iff (s : State) : s.RecordsSent ↔ RecordsPast s.planner.queue s.drives := by
  constructor
  · rintro sent p queued i ⟨m, found, unsent⟩
    obtain ⟨inside, rfl⟩ := List.getElem?_eq_some_iff.mp found
    exact sent p queued i inside unsent
  · exact fun past p queued i inside unsent => past p queued i ⟨_, List.getElem?_eq_getElem inside, unsent⟩

/-- Every unsent move of the second queue is one of the first. -/
def FewerUnsent (q q' : List Plan) : Prop :=
  ∀ p' ∈ q', ∀ i, p'.UnsentAt i → ∃ p ∈ q, p.repeatNo = p'.repeatNo ∧ p.UnsentAt i

theorem FewerUnsent.refl (q : List Plan) : FewerUnsent q q := fun p queued _ unsent => ⟨p, queued, rfl, unsent⟩

theorem FewerUnsent.of_sublist {q q' : List Plan} (sub : q'.Sublist q) : FewerUnsent q q' :=
  fun p queued _ unsent => ⟨p, sub.subset queued, rfl, unsent⟩

theorem Plan.unsentAt_of_after {p p' : Plan} (after : List.Forall₂ Move.After p.moves p'.moves) {i : Nat}
    (unsent : p'.UnsentAt i) : p.UnsentAt i := by
  obtain ⟨m', found, unsent⟩ := unsent
  obtain ⟨inside, rfl⟩ := List.getElem?_eq_some_iff.mp found
  have here : i < p.moves.length := by rwa [after.length_eq]
  exact ⟨p.moves[i], List.getElem?_eq_getElem here, after.get here inside unsent⟩

theorem FewerUnsent.of_sameShapes : ∀ {q q' : List Plan}, SameShapes q q' → FewerUnsent q q'
  | _, _, .nil => FewerUnsent.refl []
  | _, _, .cons (a := p) same rest => by
    intro p' member i unsent
    rcases List.mem_cons.mp member with rfl | there
    · exact ⟨p, List.mem_cons_self, same.1.symm, Plan.unsentAt_of_after same.2.1 unsent⟩
    · obtain ⟨y, queued, number, was⟩ := FewerUnsent.of_sameShapes rest p' there i unsent
      exact ⟨y, List.mem_cons_of_mem _ queued, number, was⟩

theorem Plan.decideOpen_after (p : Plan) (l : Fin 8) (e : Entry) (d : Decision) :
    List.Forall₂ Move.After p.moves (p.decideOpen l e d).moves := by
  unfold Plan.decideOpen Plan.withdrawSpent
  split
  · exact movesAfter_refl _
  · exact forall₂_modify (fun _ => id) (fun _ => Move.after_of_sent rfl) _ _

theorem fewerUnsent_queueDecided (n : Rep) (l : Fin 8) (d : Decision) (q : List Plan) :
    FewerUnsent q (queueDecided n l d q) := by
  intro p' member i unsent
  rcases mem_queueDecided member with old | ⟨p, e, found, -, rfl, -⟩
  · exact ⟨p', old, rfl, unsent⟩
  · exact ⟨p, List.mem_of_find?_eq_some found, (p.decideOpen_repeatNo l e d).symm,
      Plan.unsentAt_of_after (p.decideOpen_after l e d) unsent⟩

/-- No record names a foil move of one of the next repeat numbers to be given out. -/
def NumbersUnnamed (n : Nat) (r : Rep) (drives : Vector Drive 12) : Prop :=
  ∀ d : Fin 12, ∀ o ∈ drives[d].out, ∀ k i : Nat, 1 ≤ k → k ≤ n → o.item ≠ .fmv (r + BitVec.ofNat 32 k) i

/-- Every record of the second drives is for an item that one of the first names. -/
def FewerRecords (drives drives' : Vector Drive 12) : Prop :=
  ∀ d : Fin 12, ∀ o ∈ drives'[d].out, ∃ o' ∈ drives[d].out, o'.item = o.item

theorem fewerRecords_modDrive (s : State) (d : Fin 12) {f : Drive → Drive}
    (fewer : ∀ o ∈ (f s.drives[d]).out, ∃ o' ∈ s.drives[d].out, o'.item = o.item) :
    FewerRecords s.drives (s.modDrive d f).drives :=
  forall_getElem_set_at (Q := fun e (x : Drive) => ∀ o ∈ x.out, ∃ o' ∈ s.drives[e].out, o'.item = o.item)
    (fun _ o member => ⟨o, member, rfl⟩) d fewer

/-! ### The property of the step -/

/-- What a step keeps of the foil account, where that is wanted, and of the drives' records, where that is wanted: at the
start of the step the repeat numbers are distinct and the records past the unsent moves; and while the step may give out
numbers, the records name none of them. -/
def FoilTracked (account records : Prop) (n : Nat) (r : Rep) (q : List Plan) (foil : Vector FoilAccount 4)
    (drives : Vector Drive 12) : Prop :=
  (256 ≤ n → (q.map (·.repeatNo)).Nodup ∧ RecordsPast q drives) ∧ (account → FoilBalanced foil q)
    ∧ (records → RecordsPast q drives ∧ NumbersUnnamed n r drives)

/-- The property of the step as one of the state. -/
def State.FoilTracked (account records : Prop) (n : Nat) (s : State) : Prop :=
  Machine.FoilTracked account records n s.tracker.repeatNo s.planner.queue s.foil s.drives

theorem RecordsPast.queue {q q' : List Plan} {drives : Vector Drive 12} (h : RecordsPast q drives)
    (fewer : FewerUnsent q q') : RecordsPast q' drives := by
  intro p' queued i unsent
  obtain ⟨p, before, number, was⟩ := fewer p' queued i unsent
  exact number ▸ h p before i was

theorem RecordsPast.drives {q : List Plan} {drives drives' : Vector Drive 12} (h : RecordsPast q drives)
    (fewer : FewerRecords drives drives') : RecordsPast q drives' := by
  intro p queued i unsent d o member
  obtain ⟨o', before, same⟩ := fewer d o member
  exact same ▸ h p queued i unsent d o' before

theorem NumbersUnnamed.drives {n : Nat} {r : Rep} {drives drives' : Vector Drive 12} (h : NumbersUnnamed n r drives)
    (fewer : FewerRecords drives drives') : NumbersUnnamed n r drives' := by
  intro d o member
  obtain ⟨o', before, same⟩ := fewer d o member
  exact same ▸ h d o' before

theorem NumbersUnnamed.mono {n m : Nat} {r : Rep} {drives : Vector Drive 12} (h : NumbersUnnamed n r drives)
    (le : m ≤ n) :
    NumbersUnnamed m r drives := fun d o member k i least most => h d o member k i least (most.trans le)

section
variable {account records : Prop} {n : Nat} {s t : State}

/-- The queue may lose plans and unsent moves, when the account stays balanced with it. -/
theorem State.FoilTracked.queue (h : s.FoilTracked account records n) {q : List Plan} {foil : Vector FoilAccount 4}
    (numbers : (q.map (·.repeatNo)).Sublist (s.planner.queue.map (·.repeatNo))) (fewer : FewerUnsent s.planner.queue q)
    (balanced : FoilBalanced s.foil s.planner.queue → FoilBalanced foil q) :
    Machine.FoilTracked account records n s.tracker.repeatNo q foil s.drives := by
  obtain ⟨start, foil, sent⟩ := h
  refine ⟨fun full => ?_, fun wanted => balanced (foil wanted), fun wanted => ?_⟩
  · obtain ⟨distinct, past⟩ := start full
    exact ⟨distinct.sublist numbers, past.queue fewer⟩
  · obtain ⟨past, unnamed⟩ := sent wanted
    exact ⟨past.queue fewer, unnamed⟩

/-- The drives may lose records. -/
theorem State.FoilTracked.drives (h : s.FoilTracked account records n) {drives : Vector Drive 12}
    (fewer : FewerRecords s.drives drives) :
    Machine.FoilTracked account records n s.tracker.repeatNo s.planner.queue s.foil drives := by
  obtain ⟨start, foil, sent⟩ := h
  refine ⟨fun full => ?_, foil, fun wanted => ?_⟩
  · obtain ⟨distinct, past⟩ := start full
    exact ⟨distinct, past.drives fewer⟩
  · obtain ⟨past, unnamed⟩ := sent wanted
    exact ⟨past.drives fewer, unnamed.drives fewer⟩

theorem State.FoilTracked.modDrive (h : s.FoilTracked account records n) (d : Fin 12) {f : Drive → Drive}
    (fewer : ∀ o ∈ (f s.drives[d]).out, ∃ o' ∈ s.drives[d].out, o'.item = o.item) :
    (s.modDrive d f).FoilTracked account records n := h.drives (fewerRecords_modDrive s d fewer)

/-- A frame of the planner with the queue and the account that it leaves. -/
theorem State.FoilTracked.of_frame (frame : PlanFrame s t)
    (h : Machine.FoilTracked account records n s.tracker.repeatNo t.planner.queue t.foil s.drives) :
    t.FoilTracked account records n := by
  unfold State.FoilTracked
  rwa [frame.repeatNo, frame.drives]

theorem State.FoilTracked.modPlan (h : s.FoilTracked account records n) (m : Rep) {f : Plan → Plan}
    (same : ∀ p : Plan, p.SameShape (f p))
    (held : (∀ p ∈ s.planner.queue, p.repeatNo = m → (∀ g, (f p).held g = p.held g) ∧ (p.Serves → (f p).Serves))) :
    (s.modPlan m f).FoilTracked account records n := by
  have shapes : SameShapes s.planner.queue (updateFirst (Plan.isRepeat m) f s.planner.queue) :=
    sameShapes_updateFirst _ same _
  exact h.queue (sameShapes_numbers shapes ▸ List.Sublist.refl _) (.of_sameShapes shapes) fun balanced =>
    balanced.modPlan m held

end

/-! ### The planner's acts -/

/-- Entries whose setpoints change need their moves as before. -/
theorem held_serves_modEntries (p : Plan) (test : Entry → Bool) {g : Entry → Entry}
    (same : ∀ e : Entry, (g e).move = e.move ∧ (g e).undecided = e.undecided) :
    (∀ f, Plan.held f { p with entries := updateFirst test g p.entries } = p.held f)
      ∧ (p.Serves → Plan.Serves { p with entries := updateFirst test g p.entries }) :=
  ⟨fun _ => rfl, fun serves => serves.entries fun i =>
    any_updateFirst (fun e => by rw [Entry.needs, (same e).1, (same e).2, Entry.needs]) test _⟩

/-- A move made DUE holds its foil still. -/
theorem held_serves_release (p : Plan) (i : Nat) :
    (∀ f, (p.modMove i fun m => { m with st := m.st.release }).held f = p.held f)
      ∧ (p.Serves → (p.modMove i fun m => { m with st := m.st.release }).Serves) := by
  have unsent (m : Move) : m.st.release.isUnsent = m.st.isUnsent := by
    unfold SetState.release
    split
    next same => rw [same]; rfl
    · rfl
  refine ⟨fun f => Plan.held_modMove_eq (fun m _ f => ?_) f, fun serves => serves.modMove fun m _ due => ⟨?_, id⟩⟩
  · simp [Move.held, Move.canFollow, unsent]
  · exact (unsent m).symm.trans due

theorem FoilBalanced.withdraw {s : State} (h : FoilBalanced s.foil s.planner.queue) {n : Rep} {p : Plan} {i : Nat}
    {m : Move}
    (found : s.findPlan n = some p) (there : p.moves[i]? = some m) (unsent : m.st.isUnsent = true) :
    FoilBalanced (s.foil.set m.web (s.foil[m.web].release m.reserved))
      (updateFirst (Plan.isRepeat p.repeatNo) (fun p => p.withdrawMove i) s.planner.queue) := by
  obtain ⟨a, b, split⟩ := QueueSplit.of_findPlan found
  rw [split.number, split.updateFirst]
  rw [split.queue] at h
  refine h.release unsent (fun f => ?_) fun serves => serves.modMove fun _ _ sent => by simp [SetState.isUnsent] at sent
  have less := Plan.held_modMove there (fun m => { m with st := .withdrawn }) f
  rwa [Move.held_of_sent (m := { m with st := .withdrawn }) rfl] at less

theorem keptByTests_foil (account records : Prop) (n : Nat) : KeptByTests (State.FoilTracked account records n) where
  decide s m l d reports h := by
    refine .of_frame (decideEntry_frame s m l d reports) ?_
    rw [decideEntry_queue]
    refine h.queue (queueDecided_numbers ..) (fewerUnsent_queueDecided _ _ _ _) fun balanced => ?_
    rw [← decideEntry_queue]
    exact balanced.decideEntry m l d reports
  closeDone s p rest reports queue done h := by
    refine .of_frame (closePlan_frame s p reports) ?_
    have sub := removeFirst_sublist (Plan.isRepeat p.repeatNo) s.planner.queue
    rw [closePlan_queue]
    refine h.queue (sub.map _) (.of_sublist sub) fun balanced => ?_
    rw [← closePlan_queue]
    exact balanced.closeHead queue done reports
  withdraw s m p i x found there unsent _ h := by
    have shapes : SameShapes s.planner.queue (updateFirst (Plan.isRepeat p.repeatNo) (fun p => p.withdrawMove i) s.planner.queue) :=
      sameShapes_updateFirst _ (fun p => p.sameShape_modMove _ fun _ => Move.after_of_sent rfl) _
    exact h.queue (sameShapes_numbers shapes ▸ List.Sublist.refl _) (.of_sameShapes shapes) fun balanced =>
      balanced.withdraw found there unsent
  moveDue s m i h := h.modPlan m (fun p => p.sameShape_modMove _ Move.after_release) fun p _ _ => held_serves_release p i
  entryDue s m l h := h.modPlan m (fun p => p.sameShape_modEntries _ fun _ => ⟨rfl, rfl⟩) fun p _ _ =>
    held_serves_modEntries p _ fun _ => ⟨rfl, rfl⟩

theorem FoilBalanced.plannerTakes {s : State} (h : FoilBalanced s.foil s.planner.queue) (m : HandOver) :
    FoilBalanced (s.plannerTakes m).foil (s.plannerTakes m).planner.queue := by
  have checked (n : Rep) : (s.changeoverCheck n).foil = s.foil ∧ (s.changeoverCheck n).planner = s.planner := by
    unfold State.changeoverCheck
    split <;> exact ⟨rfl, rfl⟩
  have overflow : (s.overflow m).foil = s.foil := by
    refine foldl_keeps (P := fun v : State => v.foil = s.foil) (fun v l same => ?_) s.lanesInUse s rfl
    unfold State.overflowLane
    simp only [State.setPlanner_foil, writeLog_foil, same]
  unfold State.plannerTakes
  split
  · exact h
  · exact h
  · unfold State.planRepeat
    split
    · rwa [overflow, overflow_queue]
    · refine FoilBalanced.planEntries ?_ m _
      rwa [(checked _).1, (checked _).2]
  · rwa [(checked _).1, (checked _).2]

@[simp] theorem takePitch_foil (s : State) : s.takePitch.foil = s.foil := by
  unfold State.takePitch
  split <;> rfl

/-- A mark gives out a number that no record names, and its plan's moves are unsent. -/
theorem State.FoilTracked.takeMark {account records : Prop} {n : Nat} {s : State} (room : n < 256) (t : Tracker)
    (mt : Pos)
    (r : Int) (synth : Bool) (h : s.FoilTracked account records (n + 1)) :
    (s.takeMark t mt r synth).FoilTracked account records n := by
  obtain ⟨-, foil, sent⟩ := h
  have number : (s.takeMark t mt r synth).tracker.repeatNo = s.tracker.repeatNo + 1 := by rw [takeMark_tracker]
  have drives : (s.takeMark t mt r synth).drives = s.drives :=
    (handOver_frame (s.setTracker { t with mtPrev := mt, repeatNo := s.tracker.repeatNo + 1 }) _).drives
  unfold State.FoilTracked
  rw [number, drives]
  refine ⟨fun full => by omega, fun wanted => ?_, fun wanted => ?_⟩
  · rw [State.takeMark, State.handOver, takePitch_planner, takePitch_foil]
    exact FoilBalanced.plannerTakes (s := s.setTracker { t with mtPrev := mt, repeatNo := s.tracker.repeatNo + 1 })
      (foil wanted) _
  · obtain ⟨past, unnamed⟩ := sent wanted
    refine ⟨?_, fun d o member k i least most => ?_⟩
    · rw [State.takeMark, State.handOver, takePitch_planner]
      rcases plannerTakes_queue (s.setTracker { t with mtPrev := mt, repeatNo := s.tracker.repeatNo + 1 })
        { repeatNo := s.tracker.repeatNo + 1, mt, residual := r, mode := t.mode, synth } with same | ⟨p, -, new, more⟩
      · rw [same]
        exact past
      · rw [more]
        intro p' member i unsent d o recorded
        rcases List.mem_append.mp member with old | joined
        · exact past p' old i unsent d o recorded
        · rw [List.mem_singleton.mp joined, new]
          exact unnamed d o recorded 1 i (le_refl 1) (by omega)
    · exact repeatNo_add_succ s.tracker.repeatNo k ▸ unnamed d o member (k + 1) i (by omega) (by omega)

/-! ### Acknowledgements and setpoints -/

/-- What a record names is no unsent move, so that the acknowledgement gives back nothing (R69). -/
theorem State.FoilTracked.acknowledge {account records : Prop} {s : State} (h : s.FoilTracked account records 256)
    {d : Fin 12}
    {o : Outstanding} (member : o ∈ s.drives[d].out) : (s.acknowledge o.item).FoilTracked account records 256 := by
  obtain ⟨-, past⟩ := h.1 (le_refl 256)
  cases item : o.item with
  | phs n l =>
    exact h.modPlan n (fun p => p.sameShape_modEntries _ fun _ => ⟨rfl, rfl⟩) fun p _ _ =>
      held_serves_modEntries p _ fun _ => ⟨rfl, rfl⟩
  | fmv n i =>
    refine h.modPlan n (fun p => p.sameShape_modMove _ fun _ => Move.after_of_sent rfl) fun p queued number =>
      ⟨fun f => Plan.held_modMove_eq (fun m there f => ?_) f, fun serves => serves.modMove fun m _ acked => by
        simp [SetState.isUnsent] at acked⟩
    have sent : m.st.isUnsent = false := by
      rw [← Bool.not_eq_true]
      exact fun unsent => past p queued i ⟨m, there, unsent⟩ d o member (number ▸ item)
    rw [Move.held_of_sent sent, Move.held_of_sent rfl]

/-- A foil move that waits to be sent stands DUE in the plan of its repeat. -/
theorem waiting_fmv {s : State} {n : Rep} {i : Nat} {m : Move} (waits : Due.fmv n i m ∈ s.waitingSetpoints) :
    ∃ p ∈ s.planner.queue, p.repeatNo = n ∧ p.moves[i]? = some m ∧ m.st = .due := by
  obtain ⟨member, -⟩ := List.mem_filter.mp waits
  obtain ⟨p, queued, member⟩ := List.mem_flatMap.mp member
  refine ⟨p, queued, ?_⟩
  rcases List.mem_append.mp member with move | phs
  · obtain ⟨⟨k, x⟩, zipped, made⟩ := List.mem_filterMap.mp move
    split at made
    next due =>
      cases made
      obtain ⟨j, inside, same⟩ := List.getElem_of_mem zipped
      rw [List.getElem_zip, List.getElem_range, Prod.mk.injEq] at same
      obtain ⟨rfl, rfl⟩ := same
      exact ⟨rfl, List.getElem?_eq_getElem _, due⟩
    · cases made
  · obtain ⟨e, -, made⟩ := List.mem_filterMap.mp phs
    split at made <;> cases made

/-- Among distinct repeat numbers a plan of the queue is the one found by its number. -/
theorem findPlan_of_mem {s : State} (distinct : (s.planner.queue.map (·.repeatNo)).Nodup) {p : Plan}
    (queued : p ∈ s.planner.queue) : s.findPlan p.repeatNo = some p := by
  cases found : s.findPlan p.repeatNo with
  | none =>
    have absent := List.find?_eq_none.mp found p queued
    simp [Plan.isRepeat] at absent
  | some p' =>
    have same := List.inj_on_of_nodup_map distinct (List.mem_of_find?_eq_some found) queued (findPlan_repeatNo found)
    rw [same]

theorem RecordsPast.send {q : List Plan} {s : State} (h : RecordsPast q s.drives) (d : Fin 12) {item : PlanItem}
    (past : ∀ p ∈ q, ∀ i, p.UnsentAt i → item ≠ .fmv p.repeatNo i) :
    RecordsPast q (s.modDrive d fun x => x.send item).drives := by
  intro p queued i unsent
  refine forall_modDrive (Q := fun x => ∀ r ∈ x.out, r.item ≠ .fmv p.repeatNo i) (h p queued i unsent) d fun r member => ?_
  rcases List.mem_append.mp member with old | new
  · exact h p queued i unsent d r old
  · rw [List.mem_singleton.mp new]
    exact past p queued i unsent

theorem FewerUnsent.trans {q r u : List Plan} (h : FewerUnsent q r) (g : FewerUnsent r u) : FewerUnsent q u := by
  intro p'' queued i unsent
  obtain ⟨p', queued', number', was'⟩ := g p'' queued i unsent
  obtain ⟨p, queued, number, was⟩ := h p' queued' i was'
  exact ⟨p, queued, number.trans number', was⟩

theorem sameShapes_trimNext (s : State) (n : Rep) (i : Nat) (m : Move) (c : SendPlan) :
    SameShapes s.planner.queue (s.trimNext n i m c).planner.queue := by
  unfold State.trimNext
  split
  · exact .refl _
  · exact sameShapes_onPlansFrom ..

/-- After a foil move was sent, its record names no unsent move: the plan of its number is one, and there it is SENT. -/
theorem RecordsPast.sendFmv {s : State} (h : RecordsPast s.planner.queue s.drives)
    (distinct : (s.planner.queue.map (·.repeatNo)).Nodup) {n : Rep} {p : Plan} (found : s.findPlan n = some p) (own : Byte)
    (i : Nat) (m : Move) : RecordsPast (s.sendFmv own n i m).planner.queue (s.sendFmv own n i m).drives := by
  obtain ⟨a, b, split⟩ := QueueSplit.of_findPlan found
  obtain ⟨p', r, seq, split', -, -, queue⟩ := sendFmv_queue split own i m
  have trimmed := sameShapes_trimNext s n i m (s.sendPlan n i m)
  have sent := sameShapes_updateFirst (Plan.isRepeat n) (f := fun p => p.sendFmv i seq (s.sendPlan n i m).chain)
    (fun p => p.sameShape_modMove _ fun _ => Move.after_of_sent rfl) (s.trimNext n i m (s.sendPlan n i m)).planner.queue
  rw [split'.updateFirst, ← queue] at sent
  have drives : (s.sendFmv own n i m).drives = (s.modDrive (foilDrive m.web) fun x => x.send (.fmv n i)).drives := by
    have same := (sendFoil_frame s n i m (s.sendPlan n i m)).drives
    have form : (s.sendFmv own n i m).drives =
        (((s.sendFoil n i m (s.sendPlan n i m)).modPlan n fun p =>
          p.sendFmv i s.drives[foilDrive m.web].next (s.sendPlan n i m).chain).modDrive (foilDrive m.web)
            fun x => x.send (.fmv n i)).drives := rfl
    simp only [form, State.modDrive, State.setDrives_drives, (modPlan_frame ..).drives, same]
  rw [drives]
  refine (h.queue ((FewerUnsent.of_sameShapes trimmed).trans (.of_sameShapes sent))).send _ fun y queued j unsent named => ?_
  rw [← sameShapes_numbers trimmed, ← sameShapes_numbers sent] at distinct
  rw [queue] at distinct queued
  injection named with number index
  have same := List.inj_on_of_nodup_map distinct queued (List.mem_append_right a List.mem_cons_self)
    (number.symm.trans split'.number.symm)
  rw [same, ← index] at unsent
  obtain ⟨x, there, unsent⟩ := unsent
  simp only [Plan.sendFmv, Plan.modMove, List.getElem?_modify] at there
  obtain ⟨_, -, rfl⟩ := Option.map_eq_some_iff.mp there
  simp [SetState.isUnsent] at unsent

theorem State.FoilTracked.sendDue {account records : Prop} {s : State} (h : s.FoilTracked account records 256)
    (own : Byte)
    {x : Due} (waits : x ∈ s.waitingSetpoints) : (s.sendDue own x).FoilTracked account records 0 := by
  have none (r : Rep) (drives : Vector Drive 12) : NumbersUnnamed 0 r drives := fun _ _ _ k _ least most => by omega
  cases x with
  | phs n e =>
    have sent : ((s.setPort { s.port with order := s.orderAfter e }).modPlan n fun p =>
        p.sendPhs e s.drives[cassetteDrive e.lane].next).FoilTracked account records 256 :=
      State.FoilTracked.modPlan (s := s.setPort { s.port with order := s.orderAfter e }) h n
        (fun p => p.sameShape_modEntries _ fun _ => ⟨rfl, rfl⟩) fun p _ _ =>
        held_serves_modEntries p _ fun _ => ⟨rfl, rfl⟩
    obtain ⟨-, foil, past⟩ := sent
    exact ⟨fun full => by omega, foil, fun wanted =>
      ⟨(past wanted).1.send (cassetteDrive e.lane) fun _ _ _ _ named => (by cases named), none _ _⟩⟩
  | fmv n i m =>
    obtain ⟨start, foil, past⟩ := h
    obtain ⟨distinct, -⟩ := start (le_refl 256)
    obtain ⟨p, queued, rfl, there, due⟩ := waiting_fmv waits
    have found := findPlan_of_mem distinct queued
    exact ⟨fun full => by omega, fun wanted => (foil wanted).sendFmv found own there (by rw [due]; rfl), fun wanted =>
      ⟨(past wanted).1.sendFmv distinct found own i m, none _ _⟩⟩

/-! ### The step -/

theorem loadTest_foil (s : State) (f g : Fin 4) : (s.loadTest f).foil[g].reserved = s.foil[g].reserved
    ∧ (s.loadTest f).foil[g].remaining = s.foil[g].remaining := by
  unfold State.loadTest
  split
  · by_cases same : f = g
    · subst same
      have changed := State.modFoil_foil_same s f fun a => { a with low := false }
      exact ⟨(congrArg FoilAccount.reserved changed).trans rfl, (congrArg FoilAccount.remaining changed).trans rfl⟩
    · have kept := modFoil_other s (fun a => { a with low := false }) same
      exact ⟨congrArg FoilAccount.reserved kept, congrArg FoilAccount.remaining kept⟩
  · exact lowTest_foil s f g

/-- A roll that is loaded holds at least what is reserved on it (R104). -/
theorem FoilBalanced.load {foil : Vector FoilAccount 4} {q : List Plan} (h : FoilBalanced foil q) (f : Fin 4) {v : Nat}
    (most : v ≤ 2147483648) : FoilBalanced (foil.set f { foil[f] with remaining := max v foil[f].reserved }) q := by
  refine ⟨forall_getElem_set_at (Q := fun f (a : FoilAccount) => a.reserved ≤ a.remaining ∧ a.remaining ≤ 2147483648
    ∧ a.reserved = (q.map (Plan.held f)).sum) h.1 f ?_, h.2⟩
  obtain ⟨within, old, balance⟩ := h.1 f
  exact ⟨Nat.le_max_right _ _, Nat.max_le.mpr ⟨most, within.trans old⟩, balance⟩

theorem foilBalanced_powerOn : FoilBalanced (Vector.replicate 4 FoilAccount.powerOn) [] := by
  refine ⟨forall_replicate (Q := fun a : FoilAccount => a.reserved ≤ a.remaining ∧ a.remaining ≤ 2147483648 ∧ a.reserved = 0)
    ⟨Nat.le_refl _, Nat.zero_le _, rfl⟩, fun _ member => by cases member⟩

theorem kept_foil (account records : Prop) : Kept (State.FoilTracked account records) where
  fewer n s h := by
    obtain ⟨start, foil, sent⟩ := h
    exact ⟨fun full => start (by omega), foil, fun wanted => ⟨(sent wanted).1, (sent wanted).2.mono (Nat.le_succ n)⟩⟩
  unitSteps n :=
    { cassette := fun _ _ h => cassetteCycle_keeps h fun _ _ h => h
      counted := fun s d h => h.modDrive d fun o member => by
        obtain ⟨o', before, rfl⟩ := List.mem_map.mp member
        exact ⟨o', before, rfl⟩
      silenced := fun s d h => h.modDrive d fun o member => by cases member }
  tests := keptByTests_foil account records
  trackerReset n s h := by
    obtain ⟨-, foil, sent⟩ := h
    exact ⟨fun full => by omega, foil, fun wanted => ⟨(sent wanted).1, fun _ _ _ k _ least most => by omega⟩⟩
  stop n s _ h := by
    refine .of_frame ((setPlanner_frame s _).trans (drainCheck_frame _)) ?_
    rw [drainCheck_queue, drainCheck_foil]
    exact h
  roll n s f v most h := by
    refine .of_frame ((modFoil_frame s f _).trans (loadTest_frame _ f)) ?_
    rw [loadTest_planner]
    exact h.queue (List.Sublist.refl _) (.refl _) fun balanced =>
      (balanced.load f most).congr fun g => loadTest_foil (s.modFoil f _) f g
  reset n s _ _ := by
    have nil : RecordsPast [] (Vector.replicate 12 Drive.powerOn) := fun _ member => by cases member
    refine ⟨fun _ => ⟨List.nodup_nil, nil⟩, fun _ => foilBalanced_powerOn, fun _ => ⟨nil, ?_⟩⟩
    exact forall_replicate (Q := fun x : Drive => ∀ o ∈ x.out, ∀ k i : Nat, 1 ≤ k → k ≤ n →
      o.item ≠ .fmv (0 + BitVec.ofNat 32 k) i) fun _ member => by cases member
  tmp _ _ _ _ _ h := readTmp_keeps (fun _ _ h => h) (fun _ _ h => h) h
  dstRead s d h := h.modDrive d fun o member => ⟨o, member, rfl⟩
  dropped s d v h := h.modDrive d fun o member => ⟨o, List.mem_of_mem_drop member, rfl⟩
  faulted s d h := h.modDrive d fun o member => ⟨o, member, rfl⟩
  answering s d h := h.modDrive d fun o member => ⟨o, member, rfl⟩
  flags s d _ _ _ h := h.modDrive d fun o member => ⟨o, member, rfl⟩
  mark n s t mt r synth room _ h := h.takeMark room t mt r synth
  acknowledged s d o member h := h.acknowledge member
  due s own x waits h := h.sendDue own waits

/-- Settles O59: the account is counted up by a new plan's moves, and down as each of them is sent, trimmed or withdrawn;
an acknowledgement finds no unsent move, and only a sending adds a foil move to the records. -/
theorem foilKept : Obligations.FoilKept := by
  refine ⟨fun s t foil _ distinct sent run => ?_, fun s t sent distinct unnamed run => ?_⟩
  · have past := (recordsSent_iff s).mp sent
    obtain ⟨-, kept, -⟩ := (kept_foil True False).step run
      ⟨fun _ => ⟨distinct, past⟩, fun _ => (foilConsistent_iff s).mp foil, False.elim⟩
    exact (foilConsistent_iff t).mpr (kept trivial)
  · have past := (recordsSent_iff s).mp sent
    obtain ⟨-, -, kept⟩ := (kept_foil False True).step run
      ⟨fun _ => ⟨distinct, past⟩, False.elim, fun _ => ⟨past, fun d o member k i least most => unnamed d o member k i least most⟩⟩
    exact (recordsSent_iff t).mpr (kept trivial).1

end Sys2Proof.Machine

/-! ## Right after power-on reset -/

namespace Sys2Proof.Machine

/-- Every item at its power-on value, but the station number, which is one in its range. What is the model's own, the
queue of commands, the record of frames sent and the free-value counter, does not matter. -/
def State.PoweredOn (s : State) : Prop :=
  ∃ (pending : List Instr) (resetIn : Bool) (station : Option Byte) (down : List (List Byte)) (freeCount : Nat),
    StationInRange station
      ∧ s = { State.reset with pending, port := Port.powerOn resetIn station down, freeCount }

theorem reset_poweredOn : State.reset.PoweredOn := by
  refine ⟨[], false, some 1, [], 0, fun b e => ?_, rfl⟩
  cases e
  decide

theorem poweredOn_poweredOn (s : State) (straps : BitVec 6) : (s.poweredOn straps).PoweredOn :=
  ⟨_, _, _, _, _, stationOfStraps_inRange straps, rfl⟩

section
variable {s : State} (h : s.PoweredOn)
include h

theorem State.PoweredOn.listsBounded : s.ListsBounded := by
  obtain ⟨_, _, _, _, _, -, rfl⟩ := h
  exact ⟨Nat.zero_le _, Nat.zero_le _, Nat.zero_le _, Nat.zero_le _, Nat.zero_le _,
    forall_replicate (Q := fun x : Drive => x.out.length ≤ 4) (Nat.zero_le _)⟩

theorem State.PoweredOn.portConsistent : s.port.Consistent := by
  obtain ⟨_, _, _, _, _, inRange, rfl⟩ := h
  exact ⟨List.Perm.refl _, inRange⟩

theorem State.PoweredOn.countsInRange : s.CountsInRange := by
  obtain ⟨_, _, _, _, _, -, rfl⟩ := h
  exact ⟨forall_replicate (Q := Bank.InRange) Bank.cleared_inRange, StationCfg.powerOn_inRange,
    forall_replicate (Q := Cassette.InRange) Cassette.afterReset_inRange,
    forall_replicate (Q := Drive.CountsInRange) ⟨Nat.zero_le _, fun _ member => by cases member⟩,
    fun l => ⟨forall_replicate (Q := (· ≤ 4294967295)) (Nat.zero_le _) l,
      forall_replicate (Q := (· ≤ 4294967295)) (Nat.zero_le _) l⟩,
    forall_replicate (Q := fun a : FoilAccount => a.saved ≤ 4294967295) (Nat.zero_le _),
    Attention.CountsInRange.powerOn, Nat.zero_le _, Nat.zero_le _⟩

theorem State.PoweredOn.logConsecutive : s.report.LogConsecutive := by
  obtain ⟨_, _, _, _, _, -, rfl⟩ := h
  exact fun _ inside => absurd inside (Nat.not_lt_zero _)

theorem State.PoweredOn.drivesConsistent : ∀ d : Fin 12, s.drives[d].Consistent := by
  obtain ⟨_, _, _, _, _, -, rfl⟩ := h
  exact forall_replicate (Q := Drive.Consistent) Drive.powerOn_consistent

theorem State.PoweredOn.attentionConsistent : s.attention.Consistent := by
  obtain ⟨_, _, _, _, _, -, rfl⟩ := h
  exact Attention.consistent_of_empty

/-- Both banks are empty, and the planner is in IDLE (R27, R87). -/
theorem State.PoweredOn.jobConsistent : s.JobConsistent := by
  obtain ⟨_, _, _, _, _, -, rfl⟩ := h
  exact ⟨⟨fun _ => Bank.cleared_isEmpty, fun _ => rfl⟩, fun _ => rfl, fun draining => (by cases draining),
    fun armed => by cases armed⟩

theorem State.PoweredOn.noPlan : s.planner.queue = [] := by
  obtain ⟨_, _, _, _, _, -, rfl⟩ := h
  rfl

theorem State.PoweredOn.foilConsistent : s.FoilConsistent := by
  rw [foilConsistent_iff, h.noPlan]
  obtain ⟨_, _, _, _, _, -, rfl⟩ := h
  exact foilBalanced_powerOn

theorem State.PoweredOn.trackerConsistent : s.TrackerConsistent := by
  obtain ⟨_, _, _, _, _, -, rfl⟩ := h
  exact (trackerConsistent_iff _).mpr ⟨.left rfl rfl rfl (Nat.zero_le _) fun _ none => (by cases none), fun _ => rfl⟩

end

/-- Settles O53: every invariant holds of the power-on values, whatever the station number within its range. -/
theorem resetMeetsTheInvariants : Obligations.ResetMeetsTheInvariants := by
  intro s from'
  have h : s.PoweredOn := by
    rcases from' with rfl | ⟨u, straps, rfl⟩
    · exact reset_poweredOn
    · exact poweredOn_poweredOn u straps
  have queue := h.noPlan
  refine ⟨h.listsBounded, h.portConsistent, h.countsInRange, h.logConsecutive, h.drivesConsistent,
    h.attentionConsistent, h.jobConsistent, ?plans, ?distinct, h.foilConsistent, ?sent, h.trackerConsistent⟩
  case plans => simp [State.QueueConsistent, queue]
  case distinct => simp [State.RepeatsDistinct, queue]
  case sent => simp [State.RecordsSent, queue]

/-! ## The values of power-on reset, block by block -/

/-- Every kind after power-on reset: not pending, its count 0, disabled, at its level of section 9.4 (R173). -/
theorem Attention.powerOn_cell (k : Fin 18) : Attention.powerOn.kinds[k]
    = { pending := false, detail := 0, count := 0, enabled := false, level := powerOnLevels[k] } :=
  Vector.getElem_map ..

/-- Settles O3: each block's table is read off the power-on values. -/
theorem powerOnResetInEveryBlock : Obligations.PowerOnResetInEveryBlock := by
  have cell := Attention.powerOn_cell
  refine ⟨fun straps s => ⟨s.poweredOn straps, rfl, ?port, rfl, rfl, rfl, ?banks, rfl, ?heaters, ?stations, rfl, rfl, rfl,
    rfl, rfl, rfl, rfl, rfl, rfl, ?counts, ?foil, ?cassettes, ?drives, rfl, rfl, rfl, rfl, rfl, ?watch, ?kinds, ?levels,
    rfl, rfl, rfl, rfl, rfl⟩, fun _ => rfl⟩
  case port =>
    have straps' : straps = 0 ∨ straps = 63 ↔ straps.toNat = 0 ∨ straps.toNat = 63 := by
      simp only [← BitVec.toNat_inj]
      rfl
    simp only [straps']
    rfl
  case banks =>
    exact forall_replicate (Q := fun b : Bank => (∀ i : Fin 64, b.designs[i] = none) ∧ (∀ i : Fin 128, b.seq[i] = none)
        ∧ (∀ f : Fin 4, b.foil[f] = none) ∧ (∀ l : Fin 8, b.lanes[l] = Lane.cleared) ∧ b.job = Bank.cleared.job)
      ⟨Bank.cleared_design, Bank.cleared_seq, Bank.cleared_foil, Bank.cleared_lane, rfl⟩
  case heaters => exact forall_replicate (Q := (· = none)) rfl
  case stations =>
    exact fun d => ⟨forall_replicate (Q := (· = none)) rfl d, forall_replicate (Q := (· = 0xFF)) rfl d⟩
  case counts => exact fun l => ⟨forall_replicate (Q := (· = 0)) rfl l, forall_replicate (Q := (· = 0)) rfl l⟩
  case foil => exact forall_replicate (Q := (· = FoilAccount.powerOn)) rfl
  case cassettes => exact forall_replicate (Q := (· = Cassette.afterReset)) rfl
  case drives => exact forall_replicate (Q := (· = Drive.powerOn)) rfl
  case watch => exact forall_replicate (Q := (· = Watch.cleared)) rfl
  case kinds =>
    intro k
    have same : (s.poweredOn straps).attention = Attention.powerOn := rfl
    rw [same, cell]
    exact ⟨rfl, rfl, rfl, rfl⟩
  case levels =>
    have levels : (kinds18.map fun k : Fin 18 => powerOnLevels[k].val)
        = [0, 1, 1, 1, 1, 2, 2, 2, 3, 4, 5, 5, 5, 6, 6, 4, 6, 7] := by decide
    rw [← levels]
    exact List.map_congr_left fun k _ => congrArg (·.level.val) (cell k)

end Sys2Proof.Machine

/-! ## Fields of the bytes that are sent (sections 10.2 to 10.5) -/

namespace Sys2Proof.Machine

@[simp] theorem length_be (n v : Nat) : (be n v).length = n := by
  induction n with
  | zero => rfl
  | succ n ih => rw [be, List.length_cons, ih]

theorem beNat_append (as bs : List Byte) : beNat (as ++ bs) = beNat as * 256 ^ bs.length + beNat bs := by
  have fold (bs : List Byte) (acc : Nat) :
      bs.foldl (fun acc (b : Byte) => acc * 256 + b.toNat) acc = acc * 256 ^ bs.length + beNat bs := by
    induction bs generalizing acc with
    | nil => simp [beNat]
    | cons b bs ih =>
      have first : beNat (b :: bs) = b.toNat * 256 ^ bs.length + beNat bs := by
        rw [beNat, List.foldl_cons, ih]
        simp
      rw [List.foldl_cons, ih, first, List.length_cons]
      ring
  rw [beNat, List.foldl_append, fold]
  rfl

/-- The bytes of a number give the number again, what does not fit in them dropped. -/
theorem beNat_be (n v : Nat) : beNat (be n v) = v % 256 ^ n := by
  induction n generalizing v with
  | zero => rw [be, Nat.pow_zero, Nat.mod_one]; rfl
  | succ n ih =>
    have first : beNat [BitVec.ofNat 8 (v / 256 ^ n)] = v / 256 ^ n % 256 := by simp [beNat]
    rw [be, ← List.singleton_append, beNat_append, length_be, ih, first, Nat.pow_succ, Nat.mod_mul]
    ring

section
variable {bs : List Byte} {off n : Nat}

/-- A field that stands in its place in full is read back. -/
theorem field_of_be {v : Nat} (place : (bs.drop off).take n = be n v) (fits : v < 256 ^ n) : field bs off n = v := by
  rw [field, place, beNat_be, Nat.mod_eq_of_lt fits]

theorem field_of_word {w : BitVec 32} (place : (bs.drop off).take 4 = be 4 w.toNat) : field bs off 4 = w.toNat :=
  field_of_be place w.isLt

/-- A field of two bytes in two's complement is read back. -/
theorem sfield_of_beInt {v : Int} (place : (bs.drop off).take 2 = beInt 2 v) (least : -32768 ≤ v) (most : v < 32768) :
    sfield bs off 2 = v := by
  have number : field bs off 2 = (v % 65536).toNat := by
    refine field_of_be place ?_
    omega
  simp only [sfield, number]
  split <;> omega

end

theorem toNat_byte {v : Nat} (fits : v < 256) : (byte v).toNat = v := Nat.mod_eq_of_lt fits

/-- A byte that stands in its place is read back. -/
theorem byteAt_of_byte {bs : List Byte} {off v : Nat} (place : byteAt bs off = byte v) (fits : v < 256) :
    (byteAt bs off).toNat = v := by
  rw [place, toNat_byte fits]

theorem byteAt_of_fin {bs : List Byte} {off n : Nat} {i : Fin n} (place : byteAt bs off = byte i.val)
    (small : n ≤ 256 := by decide) : (byteAt bs off).toNat = i.val :=
  byteAt_of_byte place (i.isLt.trans_le small)

/-! ### The payloads that the part sends (section 10.3) -/

theorem outcomeNumbers_lt (o : Option Decision) : (outcomeNumbers o).1 < 4 ∧ (outcomeNumbers o).2 < 16 := by
  rcases o with _ | _ | r | r
  · decide
  · decide
  · cases r <;> decide
  · cases r <;> decide

theorem length_rptPayload (r : RepeatReport) : (rptPayload r).length = 25 := by
  simp [rptPayload, List.length_flatMap]

/-- The two bytes of a lane in a repeat report. -/
theorem rptPayload_lane (r : RepeatReport) (l : Fin 8) :
    byteAt (rptPayload r) (8 + 2 * l.val) = byte (laneCodes r.lanes[l]).1
      ∧ byteAt (rptPayload r) (9 + 2 * l.val) = byte (laneCodes r.lanes[l]).2 := by
  obtain ⟨_, _, ⟨⟨lanes⟩, size⟩, _, _, _⟩ := r
  match lanes, size with
  | [_, _, _, _, _, _, _, _], _ => fin_cases l <;> exact ⟨rfl, rfl⟩

theorem rptPayload_flags (r : RepeatReport) : byteAt (rptPayload r) 24
    = byte ((if r.synth then 1 else 0) + (if r.first then 2 else 0) + (if r.gap then 4 else 0)) := by
  obtain ⟨_, _, ⟨⟨lanes⟩, size⟩, _, _, _⟩ := r
  match lanes, size with
  | [_, _, _, _, _, _, _, _], _ => rfl

/-- A flags byte carries three flags, and nothing else. -/
theorem flags_bits (a b c : Bool) :
    let x := byte ((if a then 1 else 0) + (if b then 2 else 0) + (if c then 4 else 0))
    x.getLsbD 0 = a ∧ x.getLsbD 1 = b ∧ x.getLsbD 2 = c ∧ x.toNat < 8 := by
  revert a b c
  decide

/-- The member of a list that has a key, found by its key when no other member has it. -/
theorem find?_of_nodup {α β : Type} [BEq β] [LawfulBEq β] {f : α → β} {l : List α} (distinct : (l.map f).Nodup) {x : α}
    (member : x ∈ l) : l.find? (fun y => f y == f x) = some x := by
  obtain ⟨y, found⟩ := Option.isSome_iff_exists.mp ((List.find?_isSome (p := fun y => f y == f x)).mpr ⟨x, member, beq_self_eq_true (f x)⟩)
  have same : f y = f x := eq_of_beq (List.find?_some (p := fun y => f y == f x) found)
  exact found.trans (congrArg some (List.inj_on_of_nodup_map distinct (List.mem_of_find?_eq_some found) member same))

theorem Attention.serviceLevel_of_mem {a : Attention} {k : Fin 18} {level : Fin 8} (served : (k, level) ∈ a.service)
    (distinct : (a.service.map (·.1)).Nodup) : a.serviceLevel k = level.val := by
  rw [Attention.serviceLevel, find?_of_nodup distinct served]
  rfl

/-- Settles O28: each field is the bytes that stand in its place, and its value fits them. -/
theorem sentPayloadLayouts : Obligations.SentPayloadLayouts := by
  refine ⟨fun e seq most => ⟨rfl, byteAt_of_fin rfl, rfl, byteAt_of_fin rfl, field_of_word rfl,
    field_of_be rfl (by omega), byteAt_of_fin rfl, ?kind⟩, fun m seq chain most => ⟨rfl, byteAt_of_fin rfl, rfl,
    field_of_word rfl, field_of_be rfl most, rfl⟩, fun r => ?report, fun a k level served distinct most => ?atn⟩
  case kind => cases e with | mk lane segment kind => cases kind <;> rfl
  case report =>
    obtain ⟨synth, first, gap, high⟩ := flags_bits r.synth r.first r.gap
    refine ⟨length_rptPayload r, field_of_word rfl, field_of_word rfl, fun l => ?lane, ?_⟩
    case lane =>
      obtain ⟨outcome, reason⟩ := outcomeNumbers_lt r.lanes[l]
      obtain ⟨first', second⟩ := rptPayload_lane r l
      rw [← outcomeNumbers_eq] at first' second
      exact ⟨byteAt_of_byte first' (by omega), byteAt_of_byte second (by omega)⟩
    rw [rptPayload_flags]
    exact ⟨synth, first, gap, high⟩
  case atn =>
    have level' := a.serviceLevel_of_mem served distinct
    exact ⟨rfl, byteAt_of_fin rfl, byteAt_of_fin (congrArg byte level'), field_of_word rfl, byteAt_of_byte rfl (by omega)⟩

end Sys2Proof.Machine

/-! ## Requests of the tables, the changeover, the lanes, the events and the watch (chapter 8) -/

namespace Sys2Proof.Machine

/-- Settles O1: the front command is taken off before it runs. -/
theorem stepRunsTheFrontCommand : Obligations.StepRunsTheFrontCommand := by
  refine ⟨fun c rest s front => ?_, fun s none => ?_⟩
  · rw [step, front]
  · rw [step, none]

section
variable {s t : State} {h : Header} {q : Req} {act : Act}

/-- The state of an act that replies with data, answered (R159). -/
theorem request_of_data {data : List Byte} {st : Status} (taken : s.takes h q)
    (e : act q s = (t, { status := st, data })) (code : Byte) :
    s.request h code q act = t.answered h code st data := by
  rw [request_of_takes taken, e]

/-- A request row that is taken: the state of its act, with the act's reply answered (R159). -/
theorem next_of_data {data : List Byte} {st : Status} (taken : s.takes h q)
    (e : act q s = (t, { status := st, data })) (code : Byte) :
    (Host.Outcome.next (s.request h code q act) : Host.Outcome State Fault Refusal) = .next (t.answered h code st data) :=
  congrArg _ (request_of_data taken e code)

/-- A request row that is taken and replied to without data (R159). -/
theorem next_of_reply {st : Status} (taken : s.takes h q) (e : act q s = reply t st) (code : Byte) :
    (Host.Outcome.next (s.request h code q act) : Host.Outcome State Fault Refusal) = .next (t.answered h code st []) :=
  congrArg _ (request_of_reply taken e code)

end

/-! ### CANCEL CHANGEOVER and COPY ACTIVE TO STANDBY (R46, R47) -/

/-- Settles O37: both look at the arm alone. -/
theorem cancelAndCopy : Obligations.CancelAndCopy := by
  refine fun s h q taken => ⟨fun armed => ⟨?cancelled, ?armed⟩, fun unarmed => ⟨?notArmed, ?copied⟩⟩
  case cancelled => exact next_of_reply taken (if_pos armed) 0x09
  case armed => exact next_of_reply taken (if_pos armed) 0x0A
  case notArmed => exact next_of_reply taken (if_neg (by simp [unarmed])) 0x09
  case copied => exact next_of_reply taken (if_neg (by simp [unarmed])) 0x0A

/-! ### START and STOP (R53 to R55) -/

section
variable {s : State} (q : Req)

theorem actStart_revalidates (st : s.planner.st = .ready ∨ s.planner.st = .draining) : actStart q s = startFrom s := by
  unfold actStart
  rcases st with st | st <;> rw [st]

theorem actStop_elsewhere (st : s.planner.st ≠ .stamping) : actStop q s = reply s .done := by
  unfold actStop
  split
  · exact absurd ‹_› st
  all_goals rfl

theorem actStop_stamping (st : s.planner.st = .stamping) :
    actStop q s = reply (s.setPlannerState .draining).drainCheck .done := by rw [actStop, st]

theorem drainCheck_more (more : s.planner.queue ≠ []) : s.drainCheck = s := by
  simp [State.drainCheck, more]

/-- Draining with no plan left, the planner enters READY, and takes a changeover that is armed (R43, R55). -/
theorem drainCheck_drained (st : s.planner.st = .draining) (empty : s.planner.queue = []) :
    s.drainCheck = if s.jobs.arm.isSome then (s.setPlannerState .ready).takeChangeover else s.setPlannerState .ready := by
  have drained : (decide (s.planner.st = .draining) && s.planner.queue.isEmpty) = true := by simp [st, empty]
  rw [State.drainCheck, if_pos drained]
  rfl

end

/-- Settles O39: START looks at the planner's state and then at the active bank, STOP at the state and the queue. -/
theorem startAndStop : Obligations.StartAndStop := by
  refine fun s h q taken => ⟨fun idle => ?noJob, fun stamping => ?again, fun st => ⟨fun k i bad => ?invalid,
    fun good => ?started⟩, fun st => ?elsewhere, fun st more => ?draining, fun st empty => ⟨fun unarmed => ?ready,
    fun armed => ?taken⟩⟩
  case noJob => exact next_of_reply taken (by rw [actStart, idle]) 0x0C
  case again => exact next_of_reply taken (by rw [actStart, stamping]) 0x0C
  case invalid =>
    refine next_of_data taken ?_ 0x0C
    rw [actStart_revalidates q st, startFrom, bad]
    rfl
  case started =>
    refine next_of_reply taken ?_ 0x0C
    rw [actStart_revalidates q st, startFrom, good]
    rfl
  case elsewhere => exact next_of_reply taken (actStop_elsewhere q st) 0x0D
  case draining =>
    refine next_of_reply taken ?_ 0x0D
    rw [actStop_stamping q st, drainCheck_more (s := s.setPlannerState .draining) more]
    rfl
  case ready =>
    refine next_of_reply taken ?_ 0x0D
    rw [actStop_stamping q st, drainCheck_drained (s := s.setPlannerState .draining) rfl empty, if_neg]
    · rfl
    · simp [State.setPlannerState, unarmed]
  case taken =>
    refine next_of_reply taken ?_ 0x0D
    rw [actStop_stamping q st, drainCheck_drained (s := s.setPlannerState .draining) rfl empty, if_pos]
    · rfl
    · exact armed

/-! ### HOLD LANE, RELEASE LANE and SET TRIM (R34, R35) -/

section
variable {s : State} {q : Req} {act : Fin 8 → State × Reply}

theorem onActiveLane_noJob (empty : s.active.isEmpty = true) : onActiveLane q s act = reply s .noJob := if_pos empty

theorem onActiveLane_past (job : s.active.isEmpty = false) (past : 8 ≤ q.index.toNat) :
    onActiveLane q s act = reply s .badIndex := by
  rw [onActiveLane, if_neg (by simp [job]), reqNumber_past past]

theorem onActiveLane_lane {l : Fin 8} (job : s.active.isEmpty = false) (lane : q.index.toNat = l.val) :
    onActiveLane q s act = act l := by
  rw [onActiveLane, if_neg (by simp [job]), reqNumber_of_eq lane]

/-- The trim of a lane of the active bank written (R35). -/
def State.setTrim (s : State) (l : Fin 8) (v : Int) : State :=
  s.setActive (s.active.modLane l fun x => { x with trim := v })

/-- SET TRIM on a lane: the trim brought into its range, and the answer that tells whether it was (R3, R35). -/
theorem actSetTrim_lane {l : Fin 8} (data : 2 ≤ q.data.length) (job : s.active.isEmpty = false)
    (lane : q.index.toNat = l.val) : actSetTrim q s =
      reply (s.setTrim l (max (-1000) (min 1000 (sfield q.data 0 2))))
        (if sfield q.data 0 2 < -1000 ∨ 1000 < sfield q.data 0 2 then .clamped else .done) := by
  rw [actSetTrim, needData_enough data, onActiveLane_lane job lane]
  simp only [clampStatus_decide, clampInt_eq (by decide : (-1000 : Int) ≤ 1000)]
  rfl

theorem actSetTrim_inside {l : Fin 8} (data : 2 ≤ q.data.length) (job : s.active.isEmpty = false)
    (lane : q.index.toNat = l.val) (least : -1000 ≤ sfield q.data 0 2) (most : sfield q.data 0 2 ≤ 1000) :
    actSetTrim q s = reply (s.setTrim l (sfield q.data 0 2)) .done := by
  have value : max (-1000) (min 1000 (sfield q.data 0 2)) = sfield q.data 0 2 := by omega
  rw [actSetTrim_lane data job lane, value, if_neg (by omega)]

theorem actSetTrim_outside {l : Fin 8} {v : Int} (data : 2 ≤ q.data.length) (job : s.active.isEmpty = false)
    (lane : q.index.toNat = l.val) (outside : sfield q.data 0 2 < -1000 ∨ 1000 < sfield q.data 0 2)
    (value : max (-1000) (min 1000 (sfield q.data 0 2)) = v) :
    actSetTrim q s = reply (s.setTrim l v) .clamped := by
  rw [actSetTrim_lane data job lane, value, if_pos outside]

end

/-- Settles O40: the bank is tested first, then the lane; SET TRIM tests its data before both. -/
theorem holdReleaseTrim : Obligations.HoldReleaseTrim := by
  intro s h q taken b trim lane
  refine ⟨fun empty => ⟨?holdNoJob, ?releaseNoJob, fun data => ?trimNoJob⟩,
    fun job past => ⟨?holdPast, ?releasePast, fun data => ?trimPast⟩, fun short => ?short,
    fun l job index => ⟨?hold, ?release, fun data least most => ?inside, fun data low => ?low, fun data high => ?high⟩⟩
  case holdNoJob => exact next_of_reply taken (onActiveLane_noJob empty) 0x0E
  case releaseNoJob => exact next_of_reply taken (onActiveLane_noJob empty) 0x0F
  case trimNoJob => exact next_of_reply taken ((needData_enough data _ s).trans (onActiveLane_noJob empty)) 0x10
  case holdPast => exact next_of_reply taken (onActiveLane_past job past) 0x0E
  case releasePast => exact next_of_reply taken (onActiveLane_past job past) 0x0F
  case trimPast => exact next_of_reply taken ((needData_enough data _ s).trans (onActiveLane_past job past)) 0x10
  case short => exact next_of_reply taken (needData_short short _ s) 0x10
  case hold => exact next_of_reply taken (onActiveLane_lane job index) 0x0E
  case release => exact next_of_reply taken (onActiveLane_lane job index) 0x0F
  case inside => exact next_of_reply taken (actSetTrim_inside data job index least most) 0x10
  case low => exact next_of_reply taken (actSetTrim_outside data job index (.inl low) (by omega)) 0x10
  case high => exact next_of_reply taken (actSetTrim_outside data job index (.inr high) (by omega)) 0x10

/-! ### EVENT ENABLE, EVENT DISABLE and SET LEVEL (R174) -/

/-- The bits of a set of numbers, each once: the sum of their powers of two has exactly their bits. -/
theorem testBit_foldl_pow (p : Nat → Bool) (n : Nat) :
    let v := (List.range n).foldl (fun acc k => if p k then acc + 2 ^ k else acc) 0
    v < 2 ^ n ∧ ∀ k, k < n → v.testBit k = p k := by
  induction n with
  | zero => exact ⟨Nat.zero_lt_one, fun _ inside => absurd inside (Nat.not_lt_zero _)⟩
  | succ n ih =>
    rw [List.range_succ, List.foldl_append, List.foldl_cons, List.foldl_nil]
    obtain ⟨most, bits⟩ := ih
    generalize (List.range n).foldl (fun acc k => if p k then acc + 2 ^ k else acc) 0 = v at most bits ⊢
    have top : v.testBit n = false := Nat.testBit_lt_two_pow most
    refine ⟨by split <;> omega, fun k inside => ?_⟩
    rcases Nat.lt_succ_iff_lt_or_eq.mp inside with below | rfl
    · rw [← bits k below]
      split
      · rw [Nat.add_comm, Nat.testBit_two_pow_add_gt below]
      · rfl
    · split
      next on => rw [Nat.add_comm, Nat.testBit_two_pow_add_eq, top, on]; rfl
      next off => rw [top, Bool.eq_false_iff.mpr off]

/-- The flag of a kind by its number. -/
def Attention.flagOf (a : Attention) (k : Nat) : Bool := if inside : k < 18 then a.kinds[k].enabled else false

/-- The enable set has the bit of a kind exactly when the kind is enabled, and no other bit (R174). -/
theorem Attention.enableSet_bits (a : Attention) :
    a.enableSet < 2 ^ 18 ∧ ∀ k : Fin 18, a.enableSet.testBit k.val = a.kinds[k].enabled := by
  have same : a.enableSet = (List.range 18).foldl (fun acc k => if a.flagOf k then acc + 2 ^ k else acc) 0 := rfl
  obtain ⟨most, bits⟩ := testBit_foldl_pow a.flagOf 18
  rw [← same] at most bits
  exact ⟨most, fun k => (bits k.val k.isLt).trans (dif_pos k.isLt)⟩

/-- A selection changes no kind's cell, so an enable set answered after it is the one written (R174). -/
theorem Attention.enableSet_select (a : Attention) : a.select.enableSet = a.enableSet := by
  rw [Attention.enableSet, Attention.select_kinds]
  rfl

/-- The enable set of an answer (R174). -/
def Attention.Tells (data : List Byte) (a : Attention) : Prop :=
  data.length = 3 ∧ field data 0 3 < 2 ^ 18 ∧ ∀ k : Fin 18, (field data 0 3).testBit k.val = a.kinds[k].enabled

theorem Attention.tells_enableSet (a : Attention) : Attention.Tells (be 3 a.enableSet) a := by
  obtain ⟨most, bits⟩ := a.enableSet_bits
  have value : field (be 3 a.enableSet) 0 3 = a.enableSet := field_of_be rfl (by omega)
  rw [Attention.Tells, value]
  exact ⟨rfl, most, bits⟩

section
variable {s : State} {q : Req} {k : Fin 18}

/-- The enables written: the cells of the kinds named, without the selection that follows (R174). -/
def Attention.written (a : Attention) (set : Nat) (on : Bool) : Attention :=
  { a with kinds := Vector.ofFn fun k => if set.testBit k.val then { a.kinds[k] with enabled := on } else a.kinds[k] }

theorem writeEnables_enough (data : 3 ≤ q.data.length) (on : Bool) :
    writeEnables on q s = (s.setAttention (s.attention.written (field q.data 0 3) on).select,
      { status := .done, data := be 3 (s.attention.written (field q.data 0 3) on).enableSet }) := by
  rw [← Attention.enableSet_select, writeEnables, needData_enough data]
  rfl

theorem actSetLevel_past (data : 1 ≤ q.data.length) (past : 18 ≤ q.index.toNat) :
    actSetLevel q s = reply s .badIndex := by
  rw [actSetLevel, needData_enough data, reqNumber_past past]

theorem actSetLevel_high (data : 1 ≤ q.data.length) (kind : q.index.toNat = k.val)
    (high : 8 ≤ (byteAt q.data 0).toNat) :
    actSetLevel q s = reply s .badValue := by
  rw [actSetLevel, needData_enough data, reqNumber_of_eq kind]
  simp only [finOf_eq_none.mpr high]

theorem actSetLevel_level {l : Fin 8} (data : 1 ≤ q.data.length) (kind : q.index.toNat = k.val)
    (level : (byteAt q.data 0).toNat = l.val) : actSetLevel q s =
      reply (s.setAttention (s.attention.modCell k fun c => { c with level := l }).select) .done := by
  rw [actSetLevel, needData_enough data, reqNumber_of_eq kind]
  simp only [finOf_eq_some.mpr level]

end

/-- Settles O43: the enables are written at once and read back from the cells; SET LEVEL tests the kind, then the level. -/
theorem eventSettings : Obligations.EventSettings := by
  intro s h q taken named written tells
  refine ⟨fun short => ⟨?enableShort, ?disableShort⟩, fun data => ⟨⟨_, Attention.tells_enableSet _, ?enabled⟩,
    ⟨_, Attention.tells_enableSet _, ?disabled⟩⟩, fun short => ?levelShort, fun data past => ?badIndex,
    fun k data kind => ⟨fun high => ?badValue, fun l level => ?level⟩⟩
  case enableShort => exact next_of_reply taken (needData_short short _ s) 0x13
  case disableShort => exact next_of_reply taken (needData_short short _ s) 0x14
  case enabled => exact next_of_data taken (writeEnables_enough data true) 0x13
  case disabled => exact next_of_data taken (writeEnables_enough data false) 0x14
  case levelShort => exact next_of_reply taken (needData_short short _ s) 0x15
  case badIndex => exact next_of_reply taken (actSetLevel_past data past) 0x15
  case badValue => exact next_of_reply taken (actSetLevel_high data kind high) 0x15
  case level => exact next_of_reply taken (actSetLevel_level data kind level) 0x15

/-! ### SET WATCH (R172) -/

theorem OutcomeClass.ofByte_past {b : Byte} (past : 3 ≤ b.toNat) : OutcomeClass.ofByte b = none := by
  have other (v : Byte) (small : v.toNat < 3) : b ≠ v := by
    rintro rfl
    omega
  rw [OutcomeClass.ofByte, if_neg (other 0 (by decide)), if_neg (other 1 (by decide)), if_neg (other 2 (by decide))]

theorem OutcomeClass.ofByte_of_code {b : Byte} {cls : OutcomeClass}
    (code : b.toNat = (match cls with | .stamped => 0 | .suppressed => 1 | .reject => 2)) :
    OutcomeClass.ofByte b = some cls := by
  have value (v : Byte) (e : b.toNat = v.toNat) : b = v := BitVec.eq_of_toNat_eq e
  cases cls with
  | stamped => rw [value 0 code]; rfl
  | suppressed => rw [value 1 code]; rfl
  | reject => rw [value 2 code]; rfl

/-- One field outside its range refuses the whole entry (R172). -/
theorem decodeWatch_refused {d : List Byte}
    (bad : 8 ≤ (byteAt d 1).toNat ∨ 64 ≤ (byteAt d 3).toNat ∨ 3 ≤ (byteAt d 5).toNat) : decodeWatch d = none := by
  rcases bad with lane | design | cls
  · simp [decodeWatch, finOf_eq_none.mpr lane]
  · simp [decodeWatch, finOf_eq_none.mpr design]
  · simp [decodeWatch, OutcomeClass.ofByte_past cls]

theorem decodeWatch_fields {d : List Byte} {lane : Fin 8} {design : Fin 64} {cls : OutcomeClass}
    (lane' : (byteAt d 1).toNat = lane.val) (design' : (byteAt d 3).toNat = design.val)
    (cls' : (byteAt d 5).toNat = (match cls with | .stamped => 0 | .suppressed => 1 | .reject => 2)) :
    decodeWatch d = some
      { enabled := byteAt d 0 != 0, lane, laneOn := byteAt d 2 != 0, design, designOn := byteAt d 4 != 0, cls,
        clsOn := byteAt d 6 != 0, once := byteAt d 7 != 0 } := by
  rw [decodeWatch, finOf_eq_some.mpr lane', finOf_eq_some.mpr design', OutcomeClass.ofByte_of_code cls']
  rfl

section
variable {s : State} {q : Req} {i : Fin 4}

theorem actSetWatch_past (data : 8 ≤ q.data.length) (past : 4 ≤ q.index.toNat) :
    actSetWatch q s = reply s .badIndex := by
  rw [actSetWatch, needData_enough data, reqNumber_past past]

theorem actSetWatch_refused (data : 8 ≤ q.data.length) (entry : q.index.toNat = i.val)
    (bad : decodeWatch q.data = none) : actSetWatch q s = reply s .badValue := by
  rw [actSetWatch, needData_enough data, reqNumber_of_eq entry]
  simp only [bad]

theorem actSetWatch_written {w : Watch} (data : 8 ≤ q.data.length) (entry : q.index.toNat = i.val)
    (good : decodeWatch q.data = some w) :
    actSetWatch q s = reply (s.setReport { s.report with watch := s.report.watch.set i w }) .done := by
  rw [actSetWatch, needData_enough data, reqNumber_of_eq entry]
  simp only [good]

end

/-- Settles O48: the data, the entry number and the three coded fields are tested in this order. -/
theorem setWatch : Obligations.SetWatch := by
  intro s h q taken d
  refine ⟨fun short => ?short, fun data past => ?badIndex, fun i data entry => ⟨fun bad => ?badValue,
    fun lane design cls lane' design' cls' => ?written⟩⟩
  case short => exact next_of_reply taken (needData_short short _ s) 0x19
  case badIndex => exact next_of_reply taken (actSetWatch_past data past) 0x19
  case badValue => exact next_of_reply taken (actSetWatch_refused data entry (decodeWatch_refused bad)) 0x19
  case written =>
    exact next_of_reply taken (actSetWatch_written data entry (decodeWatch_fields lane' design' cls')) 0x19

/-! ### Unknown codes (R161) -/

theorem actOf_unknown {code : Byte} (o : TakeOrder) (unknown : code.toNat = 0 ∨ 28 < code.toNat) :
    actOf o code = actUnknown := by
  rcases unknown with zero | past
  · exact if_pos (BitVec.eq_of_toNat_eq zero)
  · have length : (actTable o).length = 28 := rfl
    have other : code ≠ 0 := by
      rintro rfl
      exact absurd past (by decide)
    rw [actOf, if_neg other, List.getElem?_eq_none (by omega), Option.getD_none]

/-- Settles O51: a code with no act of its own is answered whatever the request holds. -/
theorem unknownCode : Obligations.UnknownCode := by
  intro s h code q taken unknown
  refine next_of_reply taken ?_ code
  rw [actOf_unknown _ unknown]
  rfl

end Sys2Proof.Machine

/-! ## Records in the form in which READ answers them (section 10.4) -/

namespace Sys2Proof.Machine

theorem flagAt_of_flagByte {bs : List Byte} {off : Nat} {b : Bool} (place : byteAt bs off = flagByte b) :
    flagAt bs off = b := by
  rw [flagAt, place]
  cases b <;> rfl

section
variable {x : Design} (h : x.InRange)
include h

/-- The record of a design carries its fields (R30, R39). -/
theorem designFields_encode : DesignFields (encodeDesign (some x)) x := by
  obtain ⟨offset, least, most, web⟩ := h
  refine ⟨rfl, byteAt_of_fin rfl, ?_, field_of_be rfl (by omega), offset, field_of_be rfl (by omega), least, most,
    byteAt_of_fin rfl, flagAt_of_flagByte rfl⟩
  cases foil : x.kind.isFoil with
  | true =>
    obtain ⟨w, named⟩ := Option.isSome_iff_exists.mp (web.trans foil)
    exact ⟨w, named, byteAt_of_fin (congrArg optByte named)⟩
  | false => exact Option.isSome_eq_false_iff.mp (web.trans foil) |> Option.isNone_iff_eq_none.mp

end

section
variable {x : Lane} (h : x.InRange)
include h

/-- The record of a lane carries its fields, and its progress behind them (R31, R39). -/
theorem laneFields_encode : LaneFields (encodeLane x) { x with onB := false, index := 0 } := by
  obtain ⟨lenLeast, lenMost, -, trimLeast, trimMost, loLeast, loMost, hiLeast, hiMost, soak, drift⟩ := h
  have len : (byteAt (encodeLane x) 4).toNat = x.seqLen := byteAt_of_byte rfl (by omega)
  have trim : sfield (encodeLane x) 5 2 = x.trim := sfield_of_beInt rfl (by omega) (by omega)
  have lo : sfield (encodeLane x) 8 2 = x.lo := sfield_of_beInt rfl (by omega) (by omega)
  have hi : sfield (encodeLane x) 10 2 = x.hi := sfield_of_beInt rfl (by omega) (by omega)
  have nsoak : field (encodeLane x) 12 2 = x.nsoak := field_of_be rfl (by omega)
  have ndrift : field (encodeLane x) 14 2 = x.ndrift := field_of_be rfl (by omega)
  have inside : x.trim = clampInt (-1000) 1000 (sfield (encodeLane x) 5 2) := by
    rw [trim, clampInt_eq (by decide)]
    omega
  exact ⟨rfl, byteAt_of_fin rfl, byteAt_of_fin rfl, byteAt_of_fin rfl, len, lenLeast, lenMost, inside,
    flagAt_of_flagByte rfl, lo, loLeast, loMost, hi, hiLeast, hiMost, nsoak, ndrift, drift, rfl, rfl⟩

theorem laneProgress_encode :
    byteAt (encodeLane x) 16 = flagByte x.onB ∧ (byteAt (encodeLane x) 17).toNat = x.index := by
  obtain ⟨-, lenMost, progress, -⟩ := h
  exact ⟨rfl, byteAt_of_byte rfl (by omega)⟩

end

theorem foilFields_encode {x : FoilWeb} (h : x.InRange) : FoilFields (encodeFoil (some x)) x := by
  obtain ⟨ordered, fm, gmin, low⟩ := h
  exact ⟨byteAt_of_fin rfl, byteAt_of_fin rfl, ordered, field_of_be rfl (by omega), fm, field_of_be rfl (by omega), gmin,
    field_of_be rfl (by omega), low⟩

/-- The six job parameters are read back from their record (R33, R39). -/
theorem Job.ofData_encode {j : Job} (good : j.inRange = true) : Job.ofData (encodeJob j) = j := by
  obtain ⟨lr, w, cmax, tol, ncoast, vmin⟩ := j.inRange_iff.mp good
  have lr' : field (encodeJob j) 0 4 = j.lr := field_of_be rfl (by omega)
  have w' : field (encodeJob j) 4 2 = j.w := field_of_be rfl (by omega)
  have cmax' : field (encodeJob j) 6 2 = j.cmax := field_of_be rfl (by omega)
  have tol' : field (encodeJob j) 8 2 = j.tol := field_of_be rfl (by omega)
  have ncoast' : (byteAt (encodeJob j) 10).toNat = j.ncoast := byteAt_of_byte rfl (by omega)
  have vmin' : field (encodeJob j) 11 4 = j.vmin := field_of_be rfl (by omega)
  rw [Job.ofData, lr', w', cmax', tol', ncoast', vmin']

/-! ### The items of the station configuration -/

theorem decodeStation_encode {v : Option Byte} (h : StationInRange v) : decodeStation (encodeStation v) = some v := by
  cases v with
  | none => rfl
  | some b =>
    obtain ⟨least, most⟩ := h b rfl
    have named : b ≠ absent := by
      rintro rfl
      exact absurd most (by decide)
    rw [encodeStation, decodeStation, if_neg named, if_pos ⟨least, most⟩]

/-- A write of one item leaves every other item as it stood (R37). -/
theorem StationCfg.encode_write_other {b c : StationCfg} {i j : Item} {d : List Byte} (written : b.write i d = some c)
    (differ : j ≠ i) : c.encode j = b.encode j := by
  have other {n : Nat} {α : Type} (v : Vector α n) (x : α) {j k : Fin n} (differ : j ≠ k) : (v.set k x)[j] = v[j] :=
    Vector.getElem_set_ne k.isLt j.isLt fun e => differ (Fin.ext e.symm)
  cases i with
  | sensor =>
    obtain ⟨v, -, rfl⟩ := Option.map_eq_some_iff.mp written
    cases j with
    | sensor => exact absurd rfl differ
    | _ => rfl
  | heater k =>
    obtain ⟨v, -, rfl⟩ := Option.map_eq_some_iff.mp written
    cases j with
    | heater j => exact congrArg (fun x => [encodeStation x]) (other _ _ fun e => differ (congrArg _ e))
    | _ => rfl
  | driveStation k =>
    obtain ⟨v, -, rfl⟩ := Option.map_eq_some_iff.mp written
    cases j with
    | driveStation j => exact congrArg (fun x => [encodeStation x]) (other _ _ fun e => differ (congrArg _ e))
    | _ => rfl
  | mask k =>
    cases written
    cases j with
    | mask j => exact congrArg (fun x => [x]) (other _ _ fun e => differ (congrArg _ e))
    | _ => rfl
  | d =>
    obtain ⟨-, ⟨⟩⟩ := Option.ite_none_right_eq_some.mp written
    cases j with
    | d => exact absurd rfl differ
    | _ => rfl
  | leads =>
    obtain ⟨-, ⟨⟩⟩ := Option.ite_none_right_eq_some.mp written
    cases j with
    | leads => exact absurd rfl differ
    | _ => rfl
  | nack =>
    obtain ⟨-, ⟨⟩⟩ := Option.ite_none_right_eq_some.mp written
    cases j with
    | nack => exact absurd rfl differ
    | _ => rfl
  | ntmp =>
    obtain ⟨-, ⟨⟩⟩ := Option.ite_none_right_eq_some.mp written
    cases j with
    | ntmp => exact absurd rfl differ
    | _ => rfl
  | jump =>
    obtain ⟨-, ⟨⟩⟩ := Option.ite_none_right_eq_some.mp written
    cases j with
    | jump => exact absurd rfl differ
    | _ => rfl

/-- An item of a configuration within its ranges is written as it was read (R37, R39). -/
theorem StationCfg.write_encode (b : StationCfg) {a : StationCfg} (h : a.InRange) (i : Item) :
    ∃ c : StationCfg, b.write i (a.encode i) = some c ∧ c.encode i = a.encode i := by
  obtain ⟨sensor, heaters, stations, dLeast, dMost, lcMost, lfMost, lminMost, lcLeast, lfLeast, nackLeast, nackMost,
    ntmpLeast, ntmpMost, jumpLeast, jumpMost⟩ := h
  cases i with
  | sensor => exact ⟨_, congrArg (Option.map _) (decodeStation_encode sensor), rfl⟩
  | heater k =>
    exact ⟨_, congrArg (Option.map _) (decodeStation_encode (heaters k)),
      congrArg (fun x => [encodeStation x]) (Vector.getElem_set_self _)⟩
  | driveStation k =>
    exact ⟨_, congrArg (Option.map _) (decodeStation_encode (stations k)),
      congrArg (fun x => [encodeStation x]) (Vector.getElem_set_self _)⟩
  | mask k => exact ⟨_, rfl, congrArg (fun x => [x]) (Vector.getElem_set_self _)⟩
  | d =>
    have value : field (be 4 a.d) 0 4 = a.d := field_of_be rfl (by omega)
    exact ⟨{ b with d := a.d }, by simp [StationCfg.write, StationCfg.encode, value, dLeast, dMost], rfl⟩
  | leads =>
    have lc : field (a.encode .leads) 0 2 = a.lc := field_of_be rfl (by omega)
    have lf : field (a.encode .leads) 2 2 = a.lf := field_of_be rfl (by omega)
    have lmin : field (a.encode .leads) 4 2 = a.lmin := field_of_be rfl (by omega)
    refine ⟨{ b with lc := a.lc, lf := a.lf, lmin := a.lmin }, ?_, rfl⟩
    simp [StationCfg.write, lc, lf, lmin, lcMost, lfMost, lminMost, lcLeast, lfLeast]
  | nack =>
    have value : field (be 1 a.nack) 0 1 = a.nack := field_of_be rfl (by omega)
    exact ⟨{ b with nack := a.nack }, by simp [StationCfg.write, StationCfg.encode, value, nackLeast, nackMost], rfl⟩
  | ntmp =>
    have value : field (be 2 a.ntmp) 0 2 = a.ntmp := field_of_be rfl (by omega)
    exact ⟨{ b with ntmp := a.ntmp }, by simp [StationCfg.write, StationCfg.encode, value, ntmpLeast, ntmpMost], rfl⟩
  | jump =>
    have value : field (be 2 a.jump) 0 2 = a.jump := field_of_be rfl (by omega)
    exact ⟨{ b with jump := a.jump }, by simp [StationCfg.write, StationCfg.encode, value, jumpLeast, jumpMost], rfl⟩

/-- Settles O52: what a record's bytes spell is the record, within its ranges. -/
theorem recordsReadBackAsWritten : Obligations.RecordsReadBackAsWritten := by
  refine ⟨fun d inRange => ?design, fun l inRange => decodeLane_eq_some.mpr (laneFields_encode inRange),
    fun v => ?sequence, fun f inRange => ?foil, fun j good => ?job, fun a b i inRange => ?item⟩
  case design =>
    rcases d with _ | x
    · exact decodeDesign_eq_some.mpr (.inl ⟨rfl, rfl⟩)
    · exact decodeDesign_eq_some.mpr (.inr ⟨rfl, x, rfl, designFields_encode (inRange x rfl)⟩)
  case sequence =>
    rcases v with _ | i
    · exact decodeSequence_eq_some.mpr (.inl ⟨rfl, rfl⟩)
    · exact decodeSequence_eq_some.mpr (.inr ⟨i, rfl, byteAt_of_fin rfl⟩)
  case foil =>
    rcases f with _ | x
    · exact decodeFoil_eq_some.mpr (.inl ⟨rfl, rfl⟩)
    · exact decodeFoil_eq_some.mpr (.inr ⟨rfl, x, rfl, foilFields_encode (inRange x rfl)⟩)
  case job =>
    have same := Job.ofData_encode good
    exact (decodeJob_inRange (same.symm ▸ good)).trans (congrArg some same)
  case item =>
    obtain ⟨c, written, same⟩ := b.write_encode inRange i
    exact ⟨c, written, same, fun j differ => StationCfg.encode_write_other written differ⟩

end Sys2Proof.Machine

/-! ## WRITE DESIGN, WRITE LANE, WRITE SEQUENCE, WRITE FOIL MAP (R29 to R32), READ (R39) and WRITE STATION (R37) -/

namespace Sys2Proof.Machine

/-! ### Writes of one entry of the standby bank (R29) -/

section
variable {α : Type} {n : Nat} {decode : List Byte → Option α} {write : Fin n → α → Bank → Bank}
  {status : List Byte → Status} {q : Req} {s : State}

theorem writeStandby_armed (armed : s.jobs.arm.isSome = true) :
    writeStandby n decode write status q s = reply s .armed := if_pos armed

theorem writeStandby_otherBank (unarmed : s.jobs.arm = none) (bank : q.bank ≠ 1) :
    writeStandby n decode write status q s = reply s .badValue := by
  have other : q.bank ≠ standbySelector := bank
  rw [writeStandby, if_neg (by simp [unarmed]), if_pos other]

/-- With no changeover armed and STANDBY selected the entry number and the data decide (R29). -/
theorem writeStandby_standby (unarmed : s.jobs.arm = none) (bank : q.bank = 1) :
    writeStandby n decode write status q s = match reqNumber q n with
      | none => reply s .badIndex
      | some i => match decode q.data with
        | none => reply s .badValue
        | some v => reply (s.setStandby (write i v s.standby)) (status q.data) := by
  have same : ¬q.bank ≠ standbySelector := not_not.mpr bank
  exact (if_neg (by simp [unarmed])).trans (if_neg same)

/-- A request whose act is a write of one entry, behind the test of its data. -/
theorem writesEntry {h : Header} {need : Nat} {act : Act} (taken : s.takes h q)
    (act' : act q s = needData need (writeStandby n decode write status) q s) (code : Byte) :
    s.WritesEntry h code q (.next (s.request h code q act)) n need (decode q.data) write (status q.data) := by
  refine ⟨fun short => ?short, fun enough armed => ?armed, fun enough unarmed bank => ?otherBank,
    fun enough unarmed bank past => ?past, fun i enough unarmed bank entry => ?written⟩
  case short => exact next_of_reply taken (act'.trans (needData_short short _ s)) code
  case armed =>
    exact next_of_reply taken (act'.trans ((needData_enough enough _ s).trans (writeStandby_armed armed))) code
  case otherBank =>
    exact next_of_reply taken (act'.trans ((needData_enough enough _ s).trans (writeStandby_otherBank unarmed bank))) code
  case past =>
    refine next_of_reply taken (act'.trans ((needData_enough enough _ s).trans ?_)) code
    rw [writeStandby_standby unarmed bank, reqNumber_past past]
  case written =>
    have decides := act'.trans ((needData_enough enough _ s).trans (writeStandby_standby unarmed bank))
    rw [reqNumber_of_eq entry] at decides
    cases decoded : decode q.data with
    | none =>
      rw [decoded] at decides
      exact next_of_reply taken decides code
    | some v =>
      rw [decoded] at decides
      exact next_of_reply taken decides code

end

/-! ### What the data of the writes hold -/

theorem code_iff_of_kind (b : Byte) (k : Kind) :
    b = k.code ↔ b.toNat = (match k with | .foil => 0 | .foilEmboss => 1 | .embossWarm => 2 | .embossCold => 3) := by
  rw [byte_eq_iff]
  cases k <;> rfl

theorem code_iff_of_mode (b : Byte) (m : LaneMode) :
    b = m.code ↔ b.toNat = (match m with | .off => 0 | .fixed => 1 | .alternate => 2 | .sequence => 3) := by
  rw [byte_eq_iff]
  cases m <;> rfl

theorem isFoil_iff (k : Kind) : k.isFoil = true ↔ k = .foil ∨ k = .foilEmboss := by
  cases k <;> simp [Kind.isFoil]

theorem flagAt_eq_iff {bs : List Byte} {off : Nat} {b : Bool} :
    flagAt bs off = b ↔ (b = true ↔ (byteAt bs off).toNat ≠ 0) := by
  have zero : byteAt bs off = 0 ↔ (byteAt bs off).toNat = 0 := byte_eq_iff
  rw [flagAt, ne_eq, ← zero]
  cases b <;> simp

/-- Settles O31: one test after another for each of the four writes, and each decoder field by field. -/
theorem standbyWrites : Obligations.StandbyWrites := by
  refine ⟨fun s h q taken => ⟨?design, ?lane, ?sequence, ?foil⟩, fun s b => ⟨rfl, rfl, rfl, rfl⟩, fun d => ?data⟩
  case design => exact writesEntry (status := alwaysDone) (act := actWriteDesign) taken rfl 0x01
  case lane => exact writesEntry (status := laneStatus) taken rfl 0x02
  case sequence => exact writesEntry (status := alwaysDone) taken rfl 0x03
  case foil => exact writesEntry (status := alwaysDone) (act := actWriteFoilMap) taken rfl 0x04
  case data =>
    intro at'
    have undefined : byteAt d 0 = absent ↔ at' 0 = 255 := byte_eq_iff
    have defined : byteAt d 0 = 0 ↔ at' 0 = 0 := byte_eq_iff
    refine ⟨fun v => ?_, fun x => ?_, fun v => ?_, fun v => ?_⟩
    · rw [decodeDesign_eq_some, undefined, defined]
      refine or_congr_right (and_congr_right fun _ => exists_congr fun x => and_congr_right fun _ => ⟨fun f => ?_, ?_⟩)
      · have web := f.web
        simp only [isFoil_iff] at web
        exact ⟨(code_iff_of_kind _ _).mp f.kind, f.segment, web, f.offset, f.offsetTop, f.length, f.lengthLeast,
          f.lengthTop, f.pressure, flagAt_eq_iff.mp f.inhibit⟩
      · rintro ⟨kind, segment, web, offset, offsetTop, length, lengthLeast, lengthTop, pressure, inhibit⟩
        refine ⟨(code_iff_of_kind _ _).mpr kind, segment, ?_, offset, offsetTop, length, lengthLeast, lengthTop, pressure,
          flagAt_eq_iff.mpr inhibit⟩
        simpa only [isFoil_iff] using web
    · rw [decodeLane_eq_some]
      refine ⟨fun f => ?_, ?_⟩
      · have trim := f.trim
        rw [clampInt_eq (by decide)] at trim
        exact ⟨(code_iff_of_mode _ _).mp f.mode, f.slotA, f.slotB, f.seqStart, f.seqLen, f.seqLeast, f.seqTop, trim,
          flagAt_eq_iff.mp f.hold, f.lo, f.loLeast, f.loTop, f.hi, f.hiLeast, f.hiTop, f.nsoak, f.ndrift, f.ndriftTop,
          f.onB, f.index⟩
      · rintro ⟨mode, slotA, slotB, seqStart, seqLen, seqLeast, seqTop, trim, hold, lo, loLeast, loTop, hi, hiLeast,
          hiTop, nsoak, ndrift, ndriftTop, onB, index⟩
        rw [← clampInt_eq (by decide)] at trim
        exact ⟨(code_iff_of_mode _ _).mpr mode, slotA, slotB, seqStart, seqLen, seqLeast, seqTop, trim,
          flagAt_eq_iff.mpr hold, lo, loLeast, loTop, hi, hiLeast, hiTop, nsoak, ndrift, ndriftTop, onB, index⟩
    · rw [decodeSequence_eq_some, undefined]
    · rw [decodeFoil_eq_some, undefined, defined]
      refine or_congr_right (and_congr_right fun _ => exists_congr fun x => and_congr_right fun _ => ⟨fun f => ?_, ?_⟩)
      · exact ⟨f.first, f.last, f.ordered, f.fm, f.fmTop, f.gmin, f.gminTop, f.low, f.lowTop⟩
      · rintro ⟨first, last, ordered, fm, fmTop, gmin, gminTop, low, lowTop⟩
        exact ⟨first, last, ordered, fm, fmTop, gmin, gminTop, low, lowTop⟩

/-! ### Items of the station configuration by number -/

theorem Item.ofNat_isSome_iff (n : Nat) : (Item.ofNat n).isSome = true ↔ n ≤ 37 := by
  have finOf_isSome (n v : Nat) : (finOf n v).isSome = true ↔ v < n := by
    unfold finOf
    split <;> simp [*]
  unfold Item.ofNat
  split_ifs
  all_goals
    simp only [Option.isSome_some, Option.isSome_none, Option.isSome_map, finOf_isSome, Bool.false_eq_true, true_iff, false_iff]
    omega

theorem Item.ofNat_past {n : Nat} (past : 38 ≤ n) : Item.ofNat n = none := by
  have refused : ¬(Item.ofNat n).isSome = true := by
    rw [Item.ofNat_isSome_iff]
    omega
  simpa using refused

/-! ### READ -/

section
variable {s : State} {q : Req} {n : Fin 2}

/-- The bank that a selector names (R39). -/
theorem Jobs.selected_of (j : Jobs) {sel : Byte} (named : (sel = 0 ∧ n = j.active) ∨ (sel = 1 ∧ n ≠ j.active)) :
    j.selected sel = some n := by
  rcases named with ⟨rfl, rfl⟩ | ⟨rfl, other⟩
  · rfl
  · have standby : n = j.standbyNo := by
      unfold Jobs.standbyNo
      split <;> omega
    rw [standby]
    rfl

theorem Jobs.selected_none (j : Jobs) {sel : Byte} (active : sel ≠ 0) (standby : sel ≠ 1) : j.selected sel = none := by
  rw [Jobs.selected, if_neg active, if_neg standby]

theorem actRead_bank (table : q.table ≠ 5) : actRead q s = readBank q s := if_neg table

theorem actRead_station (table : q.table = 5) : actRead q s = readStation q s := if_pos table

theorem readBank_noBank (none : s.jobs.selected q.bank = none) : readBank q s = reply s .badValue := by
  rw [readBank, none]

theorem readBank_noTable (past : 4 < q.table.toNat) : readBank q s = reply s .badValue := by
  have past' : Table.job.toNat < q.table.toNat := past
  unfold readBank
  split
  · rfl
  · rw [if_pos past']

theorem readBank_table (bank : s.jobs.selected q.bank = some n) (known : q.table.toNat ≤ 4) :
    readBank q s = match s.jobs.banks[n].readEntry q.table q with
      | none => reply s .badIndex
      | some e => (s, .done ([byte n.val, q.index] ++ e)) := by
  have known' : ¬Table.job.toNat < q.table.toNat := Nat.not_lt.mpr known
  rw [readBank, bank]
  exact if_neg known'

/-- READ of a table of `size` entries: past its end, or the entry (R39, R161). -/
theorem actRead_entries {size : Nat} {entry : Fin size → List Byte} {h : Header} (taken : s.takes h q)
    (bank : s.jobs.selected q.bank = some n) (known : q.table.toNat ≤ 4)
    (read : s.jobs.banks[n].readEntry q.table q = (reqNumber q size).map entry) :
    (size ≤ q.index.toNat → exec (.read h q) s = .next (s.answered h 0x06 .badIndex []))
      ∧ ∀ i : Fin size, q.index.toNat = i.val → exec (.read h q) s =
          .next (s.answered h 0x06 .done ([BitVec.ofNat 8 n.val, q.index] ++ entry i)) := by
  have other : q.table ≠ 5 := by
    intro five
    rw [five] at known
    exact absurd known (by decide)
  have reads := (actRead_bank other).trans (readBank_table bank known)
  rw [read] at reads
  refine ⟨fun past => ?_, fun i inside => ?_⟩
  · rw [reqNumber_past past] at reads
    exact next_of_reply taken reads 0x06
  · rw [reqNumber_of_eq inside] at reads
    exact next_of_data taken reads 0x06

theorem readStation_past (past : 38 ≤ q.index.toNat) : readStation q s = reply s .badIndex := by
  rw [readStation, Item.ofNat_past past]

theorem readStation_item {i : Item} (item : Item.ofNat q.index.toNat = some i) :
    readStation q s = (s.drawFree 1, .done ([Config.freeByte s.freeCount, q.index] ++ s.jobs.cfg.encode i)) := by
  rw [readStation, item]

end

theorem field_one (bs : List Byte) (off : Nat) : field bs off 1 = (byteAt bs off).toNat := by
  have first : (bs.drop off).take 1 = bs[off]?.toList := by rw [List.take_one, List.head?_drop]
  rw [field, first, byteAt, List.getD_eq_getElem?_getD]
  cases bs[off]? with
  | none => rfl
  | some b => simp [beNat]

/-- Settles O33: the selector, the table and the entry number are tested in this order, and each record has its fields in
their places. -/
theorem readAnswersTheEntry : Obligations.ReadAnswersTheEntry := by
  refine ⟨fun s h q taken => ⟨fun table active standby => ?noBank, fun past => ?noTable, fun n named =>
    have bank := s.jobs.selected_of named
    ⟨fun table => ?design, fun table => ?lane, fun table => ?sequence, fun table => ?foil, fun table => ?job⟩,
    fun table => ⟨fun past => ?noItem, fun i item => ⟨Config.freeByte s.freeCount, ?item⟩⟩⟩, rfl, rfl,
    fun x inRange => ?designForm, fun x inRange => ?laneForm, fun v => ?sequenceForm, fun x inRange => ?foilForm,
    fun x good => ?jobForm, fun c inRange => ?stationForm⟩
  case noBank =>
    exact next_of_reply taken ((actRead_bank table).trans (readBank_noBank (s.jobs.selected_none active standby))) 0x06
  case noTable =>
    have other : q.table ≠ 5 := by
      intro five
      rw [five] at past
      exact absurd past (by decide)
    exact next_of_reply taken ((actRead_bank other).trans (readBank_noTable (by omega))) 0x06
  case design => exact actRead_entries taken bank (by rw [table]; decide) (by rw [table]; rfl)
  case lane => exact actRead_entries taken bank (by rw [table]; decide) (by rw [table]; rfl)
  case sequence => exact actRead_entries taken bank (by rw [table]; decide) (by rw [table]; rfl)
  case foil => exact actRead_entries taken bank (by rw [table]; decide) (by rw [table]; rfl)
  case job =>
    have reads := actRead_entries (size := 1) (entry := fun _ => encodeJob s.jobs.banks[n].job) taken bank
      (by rw [table]; decide) (by rw [table]; rfl)
    exact ⟨reads.1, fun zero => reads.2 0 (by rw [zero]; rfl)⟩
  case noItem => exact next_of_reply taken ((actRead_station table).trans (readStation_past past)) 0x06
  case item => exact next_of_data taken ((actRead_station table).trans (readStation_item item)) 0x06
  case designForm =>
    have f := designFields_encode inRange
    refine ⟨rfl, rfl, ?_, f.segment, fun w named => byteAt_of_fin (congrArg optByte named),
      fun none => congrArg optByte none, f.offset, f.length, f.pressure, rfl⟩
    rw [f.kind]
    cases x.kind <;> rfl
  case laneForm =>
    have f := laneFields_encode inRange
    obtain ⟨onB, index⟩ := laneProgress_encode inRange
    obtain ⟨-, -, -, least, most, -⟩ := inRange
    refine ⟨rfl, ?_, f.slotA, f.slotB, f.seqStart, f.seqLen, sfield_of_beInt rfl (by omega) (by omega), rfl, f.lo, f.hi,
      f.nsoak, f.ndrift, onB, index⟩
    rw [f.mode]
    cases x.mode <;> rfl
  case sequenceForm => cases v <;> rfl
  case foilForm =>
    have f := foilFields_encode inRange
    exact ⟨rfl, rfl, f.first, f.last, f.fm, f.gmin, f.low⟩
  case jobForm =>
    have same := Job.ofData_encode good
    exact ⟨rfl, congrArg Job.lr same, congrArg Job.w same, congrArg Job.cmax same, congrArg Job.tol same,
      congrArg Job.ncoast same, congrArg Job.vmin same⟩
  case stationForm =>
    obtain ⟨-, -, -, dLeast, dMost, lcMost, lfMost, lminMost, -, -, -, -, -, ntmpMost, -, jumpMost⟩ := inRange
    have station (v : Option Byte) : [encodeStation v] = [v.getD 0xFF] := by cases v <;> rfl
    exact ⟨⟨station _, fun k => station _, fun k => station _⟩, ⟨rfl, field_of_be rfl (by omega)⟩,
      ⟨rfl, field_of_be rfl (by omega), field_of_be rfl (by omega), field_of_be rfl (by omega)⟩,
      by simp [StationCfg.encode, be], ⟨rfl, field_of_be rfl (by omega)⟩, ⟨rfl, field_of_be rfl (by omega)⟩, fun k => rfl⟩

/-! ### WRITE STATION -/

section
variable {s : State} {q : Req}

theorem stationNeed_past (past : 38 ≤ q.index.toNat) : stationNeed q = 0 := by
  rw [stationNeed, Item.ofNat_past past]
  rfl

theorem stationNeed_item {i : Item} (item : Item.ofNat q.index.toNat = some i) : stationNeed q = i.need := by
  rw [stationNeed, item]
  rfl

theorem actWriteStation_short {i : Item} (item : Item.ofNat q.index.toNat = some i) (short : q.data.length < i.need) :
    actWriteStation q s = reply s .badValue := by
  rw [actWriteStation, needData_short (by rw [stationNeed_item item]; exact short)]

/-- With data enough the planner's state is tested before the item number and the value (R37, R161). -/
theorem actWriteStation_enough (data : stationNeed q ≤ q.data.length) : actWriteStation q s =
    if s.planner.st = .stamping ∨ s.planner.st = .draining then reply s .busy
    else match Item.ofNat q.index.toNat with
      | none => reply s .badIndex
      | some i => match s.jobs.cfg.write i q.data with
        | none => reply s .badValue
        | some c => reply (s.setJobs { s.jobs with cfg := c }) .done := needData_enough data _ s

theorem actWriteStation_past (past : 38 ≤ q.index.toNat) : actWriteStation q s =
    reply s (if s.planner.st = .stamping ∨ s.planner.st = .draining then .busy else .badIndex) := by
  rw [actWriteStation_enough (by rw [stationNeed_past past]; exact Nat.zero_le _), Item.ofNat_past past]
  split <;> rfl

theorem actWriteStation_busy {i : Item} (item : Item.ofNat q.index.toNat = some i) (data : i.need ≤ q.data.length)
    (busy : s.planner.st = .stamping ∨ s.planner.st = .draining) : actWriteStation q s = reply s .busy := by
  rw [actWriteStation_enough (by rw [stationNeed_item item]; exact data), if_pos busy]

theorem actWriteStation_item {i : Item} (item : Item.ofNat q.index.toNat = some i) (data : i.need ≤ q.data.length)
    (idle : ¬(s.planner.st = .stamping ∨ s.planner.st = .draining)) :
    actWriteStation q s = match s.jobs.cfg.write i q.data with
      | none => reply s .badValue
      | some c => reply (s.setJobs { s.jobs with cfg := c }) .done := by
  rw [actWriteStation_enough (by rw [stationNeed_item item]; exact data), if_neg idle, item]

end

/-- Settles O34: data, BUSY, item number and value in this order; the item numbers one range after another. -/
theorem writeStation : Obligations.WriteStation := by
  refine ⟨fun s h q taken => ⟨fun past => ?past, fun i item => ⟨fun short => ?short, fun data busy => ?busy,
    fun data idle bad => ?refused, fun c data idle good => ?written⟩⟩, Item.ofNat_isSome_iff,
    ⟨rfl, by decide, by decide, rfl, rfl, rfl, rfl, rfl, by decide⟩, fun i => ?need,
    fun c d => ⟨rfl, fun k => rfl, fun k => rfl, rfl, rfl, ?nack, rfl, rfl, fun k => rfl⟩⟩
  case past => exact next_of_reply taken (actWriteStation_past past) 0x07
  case short => exact next_of_reply taken (actWriteStation_short item short) 0x07
  case busy => exact next_of_reply taken (actWriteStation_busy item data busy) 0x07
  case refused =>
    refine next_of_reply taken ?_ 0x07
    rw [actWriteStation_item item data idle, bad]
  case written =>
    refine next_of_reply taken ?_ 0x07
    rw [actWriteStation_item item data idle, good]
  case need => cases i <;> rfl
  case nack =>
    rw [StationCfg.write, field_one]

end Sys2Proof.Machine

/-! ## ARM CHANGEOVER (R41), POLL EVENTS (R177), FETCH LOG (R170) and SNAPSHOT (R162) -/

namespace Sys2Proof.Machine

/-! ### ARM CHANGEOVER -/

section
variable {s : State} {q : Req}

theorem decodeTarget_unknown {d : List Byte} (repeat' : byteAt d 0 ≠ 0) (next : byteAt d 0 ≠ 1) :
    decodeTarget d = none := by
  rw [decodeTarget, if_neg repeat', if_neg next]

theorem decodeTarget_known {d : List Byte} {t : Target}
    (target : (byteAt d 0 = 0 ∧ t = .atRepeat (BitVec.ofNat 32 (field d 1 4))) ∨ (byteAt d 0 = 1 ∧ t = .next)) :
    decodeTarget d = some t := by
  rcases target with ⟨zero, rfl⟩ | ⟨one, rfl⟩
  · rw [decodeTarget, if_pos zero]
  · have other : byteAt d 0 ≠ 0 := by
      rw [one]
      decide
    rw [decodeTarget, if_neg other, if_pos one]

theorem actArmChangeover_unknown (data : 5 ≤ q.data.length) (unknown : decodeTarget q.data = none) :
    actArmChangeover q s = reply s .badValue := by
  rw [actArmChangeover, needData_enough data, unknown]

theorem actArmChangeover_target {t : Target} (data : 5 ≤ q.data.length) (known : decodeTarget q.data = some t) :
    actArmChangeover q s = match s.standby.validate s.jobs.cfg with
      | some f => (s, .invalid f)
      | none => reply (s.armChangeover t) .done := by
  rw [actArmChangeover, needData_enough data, known] <;> rfl

/-- With no plan being stamped the changeover is taken at once, and the planner stands in READY (R41, R43). -/
theorem armChangeover_now (t : Target) (st : s.planner.st = .idle ∨ s.planner.st = .ready) :
    s.armChangeover t = s.takeChangeover.setPlanner { s.planner with st := .ready } := by
  unfold State.armChangeover
  rcases st with st | st <;> rw [st] <;> rfl

theorem armChangeover_later (t : Target) (st : s.planner.st = .stamping ∨ s.planner.st = .draining) :
    s.armChangeover t = s.setJobs { s.jobs with arm := some t } := by
  unfold State.armChangeover
  rcases st with st | st <;> rw [st]

end

/-- Settles O36: the target is decoded before the standby bank is validated, and the planner's state decides the rest. -/
theorem armChangeover : Obligations.ArmChangeover := by
  refine fun s h q taken => ⟨fun short => ?short, fun data repeat' next => ?unknown, fun t data target =>
    have decides := actArmChangeover_target (s := s) data (decodeTarget_known target)
    ⟨fun k i bad => ?invalid, fun good st => ?now, fun good st => ?later⟩⟩
  case short => exact next_of_reply taken (needData_short short _ s) 0x08
  case unknown => exact next_of_reply taken (actArmChangeover_unknown data (decodeTarget_unknown repeat' next)) 0x08
  case invalid =>
    rw [bad] at decides
    exact next_of_data taken decides 0x08
  case now =>
    rw [good] at decides
    rw [← armChangeover_now t st]
    exact next_of_reply taken decides 0x08
  case later =>
    rw [good] at decides
    rw [← armChangeover_later t st]
    exact next_of_reply taken decides 0x08

/-! ### POLL EVENTS -/

/-- Members taken one after another, whichever each time, are all the members (log 13). -/
theorem freeOrder_perm {α : Type} (n i : Nat) (xs : List α) : (freeOrder n i xs).Perm xs := by
  induction n generalizing i xs with
  | zero => exact List.Perm.refl _
  | succ n ih =>
    match xs with
    | [] => exact List.Perm.refl _
    | [x] => exact List.Perm.refl _
    | x :: y :: xs =>
      set l := x :: y :: xs with list
      set j := Config.freeIndex i % l.length with place
      have step : freeOrder (n + 1) i l = (l.drop j).take 1 ++ freeOrder n (i + 1) (l.take j ++ l.drop (j + 1)) := rfl
      have split' : (l.drop j).take 1 ++ l.drop (j + 1) = l.drop j := by
        rw [← List.drop_drop, List.take_append_drop]
      have moved : ((l.drop j).take 1 ++ (l.take j ++ l.drop (j + 1))).Perm l := by
        have back : l.take j ++ ((l.drop j).take 1 ++ l.drop (j + 1)) = l := by rw [split', List.take_append_drop]
        conv_rhs => rw [← back]
        rw [← List.append_assoc, ← List.append_assoc]
        exact List.perm_append_comm.append_right _
      rw [step]
      exact ((ih _ _).append_left _).trans moved

/-- Settles O45: the winner's group or its substitute, the waiting kind, and the kinds in service in the order drawn. -/
theorem pollEvents : Obligations.PollEvents := by
  intro s h q taken a group
  refine ⟨s.winnerGroup, freeOrder a.service.length (s.freeCount + 5) a.service, freeOrder_perm _ _ _,
    fun k wins => ?wins, fun none => ?none, ?answer⟩
  case wins =>
    have wins' : s.attention.winner = some k := wins
    rw [State.winnerGroup, wins']
    rfl
  case none =>
    have none' : s.attention.winner = Option.none := none
    rw [State.winnerGroup, none']
    exact ⟨rfl, rfl⟩
  case answer =>
    rw [Nat.add_assoc]
    refine next_of_data taken ?_ 0x17
    have waiting : optByte a.waiting = (match a.waiting with | none => 0xFF | some k => BitVec.ofNat 8 k.val) := by
      cases a.waiting <;> rfl
    have act : actPollEvents q s = (s.setFreeCount (s.freeCount + (5 + a.service.length)),
      { status := .done, data := s.winnerGroup ++ [optByte a.waiting] ++ s.serviceGroups }) := rfl
    rw [act, waiting]
    rfl

/-! ### FETCH LOG -/

section
variable {s : State} {q : Req}

theorem actFetchLog_tooMany (data : 1 ≤ q.data.length) (many : 4 < (byteAt q.data 0).toNat) :
    actFetchLog q s = reply s .badValue := by
  rw [actFetchLog, needData_enough data]
  exact if_pos many

theorem actFetchLog_oldest (data : 1 ≤ q.data.length) (few : (byteAt q.data 0).toNat ≤ 4) :
    actFetchLog q s =
      (s.setReport { s.report with log := s.report.log.drop (byteAt q.data 0).toNat },
        { status := .done, data := be 2 (s.report.log.drop (byteAt q.data 0).toNat).length
            ++ (s.report.log.take (byteAt q.data 0).toNat).flatMap LogRecord.encode }) := by
  rw [actFetchLog, needData_enough data]
  exact if_neg (Nat.not_lt.mpr few)

end

/-- The lane byte of a record: the lane and three flags, the other bits 0 (R182). -/
theorem laneByte_bits (l : Fin 8) (synth first gap : Bool) :
    let b := byte (l.val + (if synth then 16 else 0) + (if first then 32 else 0) + (if gap then 64 else 0))
    b.toNat % 8 = l.val ∧ b.getLsbD 4 = synth ∧ b.getLsbD 5 = first ∧ b.getLsbD 6 = gap ∧ b.getLsbD 3 = false
      ∧ b.getLsbD 7 = false := by
  revert l synth first gap
  decide

/-- Settles O47: the records that go out are the oldest of the log, each in the layout of R182. -/
theorem fetchLog : Obligations.FetchLog := by
  refine ⟨fun s h q taken => ⟨fun short => ?short, fun data many => ?tooMany, fun data few => ?oldest⟩,
    fun r least most => ?layout⟩
  case short => exact next_of_reply taken (needData_short short _ s) 0x18
  case tooMany => exact next_of_reply taken (actFetchLog_tooMany data many) 0x18
  case oldest => exact next_of_data taken (actFetchLog_oldest data few) 0x18
  case layout =>
    obtain ⟨lane, synth, first, gap, three, seven⟩ := laneByte_bits r.lane r.synth r.first r.gap
    obtain ⟨outcome, reason⟩ := outcomeNumbers_lt (some r.decision)
    have codes : r.decision.codes = outcomeNumbers (some r.decision) := (outcomeNumbers_eq (some r.decision)).symm
    have seq : r.seq.toNat < 65536 := r.seq.isLt
    refine ⟨rfl, field_of_be rfl seq, field_of_word rfl, lane, synth, first, gap, three, seven,
      fun d design => byteAt_of_fin (congrArg optByte design), fun none => congrArg optByte none, ?_,
      sfield_of_beInt rfl least most, field_of_word rfl⟩
    refine byteAt_of_byte ?_ (by omega)
    rw [← codes]
    rfl

/-! ### SNAPSHOT -/

section
variable {s : State} {q : Req}

theorem actSnapshot_enough (data : 1 ≤ q.data.length) : actSnapshot q s =
    if byteAt q.data 0 = 0 then (s, .done s.snapshot1)
    else if byteAt q.data 0 = 1 then (s, .done (s.snapshot2 false))
    else if byteAt q.data 0 = 2 then (s, .done (s.snapshot2 true))
    else reply s .badValue := needData_enough data _ s

theorem actSnapshot_unknown (data : 1 ≤ q.data.length) (past : 2 < (byteAt q.data 0).toNat) :
    actSnapshot q s = reply s .badValue := by
  have other (v : Byte) (small : v.toNat ≤ 2) : byteAt q.data 0 ≠ v := by
    rintro same
    rw [same] at past
    omega
  rw [actSnapshot_enough data, if_neg (other 0 (by decide)), if_neg (other 1 (by decide)), if_neg (other 2 (by decide))]

theorem actSnapshot_part1 (data : 1 ≤ q.data.length) (part : byteAt q.data 0 = 0) :
    actSnapshot q s = (s, .done s.snapshot1) := by
  rw [actSnapshot_enough data, if_pos part]

theorem actSnapshot_low (data : 1 ≤ q.data.length) (part : byteAt q.data 0 = 1) :
    actSnapshot q s = (s, .done (s.snapshot2 false)) := by
  rw [actSnapshot_enough data, part]
  rfl

theorem actSnapshot_high (data : 1 ≤ q.data.length) (part : byteAt q.data 0 = 2) :
    actSnapshot q s = (s, .done (s.snapshot2 true)) := by
  rw [actSnapshot_enough data, part]
  rfl

end

/-- Settles O49: the part's code chooses among three payloads, each the items of section 10.5 in their order. -/
theorem snapshot : Obligations.Snapshot := by
  intro s h q taken armed heat link part1 part2
  have first : s.snapshot1 = part1 := by
    have arm : armBytes s.jobs.arm = armed.1 :: be 4 armed.2 := by
      rcases e : s.jobs.arm with _ | ⟨n⟩ | _ <;> simp only [armed, e, armBytes]
    simp only [part1, State.snapshot1, arm, List.append_assoc, List.cons_append, List.nil_append]
    rfl
  have second (high : Bool) : s.snapshot2 high = part2 (Config.groupCode high) (groupLanes high) := rfl
  refine ⟨rfl, rfl, rfl, fun short => ?short, fun data past => ?unknown, fun data part => ?part1,
    fun data part => ⟨Config.groupCode false, ?low⟩, fun data part => ⟨Config.groupCode true, ?high⟩⟩
  case short => exact next_of_reply taken (needData_short short _ s) 0x1A
  case unknown => exact next_of_reply taken (actSnapshot_unknown data past) 0x1A
  case part1 =>
    rw [← first]
    exact next_of_data taken (actSnapshot_part1 data part) 0x1A
  case low => exact next_of_data taken (actSnapshot_low data part) 0x1A
  case high => exact next_of_data taken (actSnapshot_high data part) 0x1A

end Sys2Proof.Machine

/-! ## Validation (R40) -/

namespace Sys2Proof.Machine

/-! ### The first member that fails -/

/-- In a list in increasing order the first member that meets a test is the least one. -/
theorem find?_eq_some_iff_of_pairwise {α : Type} {r : α → α → Prop} (asymm : ∀ a b, r a b → ¬r b a) {l : List α}
    (sorted : l.Pairwise r) {p : α → Bool} {x : α} :
    l.find? p = some x ↔ x ∈ l ∧ p x = true ∧ ∀ y ∈ l, r y x → p y = false := by
  induction sorted with
  | nil => simp
  | @cons a l below _ ih =>
    cases first : p a with
    | true =>
      rw [List.find?_cons_of_pos first]
      constructor
      · rintro ⟨⟩
        refine ⟨List.mem_cons_self, first, fun y member before => ?_⟩
        rcases List.mem_cons.mp member with rfl | behind
        · exact absurd before (asymm _ _ before)
        · exact absurd before (asymm _ _ (below y behind))
      · rintro ⟨member, -, least⟩
        rcases List.mem_cons.mp member with rfl | behind
        · rfl
        · have none := least a List.mem_cons_self (below x behind)
          rw [first] at none
          cases none
    | false =>
      rw [List.find?_cons_of_neg (by simp [first]), ih]
      simp only [List.mem_cons, forall_eq_or_imp]
      constructor
      · exact fun ⟨member, met, least⟩ => ⟨.inr member, met, fun _ => first, least⟩
      · rintro ⟨rfl | member, met, -, least⟩
        · rw [first] at met
          cases met
        · exact ⟨member, met, least⟩

section
variable {n : Nat} {test : Fin n → Bool} {ok : Fin n → Prop} (tests : ∀ k, test k = true ↔ ok k)
include tests

theorem find?_finRange_eq_none : (List.finRange n).find? (fun k => !test k) = none ↔ ∀ k, ok k := by
  simp [← tests]

theorem find?_finRange_eq_some {k : Fin n} :
    (List.finRange n).find? (fun k => !test k) = some k ↔ FirstFailing ok k := by
  rw [find?_eq_some_iff_of_pairwise (r := (· < ·)) (fun _ _ => lt_asymm) (List.pairwise_lt_finRange n)]
  simp [FirstFailing, ← tests]

end

theorem firstLane_eq_none {test : Fin 8 → Bool} {ok : Fin 8 → Prop} (tests : ∀ k, test k = true ↔ ok k) :
    firstLane test = none ↔ ∀ l, ok l := by
  rw [firstLane, Option.map_eq_none_iff]
  exact find?_finRange_eq_none tests

theorem firstLane_eq_some {test : Fin 8 → Bool} {ok : Fin 8 → Prop} (tests : ∀ k, test k = true ↔ ok k) {i : Nat} :
    firstLane test = some i ↔ ∃ l, FirstFailing ok l ∧ i = l.val := by
  simp only [firstLane, Option.map_eq_some_iff, eq_comm (a := i)]
  exact exists_congr fun l => and_congr_left fun _ => find?_finRange_eq_some tests

/-- The first of eight checks that fails, with its index. -/
theorem findSome?_checks8 (f : Nat → Option Nat) (check index : Nat) :
    checks8.findSome? (fun c => (f c).map fun i => (c, i)) = some (check, index) ↔
      (check = 1 ∧ f 1 = some index)
        ∨ (check = 2 ∧ f 1 = none ∧ f 2 = some index)
        ∨ (check = 3 ∧ (f 1 = none ∧ f 2 = none) ∧ f 3 = some index)
        ∨ (check = 4 ∧ ((f 1 = none ∧ f 2 = none) ∧ f 3 = none) ∧ f 4 = some index)
        ∨ (check = 5 ∧ (((f 1 = none ∧ f 2 = none) ∧ f 3 = none) ∧ f 4 = none) ∧ f 5 = some index)
        ∨ (check = 6 ∧ ((((f 1 = none ∧ f 2 = none) ∧ f 3 = none) ∧ f 4 = none) ∧ f 5 = none) ∧ f 6 = some index)
        ∨ (check = 7 ∧ (((((f 1 = none ∧ f 2 = none) ∧ f 3 = none) ∧ f 4 = none) ∧ f 5 = none) ∧ f 6 = none)
            ∧ f 7 = some index)
        ∨ (check = 8 ∧ ((((((f 1 = none ∧ f 2 = none) ∧ f 3 = none) ∧ f 4 = none) ∧ f 5 = none) ∧ f 6 = none)
            ∧ f 7 = none) ∧ f 8 = some index) := by
  simp only [checks8, List.findSome?_cons, List.findSome?_nil]
  cases f 1 with
  | some i => simp [eq_comm]
  | none =>
  cases f 2 with
  | some i => simp [eq_comm]
  | none =>
  cases f 3 with
  | some i => simp [eq_comm]
  | none =>
  cases f 4 with
  | some i => simp [eq_comm]
  | none =>
  cases f 5 with
  | some i => simp [eq_comm]
  | none =>
  cases f 6 with
  | some i => simp [eq_comm]
  | none =>
  cases f 7 with
  | some i => simp [eq_comm]
  | none =>
  cases f 8 with
  | some i => simp [eq_comm]
  | none => simp

/-! ### The references of a lane -/

theorem Bank.sequenceAt_eq (b : Bank) (x : Lane) (i : Nat) :
    b.sequenceAt x i = (b.seq[x.seqStart.val + i]?).getD none := by
  unfold Bank.sequenceAt finOf
  split
  next inside => rw [Vector.getElem?_eq_getElem inside]; rfl
  next past => rw [Vector.getElem?_eq_none (Nat.not_lt.mp past)]; rfl

theorem Bank.record_isSome_iff (b : Bank) (r : Option (Fin 64)) :
    (b.record r).isSome = true ↔ ∃ (d : Fin 64) (x : Design), r = some d ∧ b.designs[d] = some x := by
  cases r with
  | none => simp [Bank.record]
  | some d => simp [Bank.record, Option.isSome_iff_exists]

/-! ### The checks, one by one -/

section
variable (b : Bank) (cfg : StationCfg)

/-- A lane references defined designs only. -/
def Bank.RefsDefined (l : Fin 8) : Prop :=
  ∀ r ∈ b.references b.lanes[l], ∃ (d : Fin 64) (x : Design), r = some d ∧ b.designs[d] = some x

/-- A design that a lane references ends within the repeat. -/
def Bank.DesignFits (d : Fin 64) : Prop :=
  ∀ (l : Fin 8) (x : Design), some d ∈ b.references b.lanes[l] → b.designs[d] = some x → x.offset + x.length ≤ b.job.lr

/-- Every foil design of a lane has a present web that covers the lane. -/
def Bank.FoilServed (l : Fin 8) : Prop :=
  ∀ (d : Fin 64) (x : Design), some d ∈ b.references b.lanes[l] → b.designs[d] = some x →
    x.kind = .foil ∨ x.kind = .foilEmboss →
    ∃ (w : Fin 4) (f : FoilWeb), x.web = some w ∧ b.foil[w] = some f ∧ f.first ≤ l ∧ l ≤ f.last

/-- Two webs that are present share no lane. -/
def Bank.Apart (v w : Fin 4) : Prop :=
  ∀ f g : FoilWeb, b.foil[v] = some f → b.foil[w] = some g → f.last < g.first ∨ g.last < f.first

def Bank.BandOk (l : Fin 8) : Prop := b.lanes[l].mode ≠ .off → b.lanes[l].lo < b.lanes[l].hi

def Bank.LaneAssigned (l : Fin 8) : Prop :=
  b.lanes[l].mode ≠ .off → cfg.driveStations[cassetteDrive l].isSome = true ∧ cfg.heaters[l].isSome = true

def Bank.WebAssigned (f : Fin 4) : Prop := b.foil[f].isSome = true → cfg.driveStations[foilDrive f].isSome = true

theorem Bank.refsDefined_iff (l : Fin 8) : b.refsDefined b.lanes[l] = true ↔ b.RefsDefined l := by
  simp only [Bank.refsDefined, List.all_eq_true, Bank.record_isSome_iff, Bank.RefsDefined]

theorem mem_lanes8 (l : Fin 8) : l ∈ lanes8 := List.mem_finRange l

theorem Bank.designFits_iff (d : Fin 64) : b.designFits d = true ↔ b.DesignFits d := by
  unfold Bank.designFits Bank.DesignFits
  cases record : b.designs[d] with
  | none => simp
  | some x =>
    simp only [Bool.or_eq_true, Bool.not_eq_true', List.any_eq_false, List.any_eq_true, beq_iff_eq, decide_eq_true_eq,
      Option.some.injEq]
    constructor
    · rintro (unused | fits) l y used rfl
      · exact absurd ⟨_, used, rfl⟩ (unused l (mem_lanes8 l))
      · exact fits
    · intro fits
      by_contra open'
      rw [not_or] at open'
      refine open'.1 fun l _ ⟨r, used, named⟩ => open'.2 (fits l x (named ▸ used) rfl)

theorem Bank.foilServed_iff (l : Fin 8) (x : Design) : b.foilServed l x = true ↔
    (x.kind = .foil ∨ x.kind = .foilEmboss →
      ∃ (w : Fin 4) (f : FoilWeb), x.web = some w ∧ b.foil[w] = some f ∧ f.first ≤ l ∧ l ≤ f.last) := by
  have served : (match x.web.bind fun w => b.foil[w] with | none => false | some f => f.covers l) = true ↔
      ∃ (w : Fin 4) (f : FoilWeb), x.web = some w ∧ b.foil[w] = some f ∧ f.first ≤ l ∧ l ≤ f.last := by
    cases web : x.web with
    | none => simp
    | some w =>
      simp only [Option.bind_some]
      cases foil : b.foil[w] with
      | none =>
        refine iff_of_false Bool.false_ne_true ?_
        rintro ⟨_, f, ⟨⟩, there, -⟩
        rw [foil] at there
        cases there
      | some f =>
        simp only [FoilWeb.covers, Bool.and_eq_true, decide_eq_true_eq]
        constructor
        · exact fun covers => ⟨w, f, rfl, foil, covers⟩
        · rintro ⟨_, g, ⟨⟩, there, covers⟩
          rw [foil] at there
          cases there
          exact covers
  rw [Bank.foilServed, Bool.or_eq_true, ← isFoil_iff, ← served]
  cases x.kind.isFoil with
  | false => exact ⟨fun _ foil => (by cases foil), fun _ => .inl rfl⟩
  | true => exact ⟨fun h _ => h.resolve_left (by decide), fun h => .inr (h rfl)⟩

theorem Bank.laneFoilServed_iff (l : Fin 8) : b.laneFoilServed l = true ↔ b.FoilServed l := by
  simp only [Bank.laneFoilServed, List.all_eq_true, Bank.FoilServed]
  constructor
  · intro all d x used record foil
    have served := all _ used
    rw [Bank.record, Option.bind_some, record] at served
    exact (b.foilServed_iff l x).mp served foil
  · intro all r used
    cases record : b.record r with
    | none => rfl
    | some x =>
      obtain ⟨d, rfl, record⟩ := Option.bind_eq_some_iff.mp record
      exact (b.foilServed_iff l x).mpr (all d x used record)

theorem Bank.overlap_iff (v w : Fin 4) : b.overlap (v, w) = true ↔ ¬b.Apart v w := by
  unfold Bank.overlap Bank.Apart
  cases b.foil[v] with
  | none => simp
  | some f =>
    cases b.foil[w] with
    | none => simp
    | some g =>
      simp only [Bool.and_eq_true, decide_eq_true_eq, Option.some.injEq]
      constructor
      · rintro ⟨left, right⟩ apart
        rcases apart f g rfl rfl with before | behind
        · omega
        · omega
      · intro shares
        by_contra apart
        refine shares fun f' g' same same' => ?_
        subst same same'
        omega

theorem Bank.bandOk_iff (l : Fin 8) : b.bandOk l = true ↔ b.BandOk l := by
  simp only [Bank.bandOk, Bank.BandOk, Bool.or_eq_true, beq_iff_eq, decide_eq_true_eq]
  tauto

theorem Bank.laneAssigned_iff (l : Fin 8) : b.laneAssigned cfg l = true ↔ b.LaneAssigned cfg l := by
  simp only [Bank.laneAssigned, Bank.LaneAssigned, Bool.or_eq_true, Bool.and_eq_true, beq_iff_eq]
  tauto

theorem Bank.webAssigned_iff (f : Fin 4) : b.webAssigned cfg f = true ↔ b.WebAssigned cfg f := by
  unfold Bank.webAssigned Bank.WebAssigned
  cases b.foil[f] <;> simp

/-- The pairs of webs stand in the order of the lower web, then of the higher one. -/
def WebBefore (p q : Fin 4 × Fin 4) : Prop := p.1 < q.1 ∨ (p.1 = q.1 ∧ p.2 < q.2)

theorem webPairs_pairwise : webPairs.Pairwise WebBefore := by
  unfold WebBefore
  decide

theorem mem_webPairs (v w : Fin 4) : (v, w) ∈ webPairs ↔ v < w := by
  revert v w
  decide

theorem WebBefore.asymm (p q : Fin 4 × Fin 4) (before : WebBefore p q) : ¬WebBefore q p := by
  unfold WebBefore at before ⊢
  omega

/-! ### What each check reports -/

theorem Bank.failure1_none : b.failure cfg 1 = none ↔ 2000 ≤ b.job.lr ∧ b.job.lr ≤ 200000 := by
  simp [Bank.failure]

theorem Bank.failure1_some (i : Nat) : b.failure cfg 1 = some i ↔ ¬(2000 ≤ b.job.lr ∧ b.job.lr ≤ 200000) ∧ i = 0 := by
  simp only [Bank.failure]
  split <;> simp [*, eq_comm]

theorem Bank.failure3_none : b.failure cfg 3 = none ↔ ∀ d, b.DesignFits d :=
  Option.map_eq_none_iff.trans (find?_finRange_eq_none b.designFits_iff)

theorem Bank.failure3_some (i : Nat) : b.failure cfg 3 = some i ↔ ∃ d, FirstFailing b.DesignFits d ∧ i = d.val := by
  simp only [Bank.failure, Option.map_eq_some_iff, eq_comm (a := i)]
  exact exists_congr fun d => and_congr_left fun _ => find?_finRange_eq_some b.designFits_iff

theorem Bank.failure5_none : b.failure cfg 5 = none ↔ ∀ v w, v < w → b.Apart v w := by
  simp only [Bank.failure, Option.map_eq_none_iff, List.find?_eq_none, Prod.forall, mem_webPairs, Bank.overlap_iff,
    not_not]

theorem Bank.failure5_some (i : Nat) : b.failure cfg 5 = some i ↔ ∃ v w : Fin 4, v < w ∧ ¬b.Apart v w ∧ i = w.val
    ∧ ∀ v' w' : Fin 4, v' < w' → v' < v ∨ (v' = v ∧ w' < w) → b.Apart v' w' := by
  have apart (v w : Fin 4) : b.overlap (v, w) = false ↔ b.Apart v w := by
    rw [← Bool.not_eq_true, Bank.overlap_iff, not_not]
  simp only [Bank.failure, Option.map_eq_some_iff, Prod.exists,
    find?_eq_some_iff_of_pairwise WebBefore.asymm webPairs_pairwise, Prod.forall, mem_webPairs, apart, Bank.overlap_iff,
    WebBefore]
  refine exists_congr fun v => exists_congr fun w => ?_
  rw [eq_comm (a := i)]
  tauto

theorem Bank.failure7_none :
    b.failure cfg 7 = none ↔ (∀ l, b.LaneAssigned cfg l) ∧ ∀ f, b.WebAssigned cfg f := by
  simp only [Bank.failure, Option.or_eq_none_iff, firstLane_eq_none (b.laneAssigned_iff cfg), Option.map_eq_none_iff]
  exact and_congr_right fun _ => find?_finRange_eq_none (b.webAssigned_iff cfg)

theorem Bank.failure7_some (i : Nat) : b.failure cfg 7 = some i ↔
    (∃ l, FirstFailing (b.LaneAssigned cfg) l ∧ i = l.val)
      ∨ ((∀ l, b.LaneAssigned cfg l) ∧ ∃ f, FirstFailing (b.WebAssigned cfg) f ∧ i = 8 + f.val) := by
  simp only [Bank.failure, Option.or_eq_some_iff, firstLane_eq_none (b.laneAssigned_iff cfg),
    firstLane_eq_some (b.laneAssigned_iff cfg), Option.map_eq_some_iff, eq_comm (a := i)]
  exact or_congr_right (and_congr_right fun _ => exists_congr fun f => and_congr_left fun _ =>
    find?_finRange_eq_some (b.webAssigned_iff cfg))

theorem Bank.isEmpty_iff_noLane : b.isEmpty = true ↔ ¬∃ l : Fin 8, b.lanes[l].mode ≠ .off := by
  simp only [Bank.isEmpty_iff, ne_eq, not_exists, not_not]

theorem Bank.failure8_none : b.failure cfg 8 = none ↔ ∃ l : Fin 8, b.lanes[l].mode ≠ .off := by
  rw [← not_iff_not, ← Bank.isEmpty_iff_noLane]
  simp [Bank.failure]

theorem Bank.failure8_some (i : Nat) :
    b.failure cfg 8 = some i ↔ (¬∃ l : Fin 8, b.lanes[l].mode ≠ .off) ∧ i = 0 := by
  rw [← Bank.isEmpty_iff_noLane]
  simp only [Bank.failure]
  split <;> simp [*, eq_comm]

end

/-- Settles O35: each check reports its first failure, and the first check that fails reports. -/
theorem validBank : Obligations.ValidBank := by
  intro b cfg refs inUse ok1 ok2 ok3 ok4 ok5 ok6 ok7 ok7web ok8
  have references : ∀ l, refs l = b.references b.lanes[l] := by
    intro l
    simp only [refs, Bank.references]
    cases b.lanes[l].mode with
    | sequence => exact List.map_congr_left fun i _ => (b.sequenceAt_eq _ i).symm
    | _ => rfl
  have same2 : ok2 = b.RefsDefined := by funext l; simp only [ok2, references]; rfl
  have same3 : ok3 = b.DesignFits := by funext d; simp only [ok3, references]; rfl
  have same4 : ok4 = b.FoilServed := by funext l; simp only [ok4, references]; rfl
  rw [same2, same3, same4]
  have none2 : b.failure cfg 2 = none ↔ ∀ l, b.RefsDefined l := firstLane_eq_none b.refsDefined_iff
  have none4 : b.failure cfg 4 = none ↔ ∀ l, b.FoilServed l := firstLane_eq_none b.laneFoilServed_iff
  have none6 : b.failure cfg 6 = none ↔ ∀ l, b.BandOk l := firstLane_eq_none b.bandOk_iff
  have some2 (i : Nat) : b.failure cfg 2 = some i ↔ ∃ l, FirstFailing b.RefsDefined l ∧ i = l.val :=
    firstLane_eq_some b.refsDefined_iff
  have some4 (i : Nat) : b.failure cfg 4 = some i ↔ ∃ l, FirstFailing b.FoilServed l ∧ i = l.val :=
    firstLane_eq_some b.laneFoilServed_iff
  have some6 (i : Nat) : b.failure cfg 6 = some i ↔ ∃ l, FirstFailing b.BandOk l ∧ i = l.val :=
    firstLane_eq_some b.bandOk_iff
  refine ⟨?valid, fun check index => ?reports, b.isEmpty_iff_noLane⟩
  case valid =>
    have passes : b.validate cfg = none ↔ (((((((b.failure cfg 1 = none ∧ b.failure cfg 2 = none)
        ∧ b.failure cfg 3 = none) ∧ b.failure cfg 4 = none) ∧ b.failure cfg 5 = none) ∧ b.failure cfg 6 = none)
        ∧ b.failure cfg 7 = none) ∧ b.failure cfg 8 = none) := by
      simp only [Bank.validate, List.findSome?_eq_none_iff, Option.map_eq_none_iff, checks8, List.forall_mem_cons]
      simp only [List.not_mem_nil, false_imp_iff, implies_true, and_true, and_assoc]
    rw [passes, b.failure1_none, none2, b.failure3_none, none4, b.failure5_none, none6, b.failure7_none, b.failure8_none]
    rfl
  case reports =>
    refine (findSome?_checks8 (b.failure cfg) check index).trans ?_
    rw [b.failure1_none, none2, b.failure3_none, none4, b.failure5_none, none6, b.failure7_none, b.failure1_some, some2,
      b.failure3_some, some4, b.failure5_some, some6, b.failure7_some, b.failure8_some]
    rfl

end Sys2Proof.Machine

/-! ## Arrivals (section 7.1) -/

namespace Sys2Proof.Machine

/-! ### The receive check (R143) -/

@[simp] theorem length_crcBytes (bs : List Byte) : (crcBytes bs).length = 2 := length_be 2 _

theorem length_body (f : Frame) : f.body.length = f.payload.length + 8 := by
  simp only [Frame.body, List.length_append, List.length_cons, List.length_nil]
  omega

theorem receive_outOfSize {raw : List Byte} (size : raw.length < 10 ∨ 74 < raw.length) : receive raw = .error .length :=
  if_pos size

/-- With the size right the check is made next (R143). -/
theorem receive_sized {raw : List Byte} (least : 10 ≤ raw.length) (most : raw.length ≤ 74) : receive raw =
    if raw.drop (raw.length - 2) ≠ crcBytes (raw.take (raw.length - 2)) then .error .check
    else match frameOfBody (raw.take (raw.length - 2)) with
      | none => .error .length
      | some (f, n) => if n.toNat = f.payload.length ∧ n.toNat ≤ 64 then .ok f else .error .length := by
  unfold receive
  exact if_neg (by omega)

theorem receive_badCheck {raw : List Byte} (least : 10 ≤ raw.length) (most : raw.length ≤ 74)
    (bad : raw.drop (raw.length - 2) ≠ crcBytes (raw.take (raw.length - 2))) : receive raw = .error .check := by
  rw [receive_sized least most, if_pos bad]

/-- The frame that a header and a payload spell, whatever the length field says (section 10.1). -/
def frameOfBytes (raw : List Byte) : Frame :=
  { kind := byteAt raw 0
    h := { dest := byteAt raw 1, src := byteAt raw 2, flags := byteAt raw 3, tag := byteAt raw 5,
           rsvHi := byteAt raw 6, rsvLo := byteAt raw 7 }
    payload := (raw.drop 8).take (raw.length - 10) }

/-- The bytes before the check are a header and a payload. -/
theorem frameOfBody_take {raw : List Byte} (least : 10 ≤ raw.length) :
    frameOfBody (raw.take (raw.length - 2)) = some (frameOfBytes raw, byteAt raw 4) := by
  match raw, least with
  | k :: d :: s :: fl :: n :: tag :: r1 :: r2 :: c1 :: c2 :: rest, _ =>
    have size : (k :: d :: s :: fl :: n :: tag :: r1 :: r2 :: c1 :: c2 :: rest).length - 2 = rest.length + 8 := rfl
    rw [size]
    rfl

theorem frameOfBytes_payload {raw : List Byte} (least : 10 ≤ raw.length) :
    (frameOfBytes raw).payload.length = raw.length - 10 := by
  simp only [frameOfBytes, List.length_take, List.length_drop]
  omega

/-- With the size and the check right the length field decides (R143). -/
theorem receive_checked {raw : List Byte} (least : 10 ≤ raw.length) (most : raw.length ≤ 74)
    (good : raw.drop (raw.length - 2) = crcBytes (raw.take (raw.length - 2))) : receive raw =
    if (byteAt raw 4).toNat = raw.length - 10 then .ok (frameOfBytes raw) else .error .length := by
  rw [receive_sized least most, if_neg (not_not.mpr good), frameOfBody_take least]
  simp only [frameOfBytes_payload least]
  by_cases field : (byteAt raw 4).toNat = raw.length - 10
  · rw [if_pos field, if_pos ⟨field, by omega⟩]
  · rw [if_neg field, if_neg fun h => field h.1]

/-- A frame built from its fields passes or fails by its size alone, and is read back (section 10.1, R143). -/
theorem receive_bytes (f : Frame) : receive f.bytes = f.received := by
  have length : f.bytes.length = f.payload.length + 10 := by
    rw [Frame.bytes, List.length_append, length_body, length_crcBytes]
  have place : f.bytes.length - 2 = f.body.length := by
    rw [length, length_body]
    omega
  have front : f.bytes.take f.body.length = f.body := List.take_left
  have back : f.bytes.drop f.body.length = crcBytes f.body := List.drop_left
  by_cases most : f.payload.length ≤ 64
  · have field : (byte f.payload.length).toNat = f.payload.length := toNat_byte (by omega)
    have frame : frameOfBody f.body = some (f, byte f.payload.length) := rfl
    rw [receive_sized (by omega) (by omega), place, front, back, if_neg (not_not.mpr rfl), frame, received_ok most]
    exact if_pos ⟨field, field.le.trans most⟩
  · rw [receive_outOfSize (by omega), Frame.received, if_neg most]

/-! ### The check (R143) -/

/-- One bit of the CRC-16 as the statements write it. -/
theorem crcBit_eq (c : BitVec 16) : crcBit c = if c.getLsbD 15 then (c <<< 1) ^^^ 0x1021 else c <<< 1 := by
  rw [crcBit, BitVec.msb_eq_getLsbD_last]

/-! ### Arrivals are judged as their bytes (logs 9, 26) -/

/-- What an arrival does depends on its readers for the frames that are read alone, and on its acts for the requests. -/
theorem arrive_congr {s : State} {raw : List Byte} {rc : Except Damage Frame} {read read' : Frame → State → State}
    {act act' : Byte → Act} (reads : ∀ f, rc = .ok f → isRead s.jobs.cfg f = true → read f = read' f)
    (acts : ∀ f, rc = .ok f → f.kind = Frame.mgq → act (byteAt f.payload 0) = act' (byteAt f.payload 0)) :
    s.arrive raw rc read act = s.arrive raw rc read' act' := by
  unfold State.arrive
  split
  · rfl
  · split
    · rfl
    next own _ =>
      cases rc with
      | error d => rfl
      | ok f =>
        simp only [State.dispose]
        cases disposed : s.disposition own f with
        | consumed =>
          have request : isRequest own f = true := by
            unfold State.disposition at disposed
            split_ifs at disposed
            assumption
          have kind : f.kind = Frame.mgq := by
            simp only [isRequest, Bool.and_eq_true, beq_iff_eq] at request
            exact request.1.1
          simp only [State.consume, acts f rfl kind]
        | readOn =>
          have read : isRead s.jobs.cfg f = true := by
            unfold State.disposition at disposed
            split_ifs at disposed
            assumption
          simp only [reads f rfl read]
        | _ => rfl

theorem received_eq_ok {f g : Frame} (e : f.received = .ok g) : g = f := by
  unfold Frame.received at e
  split at e
  · exact (Except.ok.inj e).symm
  · cases e

/-- A frame for a reader of its own kind is read as any frame of the kind. -/
theorem arriveRead_eq (s : State) (f : Frame) (o : TakeOrder) {read : Frame → State → State} (kind : f.kind ≠ Frame.mgq)
    (reads : read f = State.readFrame o f) :
    s.arriveRead f read = s.arrive f.bytes (receive f.bytes) (State.readFrame o) (actOf o) := by
  rw [receive_bytes]
  refine arrive_congr (fun g same _ => ?_) fun g same request => ?_
  · rw [received_eq_ok same, reads]
  · rw [received_eq_ok same] at request
    exact absurd request kind

/-- A request row is judged as any request with its code. -/
theorem request_eq (s : State) (h : Header) (code : Byte) (q : Req) (o : TakeOrder) {act : Act}
    (act' : act = actOf o code) :
    s.request h code q act =
      s.arrive (requestFrame h code q).bytes (receive (requestFrame h code q).bytes) (State.readFrame o) (actOf o) := by
  rw [receive_bytes]
  refine arrive_congr (fun g same read => ?_) fun g same _ => ?_
  · rw [received_eq_ok same, isRead_requestFrame] at read
    cases read
  · rw [received_eq_ok same]
    exact act'

theorem exec_arrival (s : State) {c : Instr} {raw : List Byte} {o : TakeOrder}
    (arrives : arrivingBytes c = some (raw, o)) :
    exec c s = exec (.frameArrival raw o) s := by
  cases c with
  | frameArrival raw' o' => cases arrives; rfl
  | cycArrival h p o' =>
    cases arrives
    exact congrArg Host.Outcome.next
      (arriveRead_eq s { kind := Frame.cyc, h, payload := p } o (by decide : Frame.cyc ≠ Frame.mgq) rfl)
  | mrkArrival h p =>
    cases arrives
    exact congrArg Host.Outcome.next
      (arriveRead_eq s { kind := Frame.mrk, h, payload := p } _ (by decide : Frame.mrk ≠ Frame.mgq) rfl)
  | tmpArrival h p o' =>
    cases arrives
    exact congrArg Host.Outcome.next
      (arriveRead_eq s { kind := Frame.tmp, h, payload := p } o (by decide : Frame.tmp ≠ Frame.mgq) rfl)
  | dstArrival h p o' =>
    cases arrives
    exact congrArg Host.Outcome.next
      (arriveRead_eq s { kind := Frame.dst, h, payload := p } o (by decide : Frame.dst ≠ Frame.mgq) rfl)
  | powerOnReset _ | injectionSlot | ringSilence _ | tmpTimeout _ | soakComplete _ | driftExpiry _ | answerTimeout _
  | dstTimeout _ | powerOnResetRelease => cases arrives
  | _ =>
    cases arrives
    exact congrArg _ (request_eq s _ _ _ _ rfl)

/-- Settles O5: a frame is taken apart at the places where it was put together. -/
theorem framesReadBackAsBuilt : Obligations.FramesReadBackAsBuilt := by
  refine ⟨fun f => ⟨fun most => ?fits, fun long => ?long⟩, fun c raw o s arrives => exec_arrival s arrives⟩
  case fits => exact (receive_bytes f).trans (received_ok most)
  case long => exact (receive_bytes f).trans (if_neg (Nat.not_le.mpr long))

/-! ### What a judged frame does (R143 to R147) -/

section
variable {s : State} {own : Byte} {raw : List Byte} {f : Frame} {o : TakeOrder}

theorem exec_frameArrival_damaged {d : Damage} (works : s.worksAs own) (damaged : receive raw = .error d) :
    exec (.frameArrival raw o) s = .next (s.frameError d) := by
  refine congrArg _ ((arrive_works works ..).trans ?_)
  rw [damaged]

theorem exec_frameArrival_ok (works : s.worksAs own) (ok : receive raw = .ok f) :
    exec (.frameArrival raw o) s = .next (s.dispose own raw f (State.readFrame o) (actOf o)) := by
  refine congrArg _ ((arrive_works works ..).trans ?_)
  rw [ok]

theorem disposition_short (known : isRead s.jobs.cfg f = true ∨ isRequest own f = true)
    (short : f.payload.length < leastPayload f.kind) : s.disposition own f = .short := by
  simp only [State.disposition, Bool.or_eq_true_iff.mpr known, short, decide_true, Bool.and_self, if_true]

/-- A frame that is not short is disposed of by its source, and then as a request or a frame that is read (R145). -/
theorem disposition_enough
    (enough : isRead s.jobs.cfg f = true ∨ isRequest own f = true → leastPayload f.kind ≤ f.payload.length) :
    s.disposition own f = if f.h.src = own then .removed
      else if isRequest own f then if s.answers.length < 4 then .consumed else .bounced
      else if isRead s.jobs.cfg f then .readOn else .forwarded := by
  have long : ((isRead s.jobs.cfg f || isRequest own f) && decide (f.payload.length < leastPayload f.kind)) = false := by
    cases known : (isRead s.jobs.cfg f || isRequest own f) with
    | false => rfl
    | true =>
      have := enough (Bool.or_eq_true_iff.mp known)
      simpa using this
  rw [State.disposition, long]
  rfl

end

theorem frameError_eq (s : State) (d : Damage) : s.frameError d = (s.setPort { s.port with
    damaged := if s.port.damaged < 65535 then s.port.damaged + 1 else 65535 }).raise 17 d.code := rfl

/-- Settles O6: the three tests of the receive check one after another, then the payload's least length. -/
theorem damagedFramesAreCounted : Obligations.DamagedFramesAreCounted := by
  refine ⟨fun raw size => receive_outOfSize size, fun raw least most bad => receive_badCheck least most bad,
    fun raw least most good other => (receive_checked least most good).trans (if_neg other),
    fun raw least most good same => (receive_checked least most good).trans (if_pos same), ?check,
    fun s own raw o works => ⟨fun bad => ?badCheck, fun bad => ?badLength, fun f ok known short => ?short⟩⟩
  case check =>
    intro bit bs
    have bits : crcBit = bit := funext crcBit_eq
    have bytes : crcByte = fun c b => bit^[8] (c ^^^ (b.setWidth 16).shiftLeft 8) := by rw [← bits]; rfl
    rw [crc16, bytes]
  case badCheck => exact (exec_frameArrival_damaged works bad).trans (congrArg _ (frameError_eq s .check))
  case badLength => exact (exec_frameArrival_damaged works bad).trans (congrArg _ (frameError_eq s .length))
  case short =>
    refine (exec_frameArrival_ok works ok).trans (congrArg Host.Outcome.next ?_)
    rw [State.dispose, disposition_short known short]
    exact frameError_eq s .length

theorem isRead_iff (c : StationCfg) (f : Frame) : isRead c f = true ↔
    (f.kind = 0x01 ∧ f.h.src = 63) ∨ (f.kind = 0x02 ∧ c.sensor = some f.h.src)
      ∨ (f.kind = 0x03 ∧ ∃ k : Fin 8, c.heaters[k] = some f.h.src)
      ∨ (f.kind = 0x04 ∧ ∃ d : Fin 12, c.driveStations[d] = some f.h.src) := by
  have drives (d : Fin 12) : d ∈ drives12 := List.mem_finRange d
  unfold isRead
  split_ifs with cyc mrk tmp dst
  · simp [cyc, Frame.cyc]
  · simp [mrk, Frame.mrk]
  · simp [tmp, Frame.tmp, StationCfg.cassettesOf, mem_lanes8]
  · simp [dst, Frame.dst, StationCfg.drivesOf, drives]
  · simp only [false_iff, not_or, not_and]
    exact ⟨fun e => absurd e cyc, fun e => absurd e mrk, fun e => absurd e tmp, fun e => absurd e dst⟩

theorem isRequest_iff (own : Byte) (f : Frame) :
    isRequest own f = true ↔ f.kind = 0x20 ∧ f.h.dest = own ∧ f.h.flags.getLsbD 0 = false := by
  simp only [isRequest, Frame.bounced, Bool.and_eq_true, beq_iff_eq, Bool.not_eq_true', and_assoc]
  rfl

/-- Settles O7: the dispositions are tested in their order. -/
theorem dispositionOfFrames : Obligations.DispositionOfFrames := by
  refine ⟨fun s own raw o f works ok enough =>
    have disposed := disposition_enough (s := s) (own := own) enough
    ⟨fun self => ?removed, fun other request full => ?bounced, fun other request read => ?forwarded⟩,
    fun f => rfl, isRead_iff, isRequest_iff, rfl, rfl, rfl, rfl, rfl⟩
  case removed => rw [exec_frameArrival_ok works ok, State.dispose, disposed, if_pos self]
  case bounced =>
    rw [exec_frameArrival_ok works ok, State.dispose, disposed, if_neg other, if_pos request,
      if_neg (Nat.not_lt.mpr full)]
    rfl
  case forwarded =>
    rw [exec_frameArrival_ok works ok, State.dispose, disposed, if_neg other, request, read]
    rfl

/-! ### In reset and in through-only state (R148, R149) -/

theorem exec_arrival_resetIn {s : State} {c : Instr} {raw : List Byte} {o : TakeOrder}
    (arrives : arrivingBytes c = some (raw, o)) (reset : s.port.resetIn = true) : exec c s = .next s :=
  (exec_arrival s arrives).trans (congrArg _ (arrive_resetIn reset ..))

theorem exec_ringSilence_off {s : State} (o : TakeOrder)
    (off : (s.port.timerOn && !s.port.resetIn && s.port.station.isSome) = false) : exec (.ringSilence o) s = .next s :=
  congrArg _ (if_neg (by rw [off]; decide))

theorem slot_resetIn {s : State} (reset : s.port.resetIn = true) : s.slot = s := if_pos (.inl reset)

theorem slot_throughOnly {s : State} (through : s.port.station = none) : s.slot = s := by
  unfold State.slot
  rw [through]
  split <;> rfl

/-- A test that takes a unit's part, or does nothing, sends nothing. -/
theorem takeIf_port (s : State) (due : Bool) (u : CycUnit) : (if due then s.takeUnit u else s).port = s.port := by
  split
  · exact (takeUnit_frame s u).port
  · rfl

/-- Settles O4: arrivals are lost or passed on, and the slot, the silence and the expiries send nothing. -/
theorem resetAndThroughOnly : Obligations.ResetAndThroughOnly := by
  refine ⟨fun c s reset => ?sends, fun c raw o s arrives reset => exec_arrival_resetIn arrives reset,
    fun c raw o s arrives released through => ?passed, fun o s through => ⟨congrArg _ (slot_throughOnly through),
      exec_ringSilence_off o (by simp [through])⟩⟩
  case passed => exact (exec_arrival s arrives).trans (congrArg _ (arrive_throughOnly released through ..))
  case sends =>
    cases c with
    | powerOnReset straps => exact ⟨_, rfl, rfl⟩
    | powerOnResetRelease => exact ⟨_, rfl, rfl⟩
    | injectionSlot => exact ⟨s, congrArg _ (slot_resetIn reset), rfl⟩
    | ringSilence o => exact ⟨s, exec_ringSilence_off o (by simp [reset]), rfl⟩
    | tmpTimeout c => exact ⟨_, rfl, congrArg _ (takeIf_port s _ _)⟩
    | soakComplete c => exact ⟨_, rfl, congrArg _ (takeIf_port s _ _)⟩
    | driftExpiry c => exact ⟨_, rfl, congrArg _ (takeIf_port s _ _)⟩
    | answerTimeout d => exact ⟨_, rfl, congrArg _ (takeIf_port s _ _)⟩
    | dstTimeout d => exact ⟨_, rfl, congrArg _ (takeIf_port s _ _)⟩
    | _ => exact ⟨s, exec_arrival_resetIn rfl reset, rfl⟩

end Sys2Proof.Machine

/-! ## The suppression checks (R62) -/

namespace Sys2Proof.Machine

/-- One more check in front: its reason when it fails, and otherwise that of the others. -/
theorem firstFailing_cons {c : Prop} [Decidable c] {b : Bool} {r : Reason} {checks : List (Bool × Reason)}
    {rest : Option Reason} (same : b = true ↔ c) (others : (checks.find? (·.1)).map (·.2) = rest) :
    (((b, r) :: checks).find? (·.1)).map (·.2) = if c then some r else rest := by
  by_cases fails : c
  · rw [if_pos fails, List.find?_cons_of_pos (same.mpr fails)]
    rfl
  · rw [if_neg fails, List.find?_cons_of_neg (mt same.mp fails), others]

theorem permits_eq_false_iff (h : Heat) : h.permits = false ↔ h ≠ .ready ∧ h ≠ .drift := by
  cases h <;> decide

/-- Settles O15: the eight conditions are those of the table, in its order. -/
theorem suppressionInOrder : Obligations.SuppressionInOrder := by
  intro s h l r
  symm
  refine firstFailing_cons Iff.rfl (firstFailing_cons Iff.rfl (firstFailing_cons ?unlocked (firstFailing_cons ?register
    (firstFailing_cons ?speed (firstFailing_cons ?heat (firstFailing_cons ?drive (firstFailing_cons ?foilDrive rfl)))))))
  case unlocked => rw [Bool.or_eq_true, beq_iff_eq, beq_iff_eq]
  case register =>
    rw [Bool.or_eq_true, decide_eq_true_eq, decide_eq_true_eq]
    omega
  case speed => rw [Bool.or_eq_true, bne_iff_ne, decide_eq_true_eq]
  case heat => simp only [Bool.and_eq_true, bne_iff_ne, permits_eq_false_iff, and_assoc]
  case drive => rw [bne_iff_ne, State.answering, beq_eq_false_iff_ne]
  case foilDrive =>
    have foil : (r.kind == .foil || r.kind == .foilEmboss) = r.kind.isFoil := by cases r.kind <;> rfl
    rw [foil, State.foilDriveOk]
    cases r.kind.isFoil with
    | false => exact iff_of_false Bool.false_ne_true (fun h => by cases h)
    | true => cases r.web with
      | none => exact iff_of_true rfl rfl
      | some f => simp [State.answering]

end Sys2Proof.Machine

/-! ## A unit's part of a cycle frame (R115 to R117, R133, R134) -/

namespace Sys2Proof.Machine

theorem takeUnit_due {s : State} {u : CycUnit} (due : u ∈ s.cycDue) :
    s.takeUnit u = (s.setCycDue (s.cycDue.filter (· != u))).unitPart u := if_pos due

/-! ### Cassettes -/

section
variable (x : Cassette)

theorem Cassette.tmpOut_iff (ntmp : Nat) :
    x.tmpOut ntmp = true ↔ ntmp ≤ (if x.since < 4000 then x.since + 1 else 4000) ∧ x.heat ≠ .lost := by
  rw [Cassette.tmpOut, Bool.and_eq_true, decide_eq_true_eq, bne_iff_ne]
  rfl

theorem Cassette.soakOut_iff (nsoak : Nat) : x.soakOut nsoak = true ↔ x.heat = .soak ∧ nsoak ≤ x.soak + 1 := by
  rw [Cassette.soakOut, Bool.and_eq_true, decide_eq_true_eq, beq_iff_eq]

theorem Cassette.driftOut_iff (ndrift : Nat) : x.driftOut ndrift = true ↔ x.heat = .drift ∧ ndrift ≤ x.drift + 1 := by
  rw [Cassette.driftOut, Bool.and_eq_true, decide_eq_true_eq, beq_iff_eq]

end

section
variable {s : State} {c : Fin 8}

/-- A cassette put at its new value, its part of the cycle frame taken. -/
def State.cassetteTaken (s : State) (c : Fin 8) (y : Cassette) : State :=
  (s.setCycDue (s.cycDue.filter (· != CycUnit.cassette c))).setCassettes (s.cassettes.set c y)

/-- A cassette's part: its value counted on, and CASSETTE_COLD when it goes cold (R115 to R117). -/
theorem takeCassette (due : CycUnit.cassette c ∈ s.cycDue) : s.takeUnit (.cassette c) =
    if s.cassettes[c].goesCold s.jobs.cfg.ntmp s.active.lanes[c].ndrift then
      (s.cassetteTaken c (s.cassettes[c].afterCycle s.jobs.cfg.ntmp s.active.lanes[c].nsoak s.active.lanes[c].ndrift)).raise
        6 (BitVec.ofNat 32 c.val)
    else s.cassetteTaken c
      (s.cassettes[c].afterCycle s.jobs.cfg.ntmp s.active.lanes[c].nsoak s.active.lanes[c].ndrift) := by
  rw [takeUnit_due due, ← Cassette.cycled_eq_afterCycle]
  rfl

theorem cassetteDue_iff (test : Cassette → Lane → Nat → Bool) : s.cassetteDue c test = true ↔
    CycUnit.cassette c ∈ s.cycDue ∧ test s.cassettes[c] s.active.lanes[c] s.jobs.cfg.ntmp = true := by
  rw [State.cassetteDue, Bool.and_eq_true, decide_eq_true_eq]

end

/-- Settles O18: each row takes the cassette's part when its event is due, and the part is read off its three tests. -/
theorem cassetteCycleAndExpiries : Obligations.CassetteCycleAndExpiries := by
  intro s c x l since due lost soaked cooled with_
  have tmp : x.tmpOut s.jobs.cfg.ntmp = true ↔ lost := x.tmpOut_iff _
  have soak : x.soakOut l.nsoak = true ↔ x.heat = .soak ∧ l.nsoak ≤ x.soak + 1 := x.soakOut_iff _
  have drift : x.driftOut l.ndrift = true ↔ x.heat = .drift ∧ l.ndrift ≤ x.drift + 1 := x.driftOut_iff _
  have tmpDue : (s.cassetteDue c fun x _ ntmp => x.tmpOut ntmp) = true ↔ due ∧ lost := by rw [cassetteDue_iff, tmp]
  have soakDue : (s.cassetteDue c fun x l ntmp => !x.tmpOut ntmp && x.soakOut l.nsoak) = true ↔ due ∧ soaked := by
    rw [cassetteDue_iff, Bool.and_eq_true, soak, Bool.not_eq_true', ← Bool.not_eq_true, tmp]
  have driftDue : (s.cassetteDue c fun x l ntmp => !x.tmpOut ntmp && x.driftOut l.ndrift) = true ↔ due ∧ cooled := by
    rw [cassetteDue_iff, Bool.and_eq_true, drift, Bool.not_eq_true', ← Bool.not_eq_true, tmp]
  have taken (isDue : due) : s.takeUnit (.cassette c) =
      if x.goesCold s.jobs.cfg.ntmp l.ndrift then
        (with_ (x.afterCycle s.jobs.cfg.ntmp l.nsoak l.ndrift)).raise 6 (BitVec.ofNat 32 c.val)
      else with_ (x.afterCycle s.jobs.cfg.ntmp l.nsoak l.ndrift) := takeCassette isDue
  have afterLost (isLost : lost) : x.afterCycle s.jobs.cfg.ntmp l.nsoak l.ndrift = { x with heat := .lost, since } :=
    if_pos isLost
  have coldLost (isLost : lost) : x.goesCold s.jobs.cfg.ntmp l.ndrift = (x.heat == .ready || x.heat == .drift) :=
    if_pos (tmp.mpr isLost)
  have coldHeld (held : ¬lost) : x.goesCold s.jobs.cfg.ntmp l.ndrift = x.driftOut l.ndrift :=
    if_neg (mt tmp.mp held)
  have afterHeld (held : ¬lost) : x.afterCycle s.jobs.cfg.ntmp l.nsoak l.ndrift =
      if x.heat = .soak then { x with heat := if l.nsoak ≤ x.soak + 1 then .ready else .soak, soak := x.soak + 1, since }
      else if x.heat = .drift then
        { x with heat := if l.ndrift ≤ x.drift + 1 then .cold else .drift, drift := x.drift + 1, since }
      else { x with since } := if_neg held
  refine ⟨fun isDue isLost warm => ?warm, fun isDue isLost notReady notDrift => ?cold, fun isDue isSoaked => ?soaked,
    fun isDue isCooled => ?cooled, fun other => ?noTmp, fun other => ?noSoak, fun other => ?noDrift,
    fun isDue held notSoaked notCooled => ?counted⟩
  case warm =>
    have goes : x.goesCold s.jobs.cfg.ntmp l.ndrift = true := by
      rw [coldLost isLost]
      rcases warm with warm | warm <;> rw [warm] <;> rfl
    refine congrArg Host.Outcome.next ((if_pos (tmpDue.mpr ⟨isDue, isLost⟩)).trans ?_)
    rw [taken isDue, if_pos goes, afterLost isLost]
  case cold =>
    have stays : x.goesCold s.jobs.cfg.ntmp l.ndrift = false := by
      rw [coldLost isLost, beq_eq_false_iff_ne.mpr notReady, beq_eq_false_iff_ne.mpr notDrift]
      rfl
    refine congrArg Host.Outcome.next ((if_pos (tmpDue.mpr ⟨isDue, isLost⟩)).trans ?_)
    rw [taken isDue, stays, afterLost isLost]
    rfl
  case soaked =>
    obtain ⟨held, heat, long⟩ := id isSoaked
    have stays : ¬x.goesCold s.jobs.cfg.ntmp l.ndrift = true := by
      rw [coldHeld held, drift, heat]
      exact fun h => by cases h.1
    refine congrArg Host.Outcome.next ((if_pos (soakDue.mpr ⟨isDue, isSoaked⟩)).trans ?_)
    rw [taken isDue, if_neg stays, afterHeld held, if_pos heat, if_pos long]
  case cooled =>
    obtain ⟨held, heat, long⟩ := id isCooled
    have notSoak : x.heat ≠ .soak := by
      rw [heat]
      decide
    refine congrArg Host.Outcome.next ((if_pos (driftDue.mpr ⟨isDue, isCooled⟩)).trans ?_)
    rw [taken isDue, coldHeld held, if_pos (drift.mpr ⟨heat, long⟩), afterHeld held, if_neg notSoak, if_pos heat,
      if_pos long]
  case noTmp => exact congrArg _ (if_neg (mt tmpDue.mp other))
  case noSoak => exact congrArg _ (if_neg (mt soakDue.mp other))
  case noDrift => exact congrArg _ (if_neg (mt driftDue.mp other))
  case counted =>
    have stays : ¬x.goesCold s.jobs.cfg.ntmp l.ndrift = true := by
      rw [coldHeld held, drift]
      exact fun cool => notCooled ⟨held, cool⟩
    rw [taken isDue, if_neg stays, afterHeld held]
    by_cases soaks : x.heat = .soak
    · have short : ¬l.nsoak ≤ x.soak + 1 := fun long => notSoaked ⟨held, soaks, long⟩
      simp [soaks, short]
    · by_cases drifts : x.heat = .drift
      · have short : ¬l.ndrift ≤ x.drift + 1 := fun long => notCooled ⟨held, drifts, long⟩
        simp [drifts, short]
      · simp [soaks, drifts]

/-! ### Drives -/

theorem silenceReason_eq (d : Fin 12) : silenceReason d = if d.val < 8 then .noAck else .foilNoAck := by
  unfold silenceReason driveRole
  split_ifs <;> rfl

section
variable {s : State} {d : Fin 12}

/-- A drive put at its new value, its part of the cycle frame taken. -/
def State.driveTaken (s : State) (d : Fin 12) (y : Drive) : State :=
  (s.setCycDue (s.cycDue.filter (· != CycUnit.drive d))).setDrives (s.drives.set d y)

theorem modDrive_modDrive (s : State) (d : Fin 12) (f g : Drive → Drive) :
    (s.modDrive d f).modDrive d g = s.modDrive d fun x => g (f x) := by
  have same : (s.modDrive d f).drives[d] = f s.drives[d] := modDrive_same s d f
  rw [State.modDrive, same]
  simp only [State.modDrive, State.setDrives_drives, Vector.set_set]
  rfl

/-- A drive's part that meets no timeout: it is counted on (R133). -/
theorem takeDrive_counted (due : CycUnit.drive d ∈ s.cycDue)
    (quiet : s.drives[d].counted.timedOut s.jobs.cfg.nack = false) :
    s.takeUnit (.drive d) = s.driveTaken d s.drives[d].counted := by
  rw [takeUnit_due due, State.unitPart, State.driveCycle, modDrive_same]
  exact if_neg (by rw [Bool.not_eq_true]; exact quiet)

/-- A drive's part that meets a timeout: SILENT, with DRIVE_SILENT and then the notice (R134, log 31). -/
theorem takeDrive_silent (due : CycUnit.drive d ∈ s.cycDue)
    (out : s.drives[d].counted.timedOut s.jobs.cfg.nack = true) :
    s.takeUnit (.drive d) = ((s.driveTaken d s.drives[d].silenced).raise 2 (BitVec.ofNat 32 d.val)).notice d
      (if d.val < 8 then .noAck else .foilNoAck) := by
  rw [takeUnit_due due, State.unitPart, State.driveCycle, modDrive_same, ← silenceReason_eq]
  refine (if_pos out).trans ?_
  have both := modDrive_modDrive (s.setCycDue (s.cycDue.filter (· != CycUnit.drive d))) d Drive.counted Drive.silenced
  have same : (fun x : Drive => x.counted.silenced) = Drive.silenced := rfl
  rw [same] at both
  exact congrArg (fun v : State => (v.raise 2 (BitVec.ofNat 32 d.val)).notice d (silenceReason d)) both

theorem driveDue_iff (test : Drive → Nat → Bool) : s.driveDue d test = true ↔
    (CycUnit.drive d ∈ s.cycDue ∧ s.drives[d].link ≠ .silent) ∧ test s.drives[d].counted s.jobs.cfg.nack = true := by
  rw [State.driveDue, Bool.and_eq_true, Bool.and_eq_true, decide_eq_true_eq, bne_iff_ne]

theorem Drive.answerOut_counted (x : Drive) (nack : Nat) : x.counted.answerOut nack = true ↔
    ∃ r rest, x.out = r :: rest ∧ nack ≤ (if r.age < 255 then r.age + 1 else 255) := by
  unfold Drive.answerOut Drive.counted
  cases x.out with
  | nil => simp
  | cons r rest =>
    simp only [List.map_cons, decide_eq_true_eq, List.cons.injEq]
    constructor
    · exact fun old => ⟨r, rest, ⟨rfl, rfl⟩, old⟩
    · rintro ⟨_, _, ⟨rfl, rfl⟩, old⟩
      exact old

theorem Drive.dstOut_counted (x : Drive) (nack : Nat) :
    x.counted.dstOut nack = true ↔ nack ≤ (if x.cycles < 255 then x.cycles + 1 else 255) := decide_eq_true_iff

theorem Drive.timedOut_counted (x : Drive) (nack : Nat) : x.counted.timedOut nack = true ↔
    x.link ≠ .silent ∧ (x.counted.answerOut nack = true ∨ x.counted.dstOut nack = true) := by
  rw [Drive.timedOut, Bool.and_eq_true, Bool.or_eq_true, bne_iff_ne]
  rfl

end

/-- Settles O20: each row takes the drive's part when its timeout is met, and the part looks at both timeouts. -/
theorem driveCycleAndTimeouts : Obligations.DriveCycleAndTimeouts := by
  intro s d x cycles older due unanswered unreported with_ silent
  have answer : x.counted.answerOut s.jobs.cfg.nack = true ↔ unanswered := x.answerOut_counted _
  have dst : x.counted.dstOut s.jobs.cfg.nack = true ↔ unreported := x.dstOut_counted _
  have answerDue : s.driveDue d Drive.answerOut = true ↔ due ∧ unanswered := by rw [driveDue_iff, answer]
  have dstDue : s.driveDue d Drive.dstOut = true ↔ due ∧ unreported := by rw [driveDue_iff, dst]
  refine ⟨fun isDue out => ?answer, fun isDue out => ?dst, fun other => ?noAnswer, fun other => ?noDst,
    fun isDue quiet => ?counted⟩
  case answer =>
    refine congrArg Host.Outcome.next ((if_pos (answerDue.mpr ⟨isDue, out⟩)).trans ?_)
    exact takeDrive_silent isDue.1 ((x.timedOut_counted _).mpr ⟨isDue.2, .inl (answer.mpr out)⟩)
  case dst =>
    refine congrArg Host.Outcome.next ((if_pos (dstDue.mpr ⟨isDue, out⟩)).trans ?_)
    exact takeDrive_silent isDue.1 ((x.timedOut_counted _).mpr ⟨isDue.2, .inr (dst.mpr out)⟩)
  case noAnswer => exact congrArg _ (if_neg (mt answerDue.mp other))
  case noDst => exact congrArg _ (if_neg (mt dstDue.mp other))
  case counted =>
    refine takeDrive_counted isDue ?_
    rw [← Bool.not_eq_true, x.timedOut_counted, answer, dst]
    rintro ⟨heard, out⟩
    rcases quiet with still | ⟨answered, reported⟩
    · exact heard still
    · exact out.elim answered reported

end Sys2Proof.Machine

/-! ## Marks (R8 to R14) -/

namespace Sys2Proof.Machine

theorem exec_mrkArrival {s : State} {h : Header} {p : List Byte}
    (reads : s.reads { kind := Frame.mrk, h, payload := p }) :
    exec (.mrkArrival h p) s = .next
      ((s.forward (Frame.bytes { kind := Frame.mrk, h, payload := p })).settlePlanner.readMark
        (BitVec.ofNat 32 (field p 0 4))) := congrArg _ (arriveRead_of_reads reads _)

section
variable {u : State} (mm : Pos)

theorem readMark_noJob (empty : u.active.isEmpty = true) : u.readMark mm = u.markNoJob mm := if_pos empty

/-- Over a job the tracker's state decides (R8). -/
theorem readMark_job (job : u.active.isEmpty = false) : u.readMark mm = match u.tracker.mode with
    | .unlocked => u.markStartsLock mm
    | .locking => if u.inWindow mm && decide ((u.markError mm).natAbs ≤ u.active.job.tol) then u.markLocks mm
        else u.markStartsLock mm
    | .locked => if u.inWindow mm then u.markCorrected u.tracker mm else u.markStray
    | .coasting => if u.inWindow mm then u.markCorrected { u.tracker with mode := .locked, coast := 0 } mm
        else u.markStray := if_neg (by simp [job])

theorem markLocks_second (lock : u.tracker.lock = 1) : u.markLocks mm =
    (u.raise 10 (u.tracker.repeatNo + 1)).takeMark { u.tracker with mode := .locked, lock := 2 } mm 0 false :=
  if_pos (by rw [lock])

theorem inWindow_iff : u.inWindow mm = true ↔ (u.markError mm).natAbs ≤ u.active.job.w := decide_eq_true_iff

theorem correction_eq : u.correction mm =
    if (u.active.job.cmax : Int) < u.markError mm then (u.active.job.cmax : Int)
    else if u.markError mm < -(u.active.job.cmax : Int) then -(u.active.job.cmax : Int) else u.markError mm := by
  unfold State.correction clampInt
  split_ifs <;> omega

end

/-- Settles O11: a mark with no lock to test starts one, and the second close mark completes it. -/
theorem marksTakenAsMeasured : Obligations.MarksTakenAsMeasured := by
  intro s h p reads u mm n e close taken
  have run : exec (.mrkArrival h p) s = .next (u.readMark mm) := exec_mrkArrival reads
  rw [run]
  refine ⟨fun empty => ?noJob, fun job unlocked => ?starts, fun job locking lock => ⟨fun isClose => ?locks,
    fun far => ?again⟩⟩
  case noJob => rw [readMark_noJob mm empty]; rfl
  case starts => rw [readMark_job mm job, unlocked]; rfl
  case locks =>
    have test : (u.inWindow mm && decide ((u.markError mm).natAbs ≤ u.active.job.tol)) = true := by
      rw [Bool.and_eq_true, inWindow_iff, decide_eq_true_eq]
      exact isClose
    rw [readMark_job mm job, locking]
    refine congrArg Host.Outcome.next ((if_pos test).trans ?_)
    rw [markLocks_second mm lock]
    rfl
  case again =>
    have test : ¬(u.inWindow mm && decide ((u.markError mm).natAbs ≤ u.active.job.tol)) = true := by
      rw [Bool.and_eq_true, inWindow_iff, decide_eq_true_eq]
      exact far
    rw [readMark_job mm job, locking]
    exact congrArg Host.Outcome.next (if_neg test)

/-- Settles O12: in the window the mark is corrected, whichever of the two states it meets; outside it is a stray. -/
theorem marksCorrectedOrStray : Obligations.MarksCorrectedOrStray := by
  intro s h p reads u mm n mp e cmax c mt job mode
  have run : exec (.mrkArrival h p) s = .next (u.readMark mm) := exec_mrkArrival reads
  have corrects : u.correction mm = c := correction_eq mm
  have tracker : { u.tracker with
      mode := .locked, coast := if u.tracker.mode = .coasting then 0 else u.tracker.coast } =
      if u.tracker.mode = .locked then u.tracker else { u.tracker with mode := .locked, coast := 0 } := by
    rcases mode with mode | mode
    · rw [if_pos mode, ← mode, if_neg (by rw [mode]; decide)]
    · rw [if_pos mode, if_neg (by rw [mode]; decide)]
  have judged : u.readMark mm = if u.inWindow mm then u.markCorrected { u.tracker with
      mode := .locked, coast := if u.tracker.mode = .coasting then 0 else u.tracker.coast } mm else u.markStray := by
    rw [readMark_job mm job, tracker]
    rcases mode with mode | mode <;> simp only [mode] <;> rfl
  rw [run, judged]
  refine ⟨fun inside => ?corrected, fun outside => ?stray⟩
  case corrected =>
    refine congrArg Host.Outcome.next ((if_pos ((inWindow_iff mm).mpr inside)).trans ?_)
    rw [State.markCorrected, corrects]
    rfl
  case stray =>
    refine congrArg Host.Outcome.next (if_neg ?_)
    rw [inWindow_iff, not_le]
    exact outside

end Sys2Proof.Machine

/-! ## Slots (R150 to R154) -/

namespace Sys2Proof.Machine

/-! ### Sending a phase setpoint -/

theorem driveDest_eq (s : State) (d : Fin 12) : s.driveDest d = (s.jobs.cfg.driveStations[d]).getD 0xFF := by
  unfold State.driveDest
  cases s.jobs.cfg.driveStations[d] <;> rfl

/-- A setpoint ties with one of another lane when their releases are equal (R153). -/
theorem ties_iff (s : State) (e : Entry) : s.waitingSetpoints.any (Due.tiesWith e) = true ↔
    ∃ k y, Due.phs k y ∈ s.waitingSetpoints ∧ y.lane ≠ e.lane ∧ y.release = e.release := by
  rw [List.any_eq_true]
  constructor
  · rintro ⟨_ | _, waits, ties⟩
    · simp only [Due.tiesWith, Bool.and_eq_true, bne_iff_ne, beq_iff_eq] at ties
      exact ⟨_, _, waits, ties⟩
    · cases ties
  · rintro ⟨k, y, waits, ties⟩
    exact ⟨_, waits, by simpa only [Due.tiesWith, Bool.and_eq_true, bne_iff_ne, beq_iff_eq] using ties⟩

/-- Settles O25: the order, the entry, the drive and the frame, one after another. -/
theorem phaseSetpointIsSent : Obligations.PhaseSetpointIsSent := by
  intro s own n e d x tie dest frame
  refine ⟨s.orderAfter e, fun isTie => if_pos ((ties_iff s e).mpr isTie), fun noTie => if_neg (mt (ties_iff s e).mp noTie), ?_⟩
  have entry : (fun p : Plan => p.sendPhs e x.next) = fun p => { p with
      entries := atFirst (fun y => y.lane == e.lane && y.phs == .due) (fun y => { y with phs := .sent x.next }) p.entries } := by
    funext p
    rw [Plan.sendPhs, updateFirst_eq_atFirst]
  have station : s.driveDest d = dest := driveDest_eq s d
  have form : s.sendDue own (.phs n e) =
      (((s.setPort { s.port with order := s.orderAfter e }).modPlan n fun p => p.sendPhs e x.next).modDrive d
        fun y => y.send (.phs n e.lane)).sendOwn own Frame.phs (s.driveDest d) 0 (phsPayload e x.next) := rfl
  rw [form, station, entry, modPlan_eq_planChanged]
  rfl

/-! ### A slot by class -/

section
variable {s : State} {own : Byte}

theorem sendItem_setpoint {x : Due} (next : s.nextSetpoint = some x) : s.sendItem own = s.sendDue own x := by
  rw [State.sendItem, next]

theorem sendItem_noSetpoint (none : s.nextSetpoint = none) : s.sendItem own = s.sendReport own := by
  rw [State.sendItem, none]

theorem sendReport_report {r : RepeatReport} {rest : List RepeatReport} (waits : s.report.rpts = r :: rest) :
    s.sendReport own = (s.sendOwn own Frame.rpt 0 0 (rptPayload r)).setReport { s.report with rpts := rest } := by
  rw [State.sendReport, waits]

theorem sendReport_noReport (none : s.report.rpts = []) : s.sendReport own = s.sendAnswer own := by
  rw [State.sendReport, none]

theorem sendAnswer_answer {a : Answer} {rest : List Answer} (waits : s.answers = a :: rest) :
    s.sendAnswer own = (s.sendOwn own Frame.mga a.dest a.tag (mgaPayload a)).setAnswers rest := by
  rw [State.sendAnswer, waits]

theorem sendAnswer_noAnswer (none : s.answers = []) : s.sendAnswer own = s.sendAtn own := by
  rw [State.sendAnswer, none]

theorem sendAtn_atn {k : Fin 18} (waits : s.attention.waiting = some k) : s.sendAtn own =
    (s.sendOwn own Frame.atn 0 0 (atnPayload s.attention k)).setAttention { s.attention with waiting := none } := by
  rw [State.sendAtn, waits]

theorem sendAtn_noAtn (none : s.attention.waiting = none) : s.sendAtn own = s := by
  rw [State.sendAtn, none]

/-- A slot of an open window at a working part: what is left of the last cycle frame, then the first item (R150). -/
theorem slot_open (works : s.worksAs own) (window : s.port.window ≠ 0) : s.slot =
    (s.settle.setPort { s.settle.port with window := s.port.window - 1 }).sendItem own := by
  obtain ⟨released, station⟩ := works
  have isOpen : ¬(s.port.resetIn = true ∨ s.port.window = 0) := by simp [released, window]
  rw [State.slot, if_neg isOpen, station]
  simp only [(settle_frame s).port]

end

/-- Settles O24: the classes are looked at one after another, each when the ones before it are empty. -/
theorem slotTakesTheFirstClass : Obligations.SlotTakesTheFirstClass := by
  refine fun s own works => ⟨fun closed => congrArg _ (if_pos (.inr closed)), fun window => ?_⟩
  intro u sent header number
  have run : exec .injectionSlot s = .next (u.sendItem own) := congrArg _ (slot_open works window)
  rw [run]
  refine ⟨fun x next => ?setpoint, fun noSetpoint => ?_⟩
  case setpoint => rw [sendItem_setpoint next]
  rw [sendItem_noSetpoint noSetpoint]
  refine ⟨fun r rest waits => ?report, fun noReport a rest waits => ?answer, fun noReport noAnswer k waits => ?atn,
    fun noReport noAnswer noAtn => ?unused⟩
  case report => rw [sendReport_report waits]; rfl
  case answer =>
    have code : a.status.code = number a.status := by cases a.status <;> rfl
    rw [sendReport_noReport noReport, sendAnswer_answer waits, mgaPayload, code]
    rfl
  case atn => rw [sendReport_noReport noReport, sendAnswer_noAnswer noAnswer, sendAtn_atn waits]; rfl
  case unused => rw [sendReport_noReport noReport, sendAnswer_noAnswer noAnswer, sendAtn_noAtn noAtn]

/-! ### The setpoints that wait (R151) -/

theorem mem_dueMoves {p : Plan} {x : Due} : x ∈ p.dueMoves ↔
    ∃ (i : Nat) (m : Move), x = .fmv p.repeatNo i m ∧ p.moves[i]? = some m ∧ m.st = .due := by
  have zipped (i : Nat) (m : Move) : (i, m) ∈ (List.range p.moves.length).zip p.moves ↔ p.moves[i]? = some m := by
    rw [List.mem_iff_getElem?]
    constructor
    · rintro ⟨j, same⟩
      obtain ⟨index, move⟩ := List.getElem?_zip_eq_some.mp same
      obtain ⟨_, rfl⟩ := List.getElem?_eq_some_iff.mp index
      rwa [List.getElem_range]
    · intro move
      have inside := (List.getElem?_eq_some_iff.mp move).1
      exact ⟨i, List.getElem?_zip_eq_some.mpr ⟨by rw [List.getElem?_range inside], move⟩⟩
  simp only [Plan.dueMoves, List.mem_filterMap, Prod.exists, zipped, Option.ite_none_right_eq_some, Option.some.injEq]
  constructor
  · rintro ⟨i, m, there, due, rfl⟩
    exact ⟨i, m, rfl, there, due⟩
  · rintro ⟨i, m, rfl, there, due⟩
    exact ⟨i, m, there, due, rfl⟩

theorem mem_duePhs {p : Plan} {x : Due} : x ∈ p.duePhs ↔ ∃ e ∈ p.entries, x = .phs p.repeatNo e ∧ e.phs = .due := by
  simp only [Plan.duePhs, List.mem_filterMap, Option.ite_none_right_eq_some, Option.some.injEq]
  exact exists_congr fun e => and_congr_right fun _ => by rw [and_comm, eq_comm]

theorem mem_waitingSetpoints {s : State} {x : Due} : x ∈ s.waitingSetpoints ↔
    s.drives[x.drive].eligible = true ∧ ∃ p ∈ s.planner.queue, x ∈ p.dueMoves ∨ x ∈ p.duePhs := by
  simp only [State.waitingSetpoints, List.mem_filter, List.mem_flatMap, List.mem_append]
  exact and_comm

theorem mem_waiting_phs {s : State} {n : Rep} {e : Entry} : Due.phs n e ∈ s.waitingSetpoints ↔
    s.drives[cassetteDrive e.lane].eligible = true
      ∧ ∃ p ∈ s.planner.queue, p.repeatNo = n ∧ e ∈ p.entries ∧ e.phs = .due := by
  rw [mem_waitingSetpoints]
  refine and_congr_right fun _ => exists_congr fun p => and_congr_right fun _ => ?_
  rw [mem_dueMoves, mem_duePhs]
  constructor
  · rintro (⟨_, _, same, -⟩ | ⟨e, member, same, due⟩) <;> cases same
    exact ⟨rfl, member, due⟩
  · rintro ⟨rfl, member, due⟩
    exact .inr ⟨e, member, rfl, due⟩

theorem mem_waiting_fmv {s : State} {n : Rep} {i : Nat} {m : Move} : Due.fmv n i m ∈ s.waitingSetpoints ↔
    s.drives[foilDrive m.web].eligible = true
      ∧ ∃ p ∈ s.planner.queue, p.repeatNo = n ∧ p.moves[i]? = some m ∧ m.st = .due := by
  rw [mem_waitingSetpoints]
  refine and_congr_right fun _ => exists_congr fun p => and_congr_right fun _ => ?_
  rw [mem_dueMoves, mem_duePhs]
  constructor
  · rintro (⟨_, _, same, there, due⟩ | ⟨_, _, same, -⟩) <;> cases same
    exact ⟨rfl, there, due⟩
  · rintro ⟨rfl, there, due⟩
    exact .inl ⟨i, m, rfl, there, due⟩

theorem eligible_iff (x : Drive) : x.eligible = true ↔ x.link = .answering ∧ x.out.length < 4 := by
  rw [Drive.eligible, Bool.and_eq_true, beq_iff_eq, decide_eq_true_eq]
  rfl

/-! ### The order of R152 -/

/-- A number within a quarter of the ring of a base. -/
def Near (n k : BitVec 32) : Prop := -1073741824 < dist n k ∧ dist n k < 1073741824

/-- Near one base the signed distance of two numbers is the difference of their distances from the base. -/
theorem dist_eq_sub {base a b : BitVec 32} (nearA : Near base a) (nearB : Near base b) :
    dist a b = dist base b - dist base a := by
  unfold Near dist at *
  have split' : b - a = (b - base) - (a - base) := by bv_omega
  rw [split', BitVec.toInt_sub, Int.bmod_eq_of_le] <;> omega

/-- A setpoint that may stand before another one in the order of R152, as distances from a base of positions and of
repeat numbers. -/
def Due.NoLater (order : List (Fin 8)) (lf : Nat) (base : Pos) (no : Rep) (x y : Due) : Prop :=
  dist base (x.release lf) ≤ dist base (y.release lf)
    ∧ (dist base (x.release lf) = dist base (y.release lf) →
        match x, y with
        | .fmv n _ m, .fmv k _ o => m.web < o.web ∨ (m.web = o.web ∧ dist no n ≤ dist no k)
        | .fmv .., .phs .. => True
        | .phs .., .fmv .. => False
        | .phs n e, .phs k o => order.idxOf e.lane ≤ order.idxOf o.lane ∧ (e.lane = o.lane → dist no n ≤ dist no k))

/-- The positions and the repeat number of a setpoint near the bases. -/
def Due.NearBases (lf : Nat) (base : Pos) (no : Rep) (x : Due) : Prop :=
  Near base (x.release lf) ∧ Near no x.repeatNo

section
variable {order : List (Fin 8)} {lf : Nat} {base : Pos} {no : Rep}

theorem Due.NoLater.refl (x : Due) : x.NoLater order lf base no x := by
  refine ⟨le_refl _, fun _ => ?_⟩
  cases x with
  | phs n e => exact ⟨le_refl _, fun _ => le_refl _⟩
  | fmv n i m => exact .inr ⟨rfl, le_refl _⟩

/-- Near the bases the order of R152 is the order of distances: earlier releases first, then the ties. -/
theorem Due.before_iff {x y : Due} (nearX : x.NearBases lf base no) (nearY : y.NearBases lf base no) :
    x.before order lf y = true ↔ dist base (x.release lf) < dist base (y.release lf)
      ∨ (dist base (x.release lf) = dist base (y.release lf) ∧ x.tieBefore order y = true) := by
  have distance := dist_eq_sub nearY.1 nearX.1
  simp only [Due.before, distance]
  split_ifs with earlier later
  · exact iff_of_true rfl (.inl (by omega))
  · refine iff_of_false (fun h => by cases h) ?_
    rintro (h | ⟨h, -⟩) <;> omega
  · have same : dist base (x.release lf) = dist base (y.release lf) := by omega
    simp [same]

/-- Of two setpoints the one that does not stand before the other may follow it. -/
theorem Due.noLater_of_not_before {x y : Due} (nearX : x.NearBases lf base no) (nearY : y.NearBases lf base no)
    (not : ¬y.before order lf x = true) : x.NoLater order lf base no y := by
  rw [Due.before_iff nearY nearX, not_or, not_and] at not
  obtain ⟨notEarlier, ties⟩ := not
  refine ⟨by omega, fun same => ?_⟩
  have tie := ties same.symm
  have numbers := dist_eq_sub nearX.2 nearY.2
  cases x with
  | phs n e =>
    cases y with
    | phs k o =>
      simp only [Due.tieBefore] at tie
      simp only [Due.repeatNo] at numbers
      split_ifs at tie with lanes
      · rw [decide_eq_true_eq] at tie
        exact ⟨by rw [lanes], fun _ => by omega⟩
      · rw [decide_eq_true_eq] at tie
        exact ⟨by omega, fun same => absurd same.symm lanes⟩
    | fmv k i m => exact absurd rfl tie
  | fmv n i m =>
    cases y with
    | phs k o => trivial
    | fmv k j o =>
      simp only [Due.tieBefore] at tie
      simp only [Due.repeatNo] at numbers
      split_ifs at tie with webs
      · rw [decide_eq_true_eq] at tie
        exact .inr ⟨webs.symm, by omega⟩
      · rw [decide_eq_true_eq] at tie
        exact .inl (by omega)

/-- What stands before a setpoint may stand before all that may follow this one. -/
theorem Due.NoLater.of_before {x y z : Due} (nearX : x.NearBases lf base no) (nearY : y.NearBases lf base no)
    (before : x.before order lf y = true) (later : y.NoLater order lf base no z) : x.NoLater order lf base no z := by
  obtain ⟨least, ties⟩ := later
  rcases (Due.before_iff nearX nearY).mp before with earlier | ⟨same, tie⟩
  · exact ⟨by omega, fun same => by omega⟩
  · refine ⟨by omega, fun same' => ?_⟩
    have tie' := ties (same.symm.trans same')
    have numbers := dist_eq_sub nearY.2 nearX.2
    cases x with
    | phs n e =>
      cases y with
      | fmv k i m => cases tie
      | phs k o =>
        cases z with
        | fmv l j p => exact tie'
        | phs l p =>
          simp only [Due.tieBefore] at tie
          simp only [Due.repeatNo] at numbers
          obtain ⟨index, number⟩ := tie'
          split_ifs at tie with lanes
          · rw [decide_eq_true_eq] at tie
            refine ⟨lanes ▸ index, fun same => ?_⟩
            have := number (lanes.symm.trans same)
            omega
          · rw [decide_eq_true_eq] at tie
            refine ⟨by omega, fun same => ?_⟩
            rw [same] at tie
            omega
    | fmv n i m =>
      cases z with
      | phs l p => trivial
      | fmv l j p =>
        cases y with
        | phs k o => exact tie'.elim
        | fmv k o q =>
          simp only [Due.tieBefore] at tie
          simp only [Due.repeatNo] at numbers
          split_ifs at tie with webs
          · rw [decide_eq_true_eq] at tie
            rcases tie' with first | ⟨web, number⟩
            · exact .inl (webs ▸ first)
            · exact .inr ⟨webs.trans web, by omega⟩
          · rw [decide_eq_true_eq] at tie
            rcases tie' with first | ⟨web, -⟩
            · exact .inl (tie.trans first)
            · exact .inl (web ▸ tie)

/-- The setpoint taken may stand before every one of the list. -/
theorem firstDue_noLater {xs : List Due} {x : Due} (near : ∀ y ∈ xs, y.NearBases lf base no)
    (first : firstDue order lf xs = some x) : ∀ y ∈ xs, x.NoLater order lf base no y := by
  have fold (ys : List Due) (best : Due) (nearBest : best.NearBases lf base no) (near : ∀ y ∈ ys, y.NearBases lf base no) :
      let r := ys.foldl (fun best y => if y.before order lf best then y else best) best
      r.NearBases lf base no ∧ (∀ z, best.NoLater order lf base no z → r.NoLater order lf base no z)
        ∧ ∀ y ∈ ys, r.NoLater order lf base no y := by
    induction ys generalizing best with
    | nil => exact ⟨nearBest, fun _ h => h, fun _ member => by cases member⟩
    | cons y ys ih =>
      obtain ⟨nearY, near⟩ := List.forall_mem_cons.mp near
      rw [List.foldl_cons]
      split
      next before =>
        obtain ⟨nearR, keeps, all⟩ := ih y nearY near
        exact ⟨nearR, fun z later => keeps z (later.of_before nearY nearBest before),
          List.forall_mem_cons.mpr ⟨keeps y (.refl y), all⟩⟩
      next not =>
        obtain ⟨nearR, keeps, all⟩ := ih best nearBest near
        exact ⟨nearR, keeps, List.forall_mem_cons.mpr ⟨keeps y (Due.noLater_of_not_before nearBest nearY not), all⟩⟩
  cases xs with
  | nil => exact fun _ member => by cases member
  | cons y ys =>
    obtain ⟨nearY, near⟩ := List.forall_mem_cons.mp near
    obtain ⟨-, keeps, all⟩ := fold ys y nearY near
    cases first
    exact List.forall_mem_cons.mpr ⟨keeps y (.refl y), all⟩

end

theorem nextSetpoint_eq_none_iff (s : State) : s.nextSetpoint = none ↔ s.waitingSetpoints = [] := by
  unfold State.nextSetpoint
  cases s.waitingSetpoints with
  | nil => exact iff_of_true rfl rfl
  | cons x xs => exact iff_of_false (fun h => by cases h) (fun h => by cases h)

/-- Settles O27: a scan that keeps the better of two setpoints ends at one that no other stands before. -/
theorem earliestReleaseFirst : Obligations.EarliestReleaseFirst := by
  intro s waiting drive release number eligible near
  refine ⟨fun n e => ?phs, fun n i m => ?fmv, nextSetpoint_eq_none_iff s, fun x next => nextSetpoint_mem next,
    fun base no all x next y waits => ?order⟩
  case phs => exact mem_waiting_phs.trans (and_congr_left fun _ => eligible_iff _)
  case fmv => exact mem_waiting_fmv.trans (and_congr_left fun _ => eligible_iff _)
  case order =>
    have releases (z : Due) : release z = z.release s.jobs.cfg.lf := by cases z <;> rfl
    have numbers (z : Due) : number z = z.repeatNo := by cases z <;> rfl
    have nearBases : ∀ z ∈ waiting, z.NearBases s.jobs.cfg.lf base no := by
      intro z member
      have nearZ := all z member
      rw [releases, numbers] at nearZ
      exact nearZ
    have first := firstDue_noLater nearBases next y waits
    rw [releases, releases, numbers, numbers]
    cases x <;> cases y <;> exact first

end Sys2Proof.Machine

/-! ## Temperature reports (R111 to R118) -/

namespace Sys2Proof.Machine

/-- The members taken in a wished order are the members, each as often. -/
theorem takeInOrder_perm {α : Type} [BEq α] [LawfulBEq α] (xs rest : List α) : (takeInOrder xs rest).Perm rest := by
  induction xs generalizing rest with
  | nil => exact .refl _
  | cons x xs ih =>
    rw [takeInOrder]
    split
    case isTrue isMember => exact ((ih _).cons x).trans (List.perm_cons_erase (by simpa using isMember)).symm
    case isFalse => exact ih rest

theorem Cassette.warmed_eq_reported (x : Cassette) (nsoak ndrift : Nat) :
    Cassette.warmed { x with since := 0 } nsoak = x.reported true nsoak ndrift := by
  obtain ⟨heat, soak, drift, since⟩ := x
  unfold Cassette.warmed Cassette.reported heatAfterReport
  cases heat <;> by_cases none : nsoak = 0 <;> simp [none]

theorem Cassette.cooled_eq_reported (x : Cassette) (nsoak ndrift : Nat) :
    Cassette.cooled { x with since := 0 } ndrift = x.reported false nsoak ndrift := by
  obtain ⟨heat, soak, drift, since⟩ := x
  unfold Cassette.cooled Cassette.reported heatAfterReport
  cases heat <;> by_cases none : ndrift = 0 <;> simp [none]

theorem modCassette_modCassette (s : State) (c : Fin 8) (f g : Cassette → Cassette) :
    (s.modCassette c f).modCassette c g = s.modCassette c (g ∘ f) := by
  refine congrArg s.setCassettes ((Vector.set_set ..).trans ?_)
  exact congrArg (fun x => s.cassettes.set c (g x)) (Vector.getElem_set_self ..)

section
variable (temp : Int) (fault : Bool)

/-- The report is in the band of a cassette's lane. -/
def State.bandHolds (s : State) (c : Fin 8) : Bool := s.active.lanes[c].inBand temp fault

/-- A cassette after the report. -/
def State.cassetteReported (s : State) (c : Fin 8) : Cassette :=
  s.cassettes[c].reported (s.bandHolds temp fault c) s.active.lanes[c].nsoak s.active.lanes[c].ndrift

/-- The report sends a cassette cold at once: READY, out of band, without a drift grace (R118). -/
def State.coldAtOnce (s : State) (c : Fin 8) : Bool :=
  s.cassettes[c].heat == .ready && s.active.lanes[c].ndrift == 0 && !s.bandHolds temp fault c

/-- A report read for one cassette (R112 to R114, R118). -/
theorem readTmp_eq (s : State) (c : Fin 8) : s.readTmp c temp fault =
    if s.coldAtOnce temp fault c then
      (s.setCassettes (s.cassettes.set c (s.cassetteReported temp fault c))).raise 6 (BitVec.ofNat 32 c.val)
    else s.setCassettes (s.cassettes.set c (s.cassetteReported temp fault c)) := by
  unfold State.readTmp State.coldAtOnce State.cassetteReported
  simp only [modCassette_modCassette]
  cases inBand : s.bandHolds temp fault c with
  | true =>
    have holds : s.active.lanes[c].inBand temp fault = true := inBand
    rw [if_pos holds, ← Cassette.warmed_eq_reported]
    simp only [Bool.not_true, Bool.and_false, Bool.false_eq_true, if_false]
    rfl
  | false =>
    have fails : ¬s.active.lanes[c].inBand temp fault = true := Bool.eq_false_iff.mp inBand
    rw [if_neg fails, ← Cassette.cooled_eq_reported]
    simp only [Bool.not_false, Bool.and_true, Bool.and_eq_true, beq_iff_eq]
    rfl

theorem readTmp_cassettes (s : State) (c : Fin 8) :
    (s.readTmp c temp fault).cassettes = s.cassettes.set c (s.cassetteReported temp fault c) := by
  rw [readTmp_eq]
  split <;> rfl

theorem readTmp_attention (s : State) (c : Fin 8) : (s.readTmp c temp fault).attention =
    if s.coldAtOnce temp fault c then s.attention.raise 6 (BitVec.ofNat 32 c.val) else s.attention := by
  rw [readTmp_eq]
  split <;> rfl

theorem readTmp_rest (s : State) (c : Fin 8) :
    ((s.readTmp c temp fault).setCassettes s.cassettes).setAttention s.attention = s := by
  rw [readTmp_eq]
  split <;> rfl

theorem readTmp_cassette_ne (s : State) {c d : Fin 8} (other : d ≠ c) :
    (s.readTmp c temp fault).cassettes[d] = s.cassettes[d] := by
  rw [readTmp_cassettes]
  exact Vector.getElem_set_ne _ _ (fun e => other (Fin.ext e.symm))

theorem readTmp_active (s : State) (c : Fin 8) : (s.readTmp c temp fault).active = s.active :=
  congrArg Jobs.activeBank (readTmp_jobs ..)

theorem coldAtOnce_readTmp_ne (s : State) {c d : Fin 8} (other : d ≠ c) :
    (s.readTmp c temp fault).coldAtOnce temp fault d = s.coldAtOnce temp fault d := by
  rw [State.coldAtOnce, State.bandHolds, readTmp_active, readTmp_cassette_ne temp fault s other]
  rfl

theorem attention_raises (cs : List (Fin 8)) (s : State) :
    (cs.foldl (fun v c => v.raise 6 (BitVec.ofNat 32 c.val)) s).attention =
      cs.foldl (fun a c => a.raise 6 (BitVec.ofNat 32 c.val)) s.attention :=
  (List.foldl_hom State.attention fun _ _ => rfl).symm

/-- The report read for each of some cassettes. -/
def State.readTmps (s : State) (cs : List (Fin 8)) : State := cs.foldl (fun u c => u.readTmp c temp fault) s

theorem readTmps_rest (cs : List (Fin 8)) (s : State) :
    ((s.readTmps temp fault cs).setCassettes s.cassettes).setAttention s.attention = s := by
  induction cs generalizing s with
  | nil => rfl
  | cons c cs ih =>
    have later := congrArg (fun u => (u.setCassettes s.cassettes).setAttention s.attention) (ih (s.readTmp c temp fault))
    exact later.trans (readTmp_rest temp fault s c)

theorem readTmps_cassette {cs : List (Fin 8)} (once : cs.Nodup) (s : State) (d : Fin 8) :
    (s.readTmps temp fault cs).cassettes[d] = if d ∈ cs then s.cassetteReported temp fault d else s.cassettes[d] := by
  induction cs generalizing s with
  | nil => rfl
  | cons c cs ih =>
    obtain ⟨notLater, once⟩ := List.nodup_cons.mp once
    refine (ih once (s.readTmp c temp fault)).trans ?_
    by_cases first : d = c
    · subst first
      rw [if_neg notLater, if_pos List.mem_cons_self, readTmp_cassettes]
      exact Vector.getElem_set_self ..
    · simp only [List.mem_cons, first, false_or, State.cassetteReported, State.bandHolds, readTmp_active,
        readTmp_cassette_ne temp fault s first]

theorem readTmps_attention {cs : List (Fin 8)} (once : cs.Nodup) (s : State) : (s.readTmps temp fault cs).attention =
    (cs.filter (s.coldAtOnce temp fault)).foldl (fun a c => a.raise 6 (BitVec.ofNat 32 c.val)) s.attention := by
  induction cs generalizing s with
  | nil => rfl
  | cons c cs ih =>
    obtain ⟨notLater, once⟩ := List.nodup_cons.mp once
    have same : cs.filter ((s.readTmp c temp fault).coldAtOnce temp fault) = cs.filter (s.coldAtOnce temp fault) :=
      List.filter_congr fun d later => coldAtOnce_readTmp_ne temp fault s fun e => notLater (e ▸ later)
    refine (ih once (s.readTmp c temp fault)).trans ?_
    rw [same, readTmp_attention, List.filter_cons]
    split <;> rfl

end

/-- Settles O17: the cassettes of the source, each once, in the order of service. -/
theorem temperatureReports : Obligations.TemperatureReports := by
  intro s h p o reads temp fault inBand cold
  let u := s.forward (Frame.bytes { kind := Frame.tmp, h, payload := p })
  let served := takeInOrder o.cassettes (s.jobs.cfg.cassettesOf h.src)
  have perm : served.Perm (s.jobs.cfg.cassettesOf h.src) := takeInOrder_perm ..
  have once : served.Nodup := perm.nodup_iff.mpr (.filter _ (List.nodup_finRange 8))
  have isServed (c : Fin 8) : c ∈ served ↔ s.jobs.cfg.heaters[c] = some h.src := by
    rw [perm.mem_iff, StationCfg.cassettesOf, List.mem_filter, and_iff_right (mem_lanes8 c), beq_iff_eq]
  have colds : (s.jobs.cfg.cassettesOf h.src).filter (u.coldAtOnce temp fault) = lanes8.filter cold := by
    rw [StationCfg.cassettesOf, List.filter_filter]
    refine List.filter_congr fun c _ => ?_
    rw [Bool.and_comm, State.coldAtOnce, ← Bool.and_assoc, ← Bool.and_assoc]
    rfl
  refine ⟨u.readTmps temp fault served, congrArg Host.Outcome.next (arriveRead_of_reads reads _), fun c => ?cassettes,
    readTmps_rest temp fault served u, served.filter (u.coldAtOnce temp fault), colds ▸ perm.filter _, fun unordered => ?_,
    (readTmps_attention temp fault once u).trans (attention_raises _ s).symm⟩
  case cassettes =>
    refine (readTmps_cassette temp fault once u c).trans ?_
    simp only [isServed]
    rfl
  · have plain : served = s.jobs.cfg.cassettesOf h.src := by
      simp only [served, unordered, takeInOrder]
    rw [plain, colds]

end Sys2Proof.Machine

/-! ## What a record, a report, a count and an entry to READY do (R42, R55, R80, R81, R167 to R172) -/

namespace Sys2Proof.Machine

/-! ### The cell of an event kind -/

/-- The cell of an event kind. -/
def State.cell (s : State) (k : Fin 18) : EventCell := s.attention.kinds[k]

/-- The event is pending with a detail. -/
def EventCell.Shows (c : EventCell) (v : BitVec 32) : Prop := c.pending = true ∧ c.detail = v

theorem raise_cell_self (s : State) (k : Fin 18) (v : BitVec 32) : ((s.raise k v).cell k).Shows v := by
  unfold State.cell State.raise Attention.raise
  rw [State.setAttention_attention, Attention.select_kinds, Attention.modCell_kinds_self]
  exact ⟨rfl, rfl⟩

theorem raise_cell_ne (s : State) {j k : Fin 18} (v : BitVec 32) (other : j ≠ k) : (s.raise k v).cell j = s.cell j := by
  unfold State.cell State.raise Attention.raise
  rw [State.setAttention_attention, Attention.select_kinds, Attention.modCell_kinds_other _ _ other]

/-! ### The events of a record -/

section
variable (rep : Report) (r : LogRecord) (s : State) {k : Fin 18}

theorem raiseOverwrite_cell_ne (other : k ≠ 15) : (raiseOverwrite rep s).cell k = s.cell k := by
  unfold raiseOverwrite
  split
  · rfl
  · split
    · rfl
    · exact raise_cell_ne s _ other

theorem raiseHalf_cell_ne (other : k ≠ 14) : (raiseHalf rep s).cell k = s.cell k := by
  unfold raiseHalf
  split
  · exact raise_cell_ne s _ other
  · rfl

theorem raiseWatch_cell_ne (other : k ≠ 16) : (raiseWatch rep r s).cell k = s.cell k := by
  unfold raiseWatch
  split
  · rfl
  · exact raise_cell_ne s _ other

end

section
variable (s : State) (r : LogRecord)

theorem writeLog_cell_ne {k : Fin 18} (half : k ≠ 14) (overwrite : k ≠ 15) (watch : k ≠ 16) :
    (s.writeLog r).cell k = s.cell k := by
  unfold State.writeLog
  rw [raiseWatch_cell_ne _ _ _ watch, raiseHalf_cell_ne _ _ half, raiseOverwrite_cell_ne _ _ overwrite]
  rfl

/-- LOG_HALF at the 128th record (R169). -/
theorem writeLog_half : (s.report.log.length = 127 → ((s.writeLog r).cell 14).Shows (s.report.nextLog.setWidth 32))
    ∧ (s.report.log.length ≠ 127 → (s.writeLog r).cell 14 = s.cell 14) := by
  unfold State.writeLog
  rw [raiseWatch_cell_ne _ _ _ (by decide), raiseHalf]
  refine ⟨fun half => ?_, fun other => ?_⟩
  · rw [if_pos half, ← BitVec.ofNat_toNat]
    exact raise_cell_self ..
  · rw [if_neg other, raiseOverwrite_cell_ne _ _ (by decide)]
    rfl

/-- LOG_OVERWRITE when a full log loses its oldest record (R169). -/
theorem writeLog_overwrite : (∀ old rest, 256 ≤ s.report.log.length → s.report.log = old :: rest →
      ((s.writeLog r).cell 15).Shows (old.seq.setWidth 32))
    ∧ (s.report.log.length < 256 → (s.writeLog r).cell 15 = s.cell 15) := by
  unfold State.writeLog
  rw [raiseWatch_cell_ne _ _ _ (by decide), raiseHalf_cell_ne _ _ (by decide), raiseOverwrite]
  refine ⟨fun old rest full log => ?_, fun room => ?_⟩
  · have noRoom : ¬s.report.log.length < Config.logDepth := not_lt.mpr full
    rw [if_neg noRoom, log, ← BitVec.ofNat_toNat]
    exact raise_cell_self ..
  · have room : s.report.log.length < Config.logDepth := room
    rw [if_pos room]
    rfl

/-- WATCH_HIT for the lowest watch entry that matches (R172). -/
theorem writeLog_watch :
    (∀ i, watchHit s.report.watch (s.report.stampRecord r) = some i →
      ((s.writeLog r).cell 16).Shows (BitVec.ofNat 32 i.val))
    ∧ (watchHit s.report.watch (s.report.stampRecord r) = none → (s.writeLog r).cell 16 = s.cell 16) := by
  unfold State.writeLog raiseWatch
  refine ⟨fun i hit => ?_, fun none => ?_⟩
  · rw [hit]
    exact raise_cell_self ..
  · rw [none]
    exact (raiseHalf_cell_ne _ _ (by decide)).trans (raiseOverwrite_cell_ne _ _ (by decide))

end

/-! ### The watch entries -/

theorem matches_iff (w : Watch) (lane : Fin 8) (design : Option (Fin 64)) (d : Decision) :
    w.Matches lane design d ↔ w.enabled = true ∧ (w.laneOn = true → w.lane = lane)
      ∧ (w.designOn = true → design = some w.design) ∧ (w.clsOn = true → w.cls = d.cls) := by
  cases d <;> exact Iff.rfl

/-- A watch entry matches the record as it is written when it matches the record's lane, design and outcome (R172). -/
theorem isHit_iff (w : Watch) (rep : Report) (r : LogRecord) :
    w.isHit (rep.stampRecord r) = true ↔ w.Matches r.lane r.design r.decision := by
  rw [matches_iff]
  obtain ⟨enabled, lane, laneOn, design, designOn, cls, clsOn, once⟩ := w
  cases laneOn <;> cases designOn <;> cases clsOn <;> simp [Watch.isHit, Report.stampRecord, and_assoc]

/-- The lowest of the watch entries that match. -/
theorem watchHit_eq_some_iff (rep : Report) (r : LogRecord) (i : Fin 4) :
    watchHit rep.watch (rep.stampRecord r) = some i ↔ rep.watch[i].Matches r.lane r.design r.decision
      ∧ ∀ j : Fin 4, rep.watch[j].Matches r.lane r.design r.decision → i ≤ j := by
  have sorted : watches4.Pairwise (· < ·) := List.pairwise_lt_finRange 4
  have all (j : Fin 4) : j ∈ watches4 := List.mem_finRange j
  rw [watchHit, find?_eq_some_iff_of_pairwise (fun _ _ => lt_asymm) sorted, isHit_iff, and_iff_right (all i)]
  refine and_congr_right fun _ => forall_congr' fun j => ?_
  rw [forall_prop_of_true (all j), Bool.eq_false_iff, Ne, isHit_iff, imp_not_comm, not_lt]

theorem watchHit_eq_none_iff (rep : Report) (r : LogRecord) :
    watchHit rep.watch (rep.stampRecord r) = none ↔ ∀ j : Fin 4, ¬rep.watch[j].Matches r.lane r.design r.decision := by
  rw [watchHit, List.find?_eq_none]
  exact ⟨fun none j hit => none j (List.mem_finRange j) ((isHit_iff ..).mpr hit),
    fun none j _ hit => none j ((isHit_iff ..).mp hit)⟩

/-- A watch entry that matches keeps its enable unless its once flag is set (R172). -/
theorem write_watch (rep : Report) (r : LogRecord) (i : Fin 4) :
    (rep.watch[i].Matches r.lane r.design r.decision →
      (rep.write r).watch[i] = { rep.watch[i] with enabled := !rep.watch[i].once })
    ∧ (¬rep.watch[i].Matches r.lane r.design r.decision → (rep.write r).watch[i] = rep.watch[i]) := by
  have cell : (rep.write r).watch[i] = if rep.watch[i].isHit (rep.stampRecord r) && rep.watch[i].once then
      { rep.watch[i] with enabled := false } else rep.watch[i] := Vector.getElem_map ..
  rw [cell]
  refine ⟨fun hit => ?_, fun miss => ?_⟩
  · have enabled : rep.watch[i].enabled = true := hit.1
    rw [(isHit_iff ..).mpr hit]
    generalize rep.watch[i] = w at enabled
    obtain ⟨_, lane, laneOn, design, designOn, cls, clsOn, once⟩ := w
    cases once
    · exact congrArg (fun b => Watch.mk b lane laneOn design designOn cls clsOn false) enabled
    · rfl
  · rw [(Bool.eq_false_iff.mpr (mt (isHit_iff ..).mp miss) : rep.watch[i].isHit (rep.stampRecord r) = false)]
    rfl

/-! ### Reports -/

@[simp] theorem Report.handReport_log (rep : Report) (r : RepeatReport) : (rep.handReport r).log = rep.log := by
  unfold Report.handReport
  split <;> rfl

@[simp] theorem Report.handReport_nextLog (rep : Report) (r : RepeatReport) :
    (rep.handReport r).nextLog = rep.nextLog := by
  unfold Report.handReport
  split <;> rfl

@[simp] theorem Report.handReport_watch (rep : Report) (r : RepeatReport) : (rep.handReport r).watch = rep.watch := by
  unfold Report.handReport
  split <;> rfl

@[simp] theorem Report.handReport_ringSilent (rep : Report) (r : RepeatReport) :
    (rep.handReport r).ringSilent = rep.ringSilent := by
  unfold Report.handReport
  split <;> rfl

/-- A report joins the waiting list, or is discarded in ring silence (R167, R168). -/
theorem Report.handReport_rpts (rep : Report) (r : RepeatReport) :
    (rep.handReport r).rpts = if rep.ringSilent = false then reportJoined rep.rpts r else rep.rpts := by
  unfold Report.handReport
  cases rep.ringSilent <;> rfl

/-! ### Counts -/

/-- An entry of a lane in a list with one entry a lane. -/
theorem find?_lane_of_mem {es : List Entry} (lanes : (es.map (·.lane)).Nodup) {e : Entry} (member : e ∈ es) :
    es.find? (·.lane == e.lane) = some e := by
  obtain ⟨x, found⟩ := Option.isSome_iff_exists.mp
    (List.find?_isSome.mpr ⟨e, member, beq_self_eq_true _⟩ : (es.find? (·.lane == e.lane)).isSome = true)
  have same : x.lane = e.lane := by simpa using List.find?_some found
  rw [found, List.inj_on_of_nodup_map lanes (List.mem_of_find?_eq_some found) member same]

theorem Planner.count_stamped (v : Planner) (l k : Fin 8) (d : Decision) :
    (v.count l d).stamped[k] = if l = k ∧ d = .stamped then countLabel v.stamped[k] else v.stamped[k] := by
  unfold Planner.count
  cases d with
  | stamped => by_cases same : l = k <;> simp [same, Fin.val_inj, countLabel, countUp, Config.maxCount32]
  | suppressed r => simp
  | reject r => simp

theorem Planner.count_rejected (v : Planner) (l k : Fin 8) (d : Decision) :
    (v.count l d).rejected[k] = if l = k ∧ d ≠ .stamped then countLabel v.rejected[k] else v.rejected[k] := by
  unfold Planner.count
  cases d with
  | stamped => simp
  | suppressed r => by_cases same : l = k <;> simp [same, Fin.val_inj, countLabel, countUp, Config.maxCount32]
  | reject r => by_cases same : l = k <;> simp [same, Fin.val_inj, countLabel, countUp, Config.maxCount32]

theorem Planner.countEntry_eq (v : Planner) (e : Entry) :
    v.countEntry e = (e.outcome.map fun d => v.count e.lane d).getD v := by
  unfold Planner.countEntry
  cases e.outcome <;> rfl

/-- The outcome of a lane among entries. -/
def outcomeOf (es : List Entry) (k : Fin 8) : Option Decision := (es.find? (·.lane == k)).bind (·.outcome)

/-- The entries of a plan count once each, for their own lanes (R81). -/
theorem countEntries_lane {es : List Entry} (lanes : (es.map (·.lane)).Nodup) (v : Planner) (k : Fin 8) :
    (es.foldl Planner.countEntry v).stamped[k] =
        (if outcomeOf es k = some .stamped then countLabel v.stamped[k] else v.stamped[k])
      ∧ (es.foldl Planner.countEntry v).rejected[k] =
        (if (outcomeOf es k).isSome = true ∧ outcomeOf es k ≠ some .stamped then countLabel v.rejected[k]
          else v.rejected[k]) := by
  induction es generalizing v with
  | nil => exact ⟨rfl, rfl⟩
  | cons e es ih =>
    obtain ⟨notLater, lanes⟩ := List.nodup_cons.mp lanes
    obtain ⟨stamped, rejected⟩ := ih lanes (v.countEntry e)
    rw [List.foldl_cons, stamped, rejected, Planner.countEntry_eq]
    by_cases own : e.lane = k
    · subst own
      have later : outcomeOf es e.lane = none := by
        have absent : es.find? (·.lane == e.lane) = none :=
          List.find?_eq_none.mpr fun x member same => notLater (List.mem_map.mpr ⟨x, member, by simpa using same⟩)
        rw [outcomeOf, absent]
        rfl
      have here : outcomeOf (e :: es) e.lane = e.outcome := by simp [outcomeOf]
      rw [later, here]
      cases e.outcome with
      | none => exact ⟨rfl, rfl⟩
      | some d =>
        have counted := And.intro (v.count_stamped e.lane e.lane d) (v.count_rejected e.lane e.lane d)
        simpa using counted
    · have here : outcomeOf (e :: es) k = outcomeOf es k := by simp [outcomeOf, own]
      rw [here]
      cases e.outcome with
      | none => exact ⟨rfl, rfl⟩
      | some d =>
        simp only [Option.map_some, Option.getD_some, Planner.count_stamped, Planner.count_rejected, own, false_and,
          if_false, and_self]

/-! ### The entry to READY -/

/-- The planner enters READY: it was DRAINING and no plan is queued (R55). -/
def State.Drained (s : State) : Prop := s.planner.st = .draining ∧ s.planner.queue = []

theorem drainCheck_eq_of_drained {s : State} (drained : s.Drained) : s.drainCheck = s.enterReady := by
  obtain ⟨draining, empty⟩ := drained
  rw [State.drainCheck, draining, empty]
  rfl

theorem drainCheck_eq_of_not {s : State} (not : ¬s.Drained) : s.drainCheck = s := by
  unfold State.drainCheck
  refine if_neg fun both => not ?_
  simpa [State.Drained] using both

@[simp] theorem drainCheck_report (s : State) : s.drainCheck.report = s.report := by
  unfold State.drainCheck State.enterReady
  simp only
  split
  · split <;> rfl
  · rfl

theorem drainCheck_cell_ne (s : State) {k : Fin 18} (other : k ≠ 12) : s.drainCheck.cell k = s.cell k := by
  unfold State.drainCheck State.enterReady
  simp only
  split
  · split
    · exact raise_cell_ne _ _ other
    · rfl
  · rfl

theorem drainCheck_counts (s : State) :
    s.drainCheck.planner.stamped = s.planner.stamped ∧ s.drainCheck.planner.rejected = s.planner.rejected := by
  unfold State.drainCheck State.enterReady
  simp only
  split
  · split <;> exact ⟨rfl, rfl⟩
  · exact ⟨rfl, rfl⟩

theorem drainCheck_st (s : State) : s.drainCheck.planner.st =
    if s.planner.st = .draining ∧ s.planner.queue = [] then .ready else s.planner.st := by
  by_cases drained : s.Drained
  · rw [drainCheck_eq_of_drained drained]
    refine Eq.trans ?_ (if_pos drained).symm
    unfold State.enterReady
    simp only
    split <;> rfl
  · rw [drainCheck_eq_of_not drained]
    exact (if_neg drained).symm

/-- The standby bank's number. -/
theorem standbyNo_eq (j : Jobs) : j.standbyNo = if j.active = 0 then 1 else 0 := rfl

/-- An armed changeover is taken at the entry to READY (R43). -/
theorem drainCheck_taken {s : State} (drained : s.Drained) (armed : s.jobs.arm.isSome = true) :
    s.drainCheck.jobs = { s.jobs with active := if s.jobs.active = 0 then 1 else 0, arm := none }
      ∧ s.drainCheck.tracker = { s.tracker with staged := none }
      ∧ (s.drainCheck.cell 12).Shows (BitVec.ofNat 32 (if s.jobs.active = 0 then (1 : Fin 2) else 0).val) := by
  rw [drainCheck_eq_of_drained drained, ← standbyNo_eq]
  unfold State.enterReady
  simp only
  rw [if_pos (by exact armed)]
  exact ⟨rfl, rfl, raise_cell_self ..⟩

/-- Without an entry to READY, or without an arm, no changeover is taken. -/
theorem drainCheck_kept {s : State} (not : ¬(s.Drained ∧ s.jobs.arm.isSome = true)) :
    s.drainCheck.jobs = s.jobs ∧ s.drainCheck.tracker = s.tracker ∧ s.drainCheck.attention = s.attention := by
  by_cases drained : s.Drained
  · rw [drainCheck_eq_of_drained drained]
    unfold State.enterReady
    simp only
    rw [if_neg (by exact fun armed => not ⟨drained, armed⟩)]
    exact ⟨rfl, rfl, rfl⟩
  · rw [drainCheck_eq_of_not drained]
    exact ⟨rfl, rfl, rfl⟩

end Sys2Proof.Machine

/-! ## A decision made after planning (R79 to R82) -/

namespace Sys2Proof.Machine

theorem PlanFrame.eq {s t : State} (frame : PlanFrame s t) :
    t = { s with planner := t.planner, foil := t.foil, report := t.report, attention := t.attention, jobs := t.jobs
                 tracker := t.tracker } := by
  obtain ⟨pending, port, cassettes, drives, answers, cycDue, freeCount, -, -, -⟩ := frame
  cases t
  simp only [State.mk.injEq]
  exact ⟨pending, port, trivial, trivial, trivial, trivial, cassettes, drives, answers, trivial, trivial, cycDue, freeCount⟩

/-! ### The plan as decided -/

theorem Plan.Consistent.nodup {p : Plan} (h : p.Consistent) : (p.entries.map (·.lane)).Nodup := by
  obtain ⟨-, lanes, -⟩ := h
  exact lanes.imp fun before => ne_of_lt before

section
variable {p : Plan} {l : Fin 8} {e : Entry} (isOpen : p.openEntry l = some e)
include isOpen

theorem openEntry_mem : e ∈ p.entries := List.mem_of_find?_eq_some isOpen

theorem openEntry_lane : e.lane = l ∧ e.outcome = none := by
  have both := List.find?_some isOpen
  simpa [isOpenLane, Entry.undecided] using both

/-- One entry a lane: the decision changes the entry of its lane. -/
theorem updateFirst_openLane (lanes : (p.entries.map (·.lane)).Nodup) (f : Entry → Entry) :
    updateFirst (isOpenLane l) f p.entries = p.entries.map fun x => if x.lane = l then f x else x := by
  obtain ⟨own, -⟩ := openEntry_lane isOpen
  obtain ⟨a, b, entries, -, updated, -⟩ := exists_split_of_find? isOpen
  rw [entries, List.map_append, List.map_cons, List.nodup_append, List.nodup_cons] at lanes
  obtain ⟨-, ⟨behind, -⟩, before⟩ := lanes
  have keeps {xs : List Entry} (others : ∀ x ∈ xs, x.lane ≠ l) : xs.map (fun x => if x.lane = l then f x else x) = xs :=
    (List.map_congr_left fun x member => if_neg (others x member)).trans (List.map_id _)
  have beforeOther : ∀ x ∈ a, x.lane ≠ l := fun x member same =>
    before _ (List.mem_map_of_mem member) _ List.mem_cons_self (same.trans own.symm)
  have behindOther : ∀ x ∈ b, x.lane ≠ l := fun x member same =>
    behind (List.mem_map.mpr ⟨x, member, same.trans own.symm⟩)
  rw [updated, entries, List.map_append, List.map_cons, if_pos own, keeps beforeOther, keeps behindOther]

end

/-- An entry of a plan as it stands after the decision of a lane. -/
def Entry.decidedIn (l : Fin 8) (d : Decision) (x : Entry) : Entry := if x.lane = l then x.decidedAs d else x

@[simp] theorem Entry.decidedIn_lane (l : Fin 8) (d : Decision) (x : Entry) : (x.decidedIn l d).lane = x.lane := by
  unfold Entry.decidedIn
  split <;> rfl

theorem Entry.decidedIn_outcome (l : Fin 8) (d : Decision) (x : Entry) :
    (x.decidedIn l d).outcome = if x.lane = l then some d else x.outcome := by
  unfold Entry.decidedIn
  split <;> rfl

theorem Entry.decidedIn_move (l : Fin 8) (d : Decision) (x : Entry) : (x.decidedIn l d).move = x.move := by
  unfold Entry.decidedIn
  split <;> rfl

/-- The outcomes of the lanes once a lane is decided. -/
theorem outcomeOf_decidedIn {es : List Entry} {l : Fin 8} (some' : ∃ e ∈ es, e.lane = l) (d : Decision) (k : Fin 8) :
    outcomeOf (es.map (Entry.decidedIn l d)) k = if k = l then some d else (es.find? (·.lane == k)).bind (·.outcome) := by
  have lanes : (fun x : Entry => x.lane == k) ∘ Entry.decidedIn l d = fun x => x.lane == k := by
    funext x
    simp
  rw [outcomeOf, List.find?_map, lanes]
  cases found : es.find? (·.lane == k) with
  | none =>
    rw [List.find?_eq_none] at found
    obtain ⟨e, member, own⟩ := some'
    have other : k ≠ l := fun same => found e member (by simpa [same] using own)
    rw [if_neg other]
    rfl
  | some x =>
    have own : x.lane = k := by simpa using List.find?_some found
    simp only [Option.map_some, Option.bind_some, Entry.decidedIn_outcome, own]

section
variable {p : Plan} {l : Fin 8} {e : Entry} (consistent : p.Consistent) (isOpen : p.openEntry l = some e) (d : Decision)
include consistent isOpen

theorem modOpen_decide_entries : (p.modOpen l fun e => e.decide d).entries = p.entries.map (Entry.decidedIn l d) :=
  (updateFirst_openLane isOpen consistent.nodup _).trans
    (List.map_congr_left fun x _ => by rw [decide_eq_decidedAs]; rfl)

theorem decideOpen_entries_map : (p.decideOpen l e d).entries = p.entries.map (Entry.decidedIn l d) := by
  rw [Plan.decideOpen, Plan.withdrawSpent_entries, modOpen_decide_entries consistent isOpen d]

/-- The plan is decided when the decided entry was the last one (R80). -/
theorem decideOpen_done_iff : (p.decideOpen l e d).done = true ↔ ∀ x ∈ p.entries, x.outcome = none → x.lane = l := by
  rw [Plan.done, decideOpen_entries_map consistent isOpen d, List.all_map, List.all_eq_true]
  refine forall_congr' fun x => forall_congr' fun _ => ?_
  by_cases own : x.lane = l
  · simp [Entry.undecided, Entry.decidedIn_outcome, own]
  · simp only [Function.comp, Entry.undecided, Entry.decidedIn_outcome, own, if_false]
    cases x.outcome <;> simp

/-- The move that the decision leaves without an undecided entry to serve, and that was not sent (R70). -/
def Plan.Spends (p : Plan) (e : Entry) (i : Nat) (m : Move) : Prop :=
  e.move = some i ∧ p.moves[i]? = some m ∧ (m.st = .unsent ∨ m.st = .due)
    ∧ ∀ x ∈ p.entries, x.move = some i → x.outcome = none → x.lane = e.lane

omit consistent isOpen in
theorem isUnsent_iff (t : SetState) : t.isUnsent = true ↔ t = .unsent ∨ t = .due := by
  cases t <;> simp [SetState.isUnsent]

theorem spentMove_eq_some_iff (i : Nat) (m : Move) :
    (p.modOpen l fun e => e.decide d).spentMove e.move = some (i, m) ↔ p.Spends e i m := by
  obtain ⟨own, -⟩ := openEntry_lane isOpen
  have needs : (p.modOpen l fun e => e.decide d).entries.any (Entry.needs i) = false
      ↔ ∀ x ∈ p.entries, x.move = some i → x.outcome = none → x.lane = e.lane := by
    rw [modOpen_decide_entries consistent isOpen d, List.any_map, List.any_eq_false, own]
    refine forall_congr' fun x => forall_congr' fun _ => ?_
    by_cases lane : x.lane = l
    · simp [Entry.needs, Entry.undecided, Entry.decidedIn_outcome, lane]
    · simp [Entry.needs, Entry.undecided, Entry.decidedIn_outcome, Entry.decidedIn_move, lane]
  rw [Plan.Spends, ← isUnsent_iff, ← needs]
  constructor
  · exact Plan.spentMove_eq_some
  · rintro ⟨moved, found, unsent, unneeded⟩
    have found' : (p.modOpen l fun e => e.decide d).moves[i]? = some m := found
    simp only [Plan.spentMove, moved, found', unsent, unneeded, Bool.not_false, Bool.and_self, if_true]

/-- The reservation of a spent move is given back (R102). -/
theorem releaseSpent_foil (s : State) :
    (∀ i m, p.Spends e i m → (s.releaseSpent (p.modOpen l fun e => e.decide d) e.move).foil =
        s.foil.set m.web { s.foil[m.web] with reserved := s.foil[m.web].reserved - m.reserved })
      ∧ ((∀ i m, ¬p.Spends e i m) → (s.releaseSpent (p.modOpen l fun e => e.decide d) e.move).foil = s.foil) := by
  unfold State.releaseSpent
  refine ⟨fun i m spends => ?_, fun spendsNone => ?_⟩
  · rw [(spentMove_eq_some_iff consistent isOpen d i m).mpr spends]
    rfl
  · have unspent : (p.modOpen l fun e => e.decide d).spentMove e.move = none :=
      Option.eq_none_iff_forall_ne_some.mpr fun (i, m) some' =>
        spendsNone i m ((spentMove_eq_some_iff consistent isOpen d i m).mp some')
    rw [unspent]

/-- The plan after the decision: its entries and its spent move alone (R70, R79). -/
theorem decideOpen_eq : ∃ moves : List Move,
    p.decideOpen l e d = { p with entries := p.entries.map (Entry.decidedIn l d), moves }
      ∧ (∀ i m, p.Spends e i m → moves = p.moves.set i { m with st := .withdrawn })
      ∧ ((∀ i m, ¬p.Spends e i m) → moves = p.moves) := by
  have entries := modOpen_decide_entries consistent isOpen d
  have open_ : (p.modOpen l fun e => e.decide d) = { p with entries := p.entries.map (Entry.decidedIn l d) } :=
    congrArg (fun es => { p with entries := es }) entries
  cases spent : (p.modOpen l fun e => e.decide d).spentMove e.move with
  | none =>
    refine ⟨p.moves, ?_, fun i m spends => ?_, fun _ => rfl⟩
    · rw [Plan.decideOpen, Plan.withdrawSpent, spent, open_]
    · rw [(spentMove_eq_some_iff consistent isOpen d i m).mpr spends] at spent
      cases spent
  | some x =>
    obtain ⟨k, m⟩ := x
    have spends := (spentMove_eq_some_iff consistent isOpen d k m).mp spent
    refine ⟨p.moves.modify k fun m => { m with st := .withdrawn }, ?_, fun i m' spends' => ?_, fun none => absurd spends (none k m)⟩
    · rw [Plan.decideOpen, Plan.withdrawSpent, spent, open_]
      rfl
    · obtain ⟨at', found, -⟩ := spends'
      obtain ⟨at_, -⟩ := spends
      obtain rfl : k = i := Option.some.inj (at_.symm.trans at')
      rw [List.modify_eq_set_getElem?, found]
      rfl

end

/-! ### The parts of a decision -/

/-- The plan decided, its spent move's foil given back and the record written, the plan not closed yet. -/
def State.recorded (s : State) (p : Plan) (l : Fin 8) (e : Entry) (d : Decision) : State :=
  ((s.releaseSpent (p.modOpen l fun e => e.decide d) e.move).modPlan p.repeatNo fun _ => p.decideOpen l e d).writeLog
    (p.record e d)

/-- The plan counted and reported, gone from the queue, before the test for READY. -/
def State.closing (s : State) (p : Plan) (reports : Bool) : State :=
  (if reports then (s.countPlan p).handReport p.report else s.countPlan p).dropPlan p.repeatNo

theorem closePlan_eq (s : State) (p : Plan) (reports : Bool) :
    s.closePlan p reports = (s.closing p reports).drainCheck := rfl

theorem decideIn_eq (s : State) (p : Plan) (l : Fin 8) (e : Entry) (d : Decision) (reports : Bool) :
    s.decideIn p l e d reports = if (p.decideOpen l e d).done then
      (s.recorded p l e d).closePlan (p.decideOpen l e d) reports else s.recorded p l e d := rfl

section
variable (s : State) (p : Plan) (reports : Bool)

theorem closing_planner : (s.closing p reports).planner = { p.entries.foldl Planner.countEntry s.planner with
    queue := removeFirst (Plan.isRepeat p.repeatNo) (s.countPlan p).planner.queue } := by
  cases reports <;> rfl

theorem closing_st : (s.closing p reports).planner.st = s.planner.st := by
  rw [closing_planner]
  exact countPlan_st s p

theorem closing_queue : (s.closing p reports).planner.queue = (s.closePlan p reports).planner.queue := by
  rw [closePlan_eq, drainCheck_queue]

theorem closing_rest : (s.closing p reports).jobs = s.jobs ∧ (s.closing p reports).tracker = s.tracker
    ∧ (s.closing p reports).attention = s.attention := by
  cases reports <;> exact ⟨rfl, rfl, rfl⟩

theorem closePlan_report : (s.closePlan p reports).report =
    if reports then s.report.handReport p.report else s.report := by
  rw [closePlan_eq, drainCheck_report]
  cases reports <;> rfl

theorem closePlan_cell_ne {k : Fin 18} (other : k ≠ 12) : (s.closePlan p reports).cell k = s.cell k := by
  obtain ⟨-, -, attention⟩ := closing_rest s p reports
  rw [closePlan_eq, drainCheck_cell_ne _ other, State.cell, attention]
  rfl

/-- A closed plan's entries count once each, for their own lanes (R81). -/
theorem closePlan_counts (lanes : (p.entries.map (·.lane)).Nodup) (k : Fin 8) :
    (s.closePlan p reports).planner.stamped[k] =
        (if outcomeOf p.entries k = some .stamped then countLabel s.planner.stamped[k] else s.planner.stamped[k])
      ∧ (s.closePlan p reports).planner.rejected[k] =
        (if (outcomeOf p.entries k).isSome = true ∧ outcomeOf p.entries k ≠ some .stamped
          then countLabel s.planner.rejected[k] else s.planner.rejected[k]) := by
  obtain ⟨stamped, rejected⟩ := drainCheck_counts (s.closing p reports)
  rw [closePlan_eq, stamped, rejected, closing_planner]
  exact countEntries_lane lanes s.planner k

theorem closePlan_st : (s.closePlan p reports).planner.st =
    if s.planner.st = .draining ∧ (s.closePlan p reports).planner.queue = [] then .ready else s.planner.st := by
  rw [closePlan_eq, drainCheck_st, closing_st, drainCheck_queue]

/-- An armed changeover is taken when the last plan closes in DRAINING, and at no other closing (R43, R55). -/
theorem closePlan_changeover :
    let taken : Prop := (s.planner.st = .draining ∧ (s.closePlan p reports).planner.queue = []) ∧ s.jobs.arm.isSome = true
    let other : Fin 2 := if s.jobs.active = 0 then 1 else 0
    (taken → (s.closePlan p reports).jobs = { s.jobs with active := other, arm := none }
        ∧ (s.closePlan p reports).tracker = { s.tracker with staged := none }
        ∧ ((s.closePlan p reports).cell 12).Shows (BitVec.ofNat 32 other.val))
      ∧ (¬taken → (s.closePlan p reports).jobs = s.jobs ∧ (s.closePlan p reports).tracker = s.tracker
        ∧ (s.closePlan p reports).attention = s.attention) := by
  obtain ⟨jobs, tracker, attention⟩ := closing_rest s p reports
  have drained : (s.closing p reports).Drained ↔ s.planner.st = .draining ∧ (s.closePlan p reports).planner.queue = [] := by
    rw [State.Drained, closing_st, closing_queue]
  have takes := @drainCheck_taken (s.closing p reports)
  have keeps := @drainCheck_kept (s.closing p reports)
  simp only [drained, jobs, tracker, attention, ← closePlan_eq] at takes keeps
  exact ⟨fun taken => takes taken.1 taken.2, keeps⟩

end

section
variable (s : State) (p : Plan) (l : Fin 8) (e : Entry) (d : Decision)

/-- The state whose record is written: the report unit and the events stand as before. -/
theorem recorded_before : ∃ u : State, s.recorded p l e d = u.writeLog (p.record e d) ∧ u.report = s.report
    ∧ u.attention = s.attention ∧ u.jobs = s.jobs ∧ u.tracker = s.tracker
    ∧ u.planner = (s.modPlan p.repeatNo fun _ => p.decideOpen l e d).planner := by
  refine ⟨_, rfl, ?_⟩
  unfold State.releaseSpent
  split <;> exact ⟨rfl, rfl, rfl, rfl, rfl⟩

theorem recorded_report : (s.recorded p l e d).report = s.report.write (p.record e d) := by
  obtain ⟨u, written, report, -⟩ := recorded_before s p l e d
  rw [written, writeLog_report, report]

theorem recorded_frame : (s.recorded p l e d).jobs = s.jobs ∧ (s.recorded p l e d).tracker = s.tracker
    ∧ (s.recorded p l e d).planner = (s.modPlan p.repeatNo fun _ => p.decideOpen l e d).planner := by
  obtain ⟨u, written, -, -, jobs, tracker, planner⟩ := recorded_before s p l e d
  rw [written, writeLog_jobs, writeLog_tracker, writeLog_planner, jobs, tracker, planner]
  exact ⟨rfl, rfl, rfl⟩

/-- The events of the decision's record (R169, R172). -/
theorem recorded_cells :
    ((s.report.log.length = 127 → ((s.recorded p l e d).cell 14).Shows (s.report.nextLog.setWidth 32))
      ∧ (s.report.log.length ≠ 127 → (s.recorded p l e d).cell 14 = s.cell 14))
    ∧ ((∀ old rest, 256 ≤ s.report.log.length → s.report.log = old :: rest →
        ((s.recorded p l e d).cell 15).Shows (old.seq.setWidth 32))
      ∧ (s.report.log.length < 256 → (s.recorded p l e d).cell 15 = s.cell 15))
    ∧ ((∀ i, watchHit s.report.watch (s.report.stampRecord (p.record e d)) = some i →
        ((s.recorded p l e d).cell 16).Shows (BitVec.ofNat 32 i.val))
      ∧ (watchHit s.report.watch (s.report.stampRecord (p.record e d)) = none → (s.recorded p l e d).cell 16 = s.cell 16))
    ∧ ∀ k : Fin 18, k ≠ 14 → k ≠ 15 → k ≠ 16 → (s.recorded p l e d).cell k = s.cell k := by
  obtain ⟨u, written, report, attention, -⟩ := recorded_before s p l e d
  have cells (k : Fin 18) : u.cell k = s.cell k := congrArg (fun a => a.kinds[k]) attention
  rw [written, ← report, ← cells 14, ← cells 15, ← cells 16]
  exact ⟨writeLog_half u _, writeLog_overwrite u _, writeLog_watch u _,
    fun k half overwrite watch => (writeLog_cell_ne u _ half overwrite watch).trans (cells k)⟩

end

end Sys2Proof.Machine

/-! ## A decision, told in full -/

namespace Sys2Proof.Machine

/-- A change of the first member that meets a test speaks of that member alone. -/
theorem updateFirst_eq_of_find? {α : Type} {test : α → Bool} {l : List α} {x : α} (found : l.find? test = some x)
    {f g : α → α} (same : f x = g x) : updateFirst test f l = updateFirst test g l := by
  obtain ⟨a, b, -, -, updated, -⟩ := exists_split_of_find? found
  rw [updated, updated, same]

section
variable (s : State) (p : Plan) (l : Fin 8) (e : Entry) (d : Decision) (reports : Bool)

theorem decideIn_report : (s.decideIn p l e d reports).report =
    if (p.decideOpen l e d).done = true ∧ reports = true then
      (s.report.write (p.record e d)).handReport (p.decideOpen l e d).report
    else s.report.write (p.record e d) := by
  rw [decideIn_eq]
  cases (p.decideOpen l e d).done with
  | false => exact recorded_report ..
  | true =>
    rw [if_pos rfl, closePlan_report, recorded_report]
    cases reports <;> rfl

theorem decideIn_report_keeps : (s.decideIn p l e d reports).report.log = (s.report.write (p.record e d)).log
    ∧ (s.decideIn p l e d reports).report.nextLog = (s.report.write (p.record e d)).nextLog
    ∧ (s.decideIn p l e d reports).report.watch = (s.report.write (p.record e d)).watch
    ∧ (s.decideIn p l e d reports).report.ringSilent = s.report.ringSilent := by
  rw [decideIn_report]
  split
  · exact ⟨Report.handReport_log .., Report.handReport_nextLog .., Report.handReport_watch ..,
      Report.handReport_ringSilent ..⟩
  · exact ⟨rfl, rfl, rfl, rfl⟩

theorem decideIn_cell_ne {k : Fin 18} (other : k ≠ 12) :
    (s.decideIn p l e d reports).cell k = (s.recorded p l e d).cell k := by
  rw [decideIn_eq]
  split
  · exact closePlan_cell_ne _ _ _ other
  · rfl

end

/-- The undecided entries of a plan all stand in one lane. -/
def Plan.LastIn (p : Plan) (l : Fin 8) : Prop := ∀ x ∈ p.entries, x.outcome = none → x.lane = l

section
variable {s : State} {n : Rep} {p : Plan} {l : Fin 8} {e : Entry} (consistent : p.Consistent)
  (found : s.findPlan n = some p) (isOpen : p.openEntry l = some e) (d : Decision) (reports : Bool)
include consistent found isOpen

/-- The last decision closes the plan (R80). -/
theorem decideEntry_last (last : p.LastIn l) :
    s.decideEntry n l d reports = (s.recorded p l e d).closePlan (p.decideOpen l e d) reports := by
  rw [decideEntry_open found isOpen, decideIn_eq, if_pos ((decideOpen_done_iff consistent isOpen d).mpr last)]

theorem decideEntry_notLast (notLast : ¬p.LastIn l) : s.decideEntry n l d reports = s.recorded p l e d := by
  rw [decideEntry_open found isOpen, decideIn_eq, if_neg (mt (decideOpen_done_iff consistent isOpen d).mp notLast)]

theorem decideEntry_queue_last (last : p.LastIn l) :
    (s.decideEntry n l d reports).planner.queue = s.planner.queue.eraseP (·.repeatNo == n) := by
  rw [decideEntry_open found isOpen, decideIn_queue found, if_pos ((decideOpen_done_iff consistent isOpen d).mpr last),
    removeFirst_eq_eraseP]
  rfl

/-- While another entry is undecided the plan keeps its place (R79). -/
theorem recorded_queue : ∃ moves : List Move, (s.recorded p l e d).planner.queue = (s.planChanged n fun q => { q with
        entries := q.entries.map fun x => if x.lane = l then x.decidedAs d else x, moves }).planner.queue
      ∧ (∀ i m, p.Spends e i m → moves = p.moves.set i { m with st := .withdrawn })
      ∧ ((∀ i m, ¬p.Spends e i m) → moves = p.moves) := by
  obtain ⟨moves, decided, spent, kept⟩ := decideOpen_eq consistent isOpen d
  obtain ⟨-, -, planner⟩ := recorded_frame s p l e d
  refine ⟨moves, ?_, spent, kept⟩
  have number := findPlan_repeatNo found
  rw [planner, ← modPlan_eq_planChanged, number]
  exact updateFirst_eq_of_find? found decided

/-- The report of the closed plan (R82). -/
theorem decideOpen_report : (p.decideOpen l e d).report = {
    repeatNo := n
    nip := p.nip
    lanes := Vector.ofFn fun k => if k = l then some d else (p.entries.find? (·.lane == k)).bind (·.outcome)
    synth := p.synth
    first := p.first
    gap := false } := by
  obtain ⟨moves, decided, -⟩ := decideOpen_eq consistent isOpen d
  obtain ⟨own, -⟩ := openEntry_lane isOpen
  have outcomes (k : Fin 8) := outcomeOf_decidedIn ⟨e, openEntry_mem isOpen, own⟩ d k
  simp only [← outcomes]
  rw [decided, ← findPlan_repeatNo found]
  rfl

/-- With the last decision the entries count and the report is handed over (R80 to R82, R167). -/
theorem decideEntry_last_counts (last : p.LastIn l) (k : Fin 8) :
    let outcome := if k = l then some d else (p.entries.find? (·.lane == k)).bind (·.outcome)
    (s.decideEntry n l d reports).planner.stamped[k] =
        (if outcome = some .stamped then countLabel s.planner.stamped[k] else s.planner.stamped[k])
      ∧ (s.decideEntry n l d reports).planner.rejected[k] =
        (if outcome.isSome = true ∧ outcome ≠ some .stamped then countLabel s.planner.rejected[k]
          else s.planner.rejected[k]) := by
  obtain ⟨own, -⟩ := openEntry_lane isOpen
  obtain ⟨-, -, planner⟩ := recorded_frame s p l e d
  have lanes : ((p.decideOpen l e d).entries.map (·.lane)).Nodup := by
    rw [Plan.decideOpen_lanes]
    exact consistent.nodup
  have counts := closePlan_counts (s.recorded p l e d) (p.decideOpen l e d) reports lanes k
  rw [decideOpen_entries_map consistent isOpen d, outcomeOf_decidedIn ⟨e, openEntry_mem isOpen, own⟩, planner] at counts
  rw [decideEntry_last consistent found isOpen d reports last]
  exact counts

theorem decideEntry_last_rpts (last : p.LastIn l) : (s.decideEntry n l d reports).report.rpts =
    if reports = true ∧ s.report.ringSilent = false then reportJoined s.report.rpts (p.decideOpen l e d).report
    else s.report.rpts := by
  rw [decideEntry_last consistent found isOpen d reports last, closePlan_report, recorded_report]
  cases reports with
  | false => rfl
  | true =>
    rw [if_pos rfl, Report.handReport_rpts]
    exact if_congr (and_iff_right rfl).symm rfl rfl

/-- The planner's state, the jobs, the staged pitch and CHANGEOVER_TAKEN after the last decision (R43, R55). -/
theorem decideEntry_last_st (last : p.LastIn l) : (s.decideEntry n l d reports).planner.st =
    if s.planner.st = .draining ∧ (s.decideEntry n l d reports).planner.queue = [] then .ready else s.planner.st := by
  obtain ⟨-, -, planner⟩ := recorded_frame s p l e d
  rw [decideEntry_last consistent found isOpen d reports last, closePlan_st, planner]
  rfl

theorem decideEntry_changeover :
    let t := s.decideEntry n l d reports
    let taken : Prop := p.LastIn l ∧ s.planner.st = .draining ∧ t.planner.queue = [] ∧ s.jobs.arm.isSome = true
    let other : Fin 2 := if s.jobs.active = 0 then 1 else 0
    (taken → t.jobs = { s.jobs with active := other, arm := none } ∧ t.tracker = { s.tracker with staged := none }
        ∧ (t.cell 12).Shows (BitVec.ofNat 32 other.val))
      ∧ (¬taken → t.jobs = s.jobs ∧ t.tracker = s.tracker ∧ t.cell 12 = s.cell 12) := by
  obtain ⟨jobs, tracker, planner⟩ := recorded_frame s p l e d
  obtain ⟨-, -, -, others⟩ := recorded_cells s p l e d
  have cell := others 12 (by decide) (by decide) (by decide)
  by_cases last : p.LastIn l
  · have change := closePlan_changeover (s.recorded p l e d) (p.decideOpen l e d) reports
    rw [decideEntry_last consistent found isOpen d reports last]
    simp only [jobs, tracker, planner] at change
    obtain ⟨takes, keeps⟩ := change
    refine ⟨fun ⟨_, draining, empty, armed⟩ => takes ⟨⟨draining, empty⟩, armed⟩, fun notTaken => ?_⟩
    obtain ⟨sameJobs, sameTracker, sameAttention⟩ := keeps fun ⟨⟨draining, empty⟩, armed⟩ =>
      notTaken ⟨last, draining, empty, armed⟩
    exact ⟨sameJobs, sameTracker, (congrArg (fun a => a.kinds[(12 : Fin 18)]) sameAttention).trans cell⟩
  · rw [decideEntry_notLast consistent found isOpen d reports last]
    exact ⟨fun taken => absurd taken.1 last, fun _ => ⟨jobs, tracker, cell⟩⟩

end

/-- Settles O23: the parts of the decision, one after another: its record and events, the watch entries, the foil, the
plan, the counts, the report, and the entry to READY. -/
theorem decisionIsLoggedAndCounted : Obligations.DecisionIsLoggedAndCounted := by
  intro s n l d reports p e queueConsistent found isOpen t last cell outcome hit spent
  have found : s.findPlan n = some p := found
  have isOpen : p.openEntry l = some e := isOpen
  have consistent : p.Consistent := queueConsistent p (List.mem_of_find?_eq_some found)
  obtain ⟨own, undecided⟩ := openEntry_lane isOpen
  have decided : t = s.decideIn p l e d reports := decideEntry_open found isOpen d reports
  have spends (i : Nat) (m : Move) : p.Spends e i m ↔ spent i m := by rw [Plan.Spends, own]
  obtain ⟨log, nextLog, watch, ringSilent⟩ := decideIn_report_keeps s p l e d reports
  obtain ⟨half, overwrite, ⟨watchHit, watchMiss⟩, others⟩ := recorded_cells s p l e d
  have stays {k : Fin 18} (other : k ≠ 12) : cell t k = (s.recorded p l e d).cell k :=
    (congrArg (fun u : State => u.cell k) decided).trans (decideIn_cell_ne s p l e d reports other)
  obtain ⟨foilSpent, foilKept⟩ := releaseSpent_foil consistent isOpen d s
  have foil : t.foil = (s.releaseSpent (p.modOpen l fun e => e.decide d) e.move).foil := by rw [decided, decideIn_foil]
  have hits (i : Fin 4) : s.report.watch[i].Matches (p.record e d).lane (p.record e d).design (p.record e d).decision
      ↔ hit i := by subst own; rfl
  rw [stays (by decide), stays (by decide), stays (by decide)]
  refine ⟨?log, ?nextLog, half.1, half.2, overwrite.1, overwrite.2, fun i => ?watch, fun i isHit least => ?hit, fun none => ?miss,
    fun i m spend => foil.trans (foilSpent i m ((spends i m).mpr spend)), fun none => foil.trans (foilKept fun i m spend => none i m ((spends i m).mp spend)),
    decideEntry_queue_last consistent found isOpen d reports, fun notLast => ?stays,
    decideEntry_last_counts consistent found isOpen d reports, fun isLast => ?rpts, ?ringSilent,
    decideEntry_last_st consistent found isOpen d reports, decideEntry_changeover consistent found isOpen d reports,
    fun k not12 not14 not15 not16 => (stays not12).trans (others k not14 not15 not16), (decideEntry_frame s n l d reports).eq⟩
  case log =>
    rw [decided, log]
    subst own
    rw [← findPlan_repeatNo found]
    rfl
  case nextLog => rw [decided, nextLog]; rfl
  case watch =>
    have written := write_watch s.report (p.record e d) i
    rw [hits] at written
    rw [decided, watch]
    exact written
  case hit =>
    exact watchHit i ((watchHit_eq_some_iff ..).mpr ⟨(hits i).mpr isHit, fun j match' => least j ((hits j).mp match')⟩)
  case miss => exact watchMiss ((watchHit_eq_none_iff ..).mpr fun j match' => none j ((hits j).mp match'))
  case stays =>
    have same : t = s.recorded p l e d := decideEntry_notLast consistent found isOpen d reports notLast
    obtain ⟨-, -, planner⟩ := recorded_frame s p l e d
    obtain ⟨moves, queue, spentMoves, keptMoves⟩ := recorded_queue consistent found isOpen d
    rw [same, planner, recorded_report]
    refine ⟨rfl, rfl, rfl, rfl, moves, planner ▸ queue, fun i m spend => spentMoves i m ((spends i m).mpr spend),
      fun none => keptMoves fun i m spend => none i m ((spends i m).mp spend)⟩
  case rpts =>
    rw [← decideOpen_report consistent found isOpen d]
    exact decideEntry_last_rpts consistent found isOpen d reports isLast
  case ringSilent => rw [decided, ringSilent]

end Sys2Proof.Machine

/-! ## Some entries of one plan decided, one after another -/

namespace Sys2Proof.Machine

/-! ### The plan in its place -/

namespace QueueSplit
variable {q a b : List Plan} {n : Rep} {p p' : Plan}

theorem find (h : QueueSplit q n a p b) : q.find? (Plan.isRepeat n) = some p := by
  have meets := h.meets
  obtain ⟨rfl, before, -⟩ := h
  rw [List.find?_append, List.find?_eq_none.mpr fun y member => by simp [before y member], List.find?_cons_of_pos meets]
  rfl

theorem removeFirst (h : QueueSplit q n a p b) : removeFirst (Plan.isRepeat n) q = a ++ b := by
  have meets := h.meets
  obtain ⟨rfl, before, -⟩ := h
  induction a with
  | nil => simp [Machine.removeFirst, meets]
  | cons y ys ih =>
    rw [List.forall_mem_cons] at before
    simp [Machine.removeFirst, before.1, ih before.2]

theorem replace (h : QueueSplit q n a p b) (number : p'.repeatNo = n) : QueueSplit (a ++ p' :: b) n a p' b :=
  ⟨rfl, h.before, number⟩

end QueueSplit

/-! ### The entries decided among those of a plan -/

/-- An entry of a plan after the decision of some of its entries, which have a lane each. -/
def Entry.decidedAmong (es : List Entry) (d : Decision) (x : Entry) : Entry :=
  if x.lane ∈ es.map (·.lane) then x.decidedAs d else x

theorem Entry.decidedAmong_singleton (e : Entry) (d : Decision) :
    Entry.decidedAmong [e] d = Entry.decidedIn e.lane d := by
  funext x
  simp [Entry.decidedAmong, Entry.decidedIn]

theorem Entry.decidedAmong_cons {e : Entry} {es : List Entry} (other : e.lane ∉ es.map (·.lane)) (d : Decision)
    (x : Entry) :
    (x.decidedIn e.lane d).decidedAmong es d = x.decidedAmong (e :: es) d := by
  unfold Entry.decidedAmong
  simp only [Entry.decidedIn_lane, List.map_cons, List.mem_cons]
  by_cases own : x.lane = e.lane
  · rw [if_neg (own ▸ other), if_pos (.inl own), Entry.decidedIn, if_pos own]
  · simp only [own, false_or, Entry.decidedIn, if_false]

/-! ### What the decisions of one plan do -/

/-- Some entries of a plan have been decided: the plan as it stands then, its place in the queue unless it closed, the
records, and its report (R79 to R82). -/
structure Decides (s t : State) (a b : List Plan) (p p' : Plan) (es : List Entry) (d : Decision) (reports : Bool) : Prop where
  plan : p' = { p with entries := p.entries.map (Entry.decidedAmong es d), moves := p'.moves }
  moves : ∀ (i : Nat) (m : Move), p'.moves[i]? = some m → m.st = .withdrawn ∨ p.moves[i]? = some m
  queue : t.planner.queue = a ++ if p'.done then b else p' :: b
  log : s.report.log.length ≤ 256 → s.report.LogTook t.report (es.map fun e => p.told e d)
  silent : t.report.ringSilent = s.report.ringSilent
  rpts : t.report.rpts = if p'.done = true ∧ reports = true ∧ s.report.ringSilent = false then
    reportJoined s.report.rpts p'.report else s.report.rpts

namespace Decides
variable {s t u : State} {a b : List Plan} {p q p' : Plan} {e : Entry} {es : List Entry} {d : Decision} {reports : Bool}

theorem none (queue : s.planner.queue = a ++ p :: b) (consistent : p.Consistent) (d : Decision) (reports : Bool) :
    Decides s s a b p p [] d reports := by
  obtain ⟨undone, -⟩ := consistent
  refine ⟨?_, fun i m found => .inr found, ?_, fun bounded => .nil bounded, rfl, ?_⟩
  · have same : p.entries.map (Entry.decidedAmong [] d) = p.entries := List.map_id _
    exact congrArg (fun es => { p with entries := es }) same.symm
  · rw [undone, queue]
    rfl
  · simp [undone]

theorem one {n : Rep} (split : QueueSplit s.planner.queue n a p b) (consistent : p.Consistent)
    (isOpen : p.openEntry e.lane = some e) (d : Decision) (reports : Bool) :
    Decides s (s.decideEntry n e.lane d reports) a b p (p.decideOpen e.lane e d) [e] d reports := by
  have found : s.findPlan n = some p := split.find
  obtain ⟨moves, decided, spent, kept⟩ := decideOpen_eq consistent isOpen d
  obtain ⟨log, nextLog, -, silent⟩ := decideIn_report_keeps s p e.lane e d reports
  rw [decideEntry_open found isOpen]
  refine ⟨?_, ?_, ?_, fun bounded => ?_, silent, ?_⟩
  · rw [Entry.decidedAmong_singleton]
    conv_lhs => rw [decided]
    rw [decided]
  · rw [decided]
    intro i m found
    by_cases spends : ∃ k x, p.Spends e k x
    · obtain ⟨k, x, spends⟩ := spends
      simp only [spent k x spends, List.getElem?_set] at found
      split at found
      · split at found
        · cases found
          exact .inl rfl
        · cases found
      · exact .inr found
    · push Not at spends
      rw [kept spends] at found
      exact .inr found
  · rw [decideIn_queue found, split.removeFirst, split.updateFirst]
    split <;> rfl
  · obtain ⟨tookNext, tookLog⟩ := Report.logTook_write bounded (p.record e d)
    exact ⟨nextLog.trans tookNext, log.trans tookLog⟩
  · rw [decideIn_report]
    by_cases closes : (p.decideOpen e.lane e d).done = true ∧ reports = true
    · rw [if_pos closes, Report.handReport_rpts]
      obtain ⟨done, handed⟩ := closes
      exact if_congr ⟨fun live => ⟨done, handed, live⟩, fun all => all.2.2⟩ rfl rfl
    · rw [if_neg closes, if_neg fun ⟨done, handed, _⟩ => closes ⟨done, handed⟩]
      rfl

theorem cons (first : Decides s t a b p q [e] d reports) (undone : q.done = false)
    (rest : Decides t u a b q p' es d reports) (other : e.lane ∉ es.map (·.lane)) :
    Decides s u a b p p' (e :: es) d reports := by
  have plan := rest.plan
  rw [first.plan, Entry.decidedAmong_singleton] at plan
  refine ⟨?_, fun i m found => ?_, rest.queue, fun bounded => ?_, rest.silent.trans first.silent, ?_⟩
  · simpa only [List.map_map, Function.comp_def, Entry.decidedAmong_cons other] using plan
  · exact (rest.moves i m found).elim .inl (first.moves i m)
  · have took := first.log bounded
    have told : (es.map fun e => q.told e d) = es.map fun e => p.told e d := by
      rw [first.plan]
      rfl
    have stillBounded : t.report.log.length ≤ 256 := by
      rw [took.length]
      omega
    exact took.trans bounded (told ▸ rest.log stillBounded)
  · have unreported : t.report.rpts = s.report.rpts := by simp [first.rpts, undone]
    rw [rest.rpts, first.silent, unreported]

end Decides

/-! ### Entry by entry -/

theorem openEntry_of_mem {p : Plan} (lanes : (p.entries.map (·.lane)).Nodup) {e : Entry} (member : e ∈ p.entries)
    (undecided : e.undecided = true) : p.openEntry e.lane = some e := by
  obtain ⟨x, found⟩ := Option.isSome_iff_exists.mp (List.find?_isSome.mpr ⟨e, member, by simp [isOpenLane, undecided]⟩ :
    (p.entries.find? (isOpenLane e.lane)).isSome = true)
  obtain ⟨own, -⟩ := openEntry_lane found
  rw [← List.inj_on_of_nodup_map lanes (openEntry_mem found) member own]
  exact own ▸ found

/-- The undecided entries once a lane is decided. -/
theorem filter_undecided_decidedIn (l : Fin 8) (d : Decision) (es : List Entry) :
    (es.map (Entry.decidedIn l d)).filter (·.undecided) = (es.filter (·.undecided)).filter (·.lane != l) := by
  induction es with
  | nil => rfl
  | cons x xs ih =>
    rw [List.map_cons, List.filter_cons, ih, List.filter_cons]
    by_cases own : x.lane = l
    · have gone : (x.decidedIn l d).undecided = false := by simp [Entry.undecided, Entry.decidedIn_outcome, own]
      rw [gone]
      cases x.undecided <;> simp [own]
    · have same : x.decidedIn l d = x := if_neg own
      rw [same]
      cases x.undecided <;> simp [own]

/-- Some undecided entries of a plan, in their order. -/
structure Plan.Undecided (p : Plan) (es : List Entry) : Prop where
  sublist : es.Sublist (p.entries.filter (·.undecided))

theorem Plan.Undecided.lanes {p : Plan} {es : List Entry} (h : p.Undecided es) (consistent : p.Consistent) :
    (es.map (·.lane)).Nodup :=
  consistent.nodup.sublist ((h.sublist.trans List.filter_sublist).map _)

theorem decideEntries_decides {n : Rep} {d : Decision} {reports : Bool} {a b : List Plan} :
    ∀ {es : List Entry} {s : State} {p : Plan},
    QueueSplit s.planner.queue n a p b → p.Consistent → p.Undecided es →
      ∃ p', Decides s (es.foldl (fun v e => v.decideEntry n e.lane d reports) s) a b p p' es d reports
  | [], s, p, split, consistent, _ => ⟨p, .none split.queue consistent d reports⟩
  | e :: es, s, p, split, consistent, undecided => by
    have lanes := undecided.lanes consistent
    rw [List.map_cons, List.nodup_cons] at lanes
    obtain ⟨other, -⟩ := lanes
    obtain ⟨member, isUndecided⟩ := List.mem_filter.mp (undecided.sublist.subset List.mem_cons_self)
    have isOpen := openEntry_of_mem consistent.nodup member isUndecided
    have first := Decides.one split consistent isOpen d reports
    have later : (p.decideOpen e.lane e d).Undecided es := by
      refine ⟨?_⟩
      rw [decideOpen_entries_map consistent isOpen d, filter_undecided_decidedIn]
      have others : es.filter (·.lane != e.lane) = es := List.filter_eq_self.mpr fun x behind => by
        simpa using fun own : x.lane = e.lane => other (own ▸ List.mem_map_of_mem behind)
      have parts := undecided.sublist.filter (·.lane != e.lane)
      rwa [List.filter_cons, if_neg (by simp), others] at parts
    cases done : (p.decideOpen e.lane e d).done with
    | true =>
      have none : (p.decideOpen e.lane e d).entries.filter (·.undecided) = [] := by
        rw [List.filter_eq_nil_iff]
        simpa [Plan.done] using done
      have nil : es = [] := List.sublist_nil.mp (none ▸ later.sublist)
      subst nil
      exact ⟨_, first⟩
    | false =>
      have queue := first.queue
      rw [done] at queue
      have split' : QueueSplit (s.decideEntry n e.lane d reports).planner.queue n a (p.decideOpen e.lane e d) b :=
        ⟨queue, split.before, (Plan.decideOpen_repeatNo ..).trans split.number⟩
      obtain ⟨p', rest⟩ := decideEntries_decides split' (consistent.decideOpen done) later
      exact ⟨p', first.cons done rest other⟩

end Sys2Proof.Machine

/-! ## Some entries of every plan decided, plans in queue order (R77, R83) -/

namespace Sys2Proof.Machine

/-! ### The entries chosen -/

/-- The entries chosen from some plans, with their plans: plans in order and entries in lane order. -/
def chosenEntries (choice : Plan → Entry → Bool) (q : List Plan) : List (Plan × Entry) :=
  q.flatMap fun p => (p.entries.filter (choice p)).map fun e => (p, e)

/-- Entries decided one after another, with one outcome. -/
def State.decideEach (s : State) (xs : List (Plan × Entry)) (d : Decision) (reports : Bool) : State :=
  xs.foldl (fun v x => v.decideEntry x.1.repeatNo x.2.lane d reports) s

theorem decideEach_append (s : State) (xs ys : List (Plan × Entry)) (d : Decision) (reports : Bool) :
    s.decideEach (xs ++ ys) d reports = (s.decideEach xs d reports).decideEach ys d reports := List.foldl_append ..

theorem decideEach_plan (s : State) (p : Plan) (es : List Entry) (d : Decision) (reports : Bool) :
    s.decideEach (es.map fun e => (p, e)) d reports = es.foldl (fun v e => v.decideEntry p.repeatNo e.lane d reports) s :=
  List.foldl_map ..

theorem decideAll_eq_decideEach (s : State) (xs : List (Plan × Entry)) (d : Decision) (reports : Bool) :
    s.decideAll (xs.map fun x => (x.1.repeatNo, x.2.lane)) d reports = s.decideEach xs d reports := List.foldl_map ..

/-! ### A plan with its chosen entries decided -/

/-- A plan as it stands when its chosen entries have been decided: its other entries as they stood, its moves as they
stood or withdrawn. -/
structure ChosenDecided (choice : Plan → Entry → Bool) (d : Decision) (p p' : Plan) : Prop where
  plan : p' = { p with
    entries := p.entries.map (fun e => if choice p e = true then e.decidedAs d else e), moves := p'.moves }
  moves : ∀ (i : Nat) (m : Move), p'.moves[i]? = some m → m.st = .withdrawn ∨ p.moves[i]? = some m

theorem decidedAmong_filter {p : Plan} (lanes : (p.entries.map (·.lane)).Nodup) (choice : Entry → Bool) (d : Decision) :
    p.entries.map (Entry.decidedAmong (p.entries.filter choice) d) =
      p.entries.map fun e => if choice e = true then e.decidedAs d else e := by
  refine List.map_congr_left fun x member => ?_
  have chosen : x.lane ∈ (p.entries.filter choice).map (·.lane) ↔ choice x = true := by
    rw [List.mem_map]
    constructor
    · rintro ⟨y, filtered, same⟩
      obtain ⟨member', isChosen⟩ := List.mem_filter.mp filtered
      exact List.inj_on_of_nodup_map lanes member' member same ▸ isChosen
    · exact fun isChosen => ⟨x, List.mem_filter.mpr ⟨member, isChosen⟩, rfl⟩
  unfold Entry.decidedAmong
  simp only [chosen]

theorem ChosenDecided.of_decides {s t : State} {a b : List Plan} {p p' : Plan} {choice : Plan → Entry → Bool}
    {d : Decision}
    {reports : Bool} (h : Decides s t a b p p' (p.entries.filter (choice p)) d reports) (consistent : p.Consistent) :
    ChosenDecided choice d p p' := by
  refine ⟨?_, h.moves⟩
  rw [← decidedAmong_filter consistent.nodup]
  exact h.plan

theorem ChosenDecided.done_iff {choice : Plan → Entry → Bool} {d : Decision} {p p' : Plan}
    (h : ChosenDecided choice d p p') :
    p'.done = !p.entries.any fun e => e.outcome.isNone && !choice p e := by
  rw [h.plan, Plan.done, List.all_map, List.not_any_eq_all_not]
  refine congrArg p.entries.all (funext fun e => ?_)
  cases chosen : choice p e <;> simp [Entry.undecided, Entry.decidedAs, chosen]

/-! ### Plan by plan -/

/-- The chosen entries of the plans behind some others have been decided: what is left of those plans, the records, and
the reports of the plans that closed (R79 to R82). -/
structure DecidesPlans (s t : State) (a q q' : List Plan) (choice : Plan → Entry → Bool) (d : Decision) (reports : Bool) :
    Prop where
  plans : List.Forall₂ (ChosenDecided choice d) q q'
  queue : t.planner.queue = a ++ q'.filter fun p => !p.done
  log : s.report.log.length ≤ 256 → s.report.LogTook t.report ((chosenEntries choice q).map fun x => x.1.told x.2 d)
  silent : t.report.ringSilent = s.report.ringSilent
  rpts : t.report.rpts = if reports = true ∧ s.report.ringSilent = false then
    ((q'.filter Plan.done).map Plan.report).foldl reportJoined s.report.rpts else s.report.rpts

theorem decideEach_decidesPlans {choice : Plan → Entry → Bool}
    (undecided : ∀ p e, choice p e = true → e.undecided = true)
    {d : Decision} {reports : Bool} : ∀ {q a : List Plan} {s : State}, s.planner.queue = a ++ q →
      ((a ++ q).map (·.repeatNo)).Nodup → (∀ p ∈ q, p.Consistent) →
      ∃ q', DecidesPlans s (s.decideEach (chosenEntries choice q) d reports) a q q' choice d reports
  | [], a, s, queue, _, _ => by
    refine ⟨[], .nil, queue, fun bounded => .nil bounded, rfl, ?_⟩
    exact (ite_self _).symm
  | p :: q, a, s, queue, distinct, consistent => by
    obtain ⟨pConsistent, restConsistent⟩ := List.forall_mem_cons.mp consistent
    have before : ∀ y ∈ a, Plan.isRepeat p.repeatNo y = false := by
      intro y member
      rw [List.map_append, List.map_cons, List.nodup_append] at distinct
      obtain ⟨-, -, apart⟩ := distinct
      simpa [Plan.isRepeat] using apart _ (List.mem_map_of_mem member) _ List.mem_cons_self
    have some' : p.Undecided (p.entries.filter (choice p)) :=
      ⟨List.monotone_filter_right _ fun e => undecided p e⟩
    obtain ⟨p', first⟩ := decideEntries_decides (d := d) (reports := reports) ⟨queue, before, rfl⟩ pConsistent some'
    have changed := ChosenDecided.of_decides first pConsistent
    have number : p'.repeatNo = p.repeatNo := by rw [changed.plan]
    have split : chosenEntries choice (p :: q) = (p.entries.filter (choice p)).map (fun e => (p, e)) ++ chosenEntries choice q :=
      List.flatMap_cons
    rw [split, decideEach_append, decideEach_plan]
    generalize (p.entries.filter (choice p)).foldl (fun v e => v.decideEntry p.repeatNo e.lane d reports) s = t at first
    have stay : t.planner.queue = (a ++ if p'.done then [] else [p']) ++ q := by
      rw [first.queue]
      cases p'.done <;> simp
    have distinct' : (((a ++ if p'.done then [] else [p']) ++ q).map (·.repeatNo)).Nodup := by
      refine distinct.sublist ?_
      cases p'.done <;> simp [number]
    obtain ⟨q', rest⟩ := decideEach_decidesPlans undecided stay distinct' restConsistent
    refine ⟨p' :: q', .cons changed rest.plans, ?_, fun bounded => ?_, rest.silent.trans first.silent, ?_⟩
    · rw [rest.queue, List.filter_cons]
      cases p'.done <;> simp
    · have took := first.log bounded
      have stillBounded : t.report.log.length ≤ 256 := by
        rw [took.length]
        omega
      rw [split, List.map_append, List.map_map]
      exact took.trans bounded (rest.log stillBounded)
    · rw [rest.rpts, first.silent, first.rpts, List.filter_cons]
      by_cases handed : reports = true ∧ s.report.ringSilent = false
      · rw [if_pos handed, if_pos handed]
        cases p'.done <;> simp [handed]
      · rw [if_neg handed, if_neg handed, if_neg fun ⟨_, both⟩ => handed both]

/-! ### What a relation of plans says of lists -/

theorem map_filter_of_forall₂ {α β γ : Type} {R : α → β → Prop} {f : α → γ} {g : β → γ} {p : α → Bool} {r : β → Bool}
    (same : ∀ x y, R x y → r y = p x ∧ g y = f x) {xs : List α} {ys : List β} (related : List.Forall₂ R xs ys) :
    (ys.filter r).map g = (xs.filter p).map f := by
  induction related with
  | nil => rfl
  | @cons x y xs ys head tail ih =>
    obtain ⟨test, value⟩ := same x y head
    rw [List.filter_cons, List.filter_cons, test]
    split
    · rw [List.map_cons, List.map_cons, value, ih]
    · exact ih

theorem exists_of_mem_forall₂ {α β : Type} {R : α → β → Prop} {xs : List α} {ys : List β}
    (related : List.Forall₂ R xs ys)
    {y : β} (member : y ∈ ys) : ∃ x ∈ xs, R x y := by
  obtain ⟨i, inside, rfl⟩ := List.getElem_of_mem member
  have inside' : i < xs.length := related.length_eq ▸ inside
  exact ⟨xs[i], List.getElem_mem inside', related.get inside' inside⟩

/-! ### A notice of a drive (R77 to R80) -/

theorem notice_eq_decideEach (s : State) (d : Fin 12) (r : Reason) :
    s.notice d r = s.decideEach (chosenEntries (fun p => p.waitsFor d) s.planner.queue) (.reject r) true := by
  have keys : s.noticeKeys d = (chosenEntries (fun p => p.waitsFor d) s.planner.queue).map fun x => (x.1.repeatNo, x.2.lane) := by
    unfold State.noticeKeys chosenEntries
    rw [List.map_flatMap]
    simp only [List.map_map]
    refine congrArg (s.planner.queue.flatMap ·) (funext fun p => ?_)
    rw [List.filter_congr fun e _ => dependsOn_eq_waitsFor p d e]
    rfl
  rw [State.notice, keys, decideAll_eq_decideEach]

theorem undecided_of_waitsFor (d : Fin 12) (p : Plan) (e : Entry) (waits : p.waitsFor d e = true) :
    e.undecided = true := by
  simp only [Plan.waitsFor, Bool.and_eq_true] at waits
  exact waits.1

/-- A decided entry waits for no drive, and a withdrawn move is waited for by none: what is left waits for the drive no
more. -/
theorem ChosenDecided.waitsFor_eq_false {d : Fin 12} {o : Decision} {p p' : Plan}
    (h : ChosenDecided (fun p => p.waitsFor d) o p p') : ∀ e ∈ p'.entries, p'.waitsFor d e = false := by
  rw [h.plan]
  intro e member
  obtain ⟨x, -, rfl⟩ := List.mem_map.mp member
  cases waits : p.waitsFor d x with
  | true => simp [Plan.waitsFor, Entry.decidedAs]
  | false =>
    simp only [Bool.false_eq_true, if_false]
    unfold Plan.waitsFor at waits ⊢
    cases outcome : x.outcome with
    | some o => simp
    | none =>
      simp only [outcome, Option.isNone_none, Bool.true_and, Bool.or_eq_false_iff] at waits ⊢
      obtain ⟨own, served⟩ := waits
      refine ⟨own, ?_⟩
      cases move : x.move with
      | none => rfl
      | some i =>
        simp only [move, Option.bind_some] at served ⊢
        cases found : p'.moves[i]? with
        | none => rfl
        | some m =>
          rcases h.moves i m found with withdrawn | kept
          · simp [withdrawn]
          · simpa only [kept] using served

/-- Settles O21: the waiting entries of each plan decided, plans in queue order. -/
theorem noticeLeavesNoDependentEntry : Obligations.NoticeLeavesNoDependentEntry := by
  intro s d r distinct consistent t decided
  have isDecideEach := notice_eq_decideEach s d r
  obtain ⟨q', h⟩ := decideEach_decidesPlans (undecided_of_waitsFor d) (d := .reject r) (reports := true) (a := [])
    (s := s) rfl distinct consistent
  rw [← isDecideEach] at h
  refine ⟨isDecideEach, ?_, h.log, fun p left => ?_⟩
  · rw [h.queue, List.nil_append]
    refine map_filter_of_forall₂ (fun p p' changed => ⟨?_, ?_⟩) h.plans
    · rw [changed.done_iff, Bool.not_not]
    · rw [changed.plan]
      simp only [List.map_map, Prod.mk.injEq, true_and]
      refine List.map_congr_left fun e _ => ?_
      cases waits : p.waitsFor d e <;> simp [waits, Entry.decidedAs]
  · rw [h.queue, List.nil_append] at left
    obtain ⟨_, -, changed⟩ := exists_of_mem_forall₂ h.plans (List.mem_filter.mp left).1
    exact changed.waitsFor_eq_false

end Sys2Proof.Machine

/-! ## What a flush would leave (R80 to R83, R102)

Rejecting an entry changes neither the counts nor the log sequence that a flush of the whole queue would leave, so that
whatever has been rejected of a queue that is then empty, it was given up. -/

namespace Sys2Proof.Machine

/-! ### The outcomes a flush leaves -/

/-- The lane would count as stamped, as the plan stands. -/
def Plan.willStamp (p : Plan) (k : Fin 8) : Bool := p.flushedOutcome k == some .stamped

/-- The lane would count as rejected, as the plan stands. -/
def Plan.willReject (p : Plan) (k : Fin 8) : Bool := (p.flushedOutcome k).isSome && p.flushedOutcome k != some .stamped

section
variable {p : Plan} {l : Fin 8} {e : Entry} (consistent : p.Consistent) (isOpen : p.openEntry l = some e) (r : Reason)
include consistent isOpen

theorem flushedOutcome_open : p.flushedOutcome l = some (.reject .flushed) := by
  obtain ⟨own, undecided⟩ := openEntry_lane isOpen
  have found := find?_lane_of_mem consistent.nodup (openEntry_mem isOpen)
  rw [own] at found
  rw [Plan.flushedOutcome, found, Option.map_some, undecided]
  rfl

theorem flushedOutcome_decideOpen (d : Decision) (k : Fin 8) :
    (p.decideOpen l e d).flushedOutcome k = if k = l then some d else p.flushedOutcome k := by
  obtain ⟨own, -⟩ := openEntry_lane isOpen
  have lanes : (fun x : Entry => x.lane == k) ∘ Entry.decidedIn l d = fun x => x.lane == k := by
    funext x
    simp
  rw [Plan.flushedOutcome, decideOpen_entries_map consistent isOpen d, List.find?_map, lanes, Plan.flushedOutcome]
  by_cases same : k = l
  · subst same
    have found := find?_lane_of_mem consistent.nodup (openEntry_mem isOpen)
    rw [own] at found
    simp [found, Entry.decidedIn_outcome, own]
  · rw [if_neg same]
    cases found : p.entries.find? (·.lane == k) with
    | none => rfl
    | some x =>
      have lane : x.lane = k := by simpa using List.find?_some found
      simp [Entry.decidedIn_outcome, lane, same]

/-- A rejection leaves what the lanes of the plan would count as. -/
theorem willCount_decideOpen (k : Fin 8) : (p.decideOpen l e (.reject r)).willStamp k = p.willStamp k
    ∧ (p.decideOpen l e (.reject r)).willReject k = p.willReject k := by
  unfold Plan.willStamp Plan.willReject
  rw [flushedOutcome_decideOpen consistent isOpen]
  by_cases same : k = l
  · subst same
    rw [flushedOutcome_open consistent isOpen, if_pos rfl]
    exact ⟨rfl, rfl⟩
  · rw [if_neg same]
    exact ⟨rfl, rfl⟩

/-- With the last decision the lanes' own outcomes are the ones the flush would leave. -/
theorem flushedOutcome_last {d : Decision} (last : p.LastIn l) (k : Fin 8) :
    (if k = l then some d else (p.entries.find? (·.lane == k)).bind (·.outcome)) =
      (p.decideOpen l e d).flushedOutcome k := by
  rw [flushedOutcome_decideOpen consistent isOpen]
  by_cases same : k = l
  · rw [if_pos same, if_pos same]
  · rw [if_neg same, if_neg same, Plan.flushedOutcome]
    cases found : p.entries.find? (·.lane == k) with
    | none => rfl
    | some x =>
      have lane : x.lane = k := by simpa using List.find?_some found
      cases outcome : x.outcome with
      | some o => simp [outcome]
      | none => exact absurd (last x (List.mem_of_find?_eq_some found) outcome) (lane ▸ same)

end

/-! ### What stays the same -/

/-- How many entries of the queue are undecided. -/
def undecidedCount (q : List Plan) : Nat := (q.map fun p => (p.entries.filter (·.undecided)).length).sum

theorem undecidedEntries_eq (s : State) :
    s.undecidedEntries = chosenEntries (fun _ e => e.outcome.isNone) s.planner.queue := rfl

theorem length_undecidedEntries (s : State) : s.undecidedEntries.length = undecidedCount s.planner.queue := by
  unfold State.undecidedEntries undecidedCount
  rw [List.length_flatMap]
  simp only [List.length_map]
  rfl

/-- Two states of which a flush would leave the same log sequence, the same counts and the same remaining foil. -/
structure SameFlush (s t : State) : Prop where
  log : t.report.nextLog + BitVec.ofNat 16 (undecidedCount t.planner.queue) =
    s.report.nextLog + BitVec.ofNat 16 (undecidedCount s.planner.queue)
  stamped : ∀ k : Fin 8, countLabel^[t.planner.queue.countP (Plan.willStamp · k)] t.planner.stamped[k] =
    countLabel^[s.planner.queue.countP (Plan.willStamp · k)] s.planner.stamped[k]
  rejected : ∀ k : Fin 8, countLabel^[t.planner.queue.countP (Plan.willReject · k)] t.planner.rejected[k] =
    countLabel^[s.planner.queue.countP (Plan.willReject · k)] s.planner.rejected[k]
  foil : ∀ f : Fin 4, t.foil[f].remaining = s.foil[f].remaining

namespace SameFlush
variable {s t u : State}

theorem refl (s : State) : SameFlush s s := ⟨rfl, fun _ => rfl, fun _ => rfl, fun _ => rfl⟩

theorem trans (a : SameFlush s t) (b : SameFlush t u) : SameFlush s u :=
  ⟨b.log.trans a.log, fun k => (b.stamped k).trans (a.stamped k), fun k => (b.rejected k).trans (a.rejected k),
    fun f => (b.foil f).trans (a.foil f)⟩

/-- Only the plans and the counts, the log sequence and the foil are asked for. -/
theorem of_same (planner : t.planner = s.planner) (report : t.report.nextLog = s.report.nextLog)
    (foil : t.foil = s.foil) :
    SameFlush s t := by
  refine ⟨?_, fun k => ?_, fun k => ?_, fun f => ?_⟩
  · rw [planner, report]
  · rw [planner]
  · rw [planner]
  · rw [foil]

/-- A queue that empties so was given up. -/
theorem givenUp (h : SameFlush s t) (empty : t.planner.queue = []) (balanced : s.FoilConsistent → t.FoilConsistent) :
    s.GivenUp t := by
  obtain ⟨log, stamped, rejected, foil⟩ := h
  simp only [empty] at log stamped rejected
  refine ⟨empty, ?_, fun k => ⟨stamped k, rejected k⟩, fun f => ⟨foil f, fun consistent => ?_⟩⟩
  · rw [length_undecidedEntries, ← log]
    exact (BitVec.add_zero _).symm
  · obtain ⟨account, -⟩ := balanced consistent
    obtain ⟨-, -, sum⟩ := account f
    rw [sum, State.reservedSum, empty]
    rfl

end SameFlush

theorem length_filter_decideOpen {p : Plan} {l : Fin 8} {e : Entry} (isOpen : p.openEntry l = some e) (d : Decision) :
    ((p.decideOpen l e d).entries.filter (·.undecided)).length + 1 = (p.entries.filter (·.undecided)).length := by
  obtain ⟨-, undecided⟩ := openEntry_lane isOpen
  obtain ⟨a, b, entries, -, updated, -⟩ := exists_split_of_find? isOpen
  have open_ : e.undecided = true := by rw [Entry.undecided, undecided]; rfl
  rw [Plan.decideOpen_entries, updated, entries]
  simp only [List.filter_append, List.filter_cons, Entry.decide_undecided, open_, if_true, Bool.false_eq_true, if_false,
    List.length_append, List.length_cons]
  omega

theorem undecidedCount_split (a b : List Plan) (p : Plan) : undecidedCount (a ++ p :: b) =
    undecidedCount (a ++ b) + (p.entries.filter (·.undecided)).length := by
  simp only [undecidedCount, List.map_append, List.map_cons, List.sum_append, List.sum_cons]
  omega

theorem countP_split (test : Plan → Bool) (a b : List Plan) (p : Plan) :
    (a ++ p :: b).countP test = (a ++ b).countP test + if test p = true then 1 else 0 := by
  simp only [List.countP_append, List.countP_cons]
  omega

/-- A plan that is done has no undecided entry. -/
theorem length_filter_of_done {p : Plan} (done : p.done = true) : (p.entries.filter (·.undecided)).length = 0 := by
  rw [List.length_eq_zero_iff, List.filter_eq_nil_iff]
  simpa [Plan.done] using done

/-- One more count, taken now or later. -/
theorem iterate_countLabel_closed (c : Bool) (n m : Nat) :
    countLabel^[n] (if c = true then countLabel m else m) = countLabel^[n + if c = true then 1 else 0] m := by
  cases c <;> rfl

@[simp] theorem releaseSpent_remaining (s : State) (p : Plan) (i : Option Nat) (f : Fin 4) :
    (s.releaseSpent p i).foil[f].remaining = s.foil[f].remaining := by
  unfold State.releaseSpent
  split
  · rfl
  next k m _ =>
    by_cases same : m.web = f
    · subst same
      simp [State.modFoil, FoilAccount.release]
    · rw [modFoil_other _ _ same]

/-- A rejection leaves what a flush would leave (R79 to R81). -/
theorem SameFlush.decideEntry {s : State} (consistent : s.QueueConsistent) (n : Rep) (l : Fin 8) (r : Reason)
    (reports : Bool) : SameFlush s (s.decideEntry n l (.reject r) reports) := by
  cases found : s.findPlan n with
  | none => rw [decideEntry_noPlan found]; exact .refl s
  | some p =>
    cases isOpen : p.openEntry l with
    | none => rw [decideEntry_decided found isOpen]; exact .refl s
    | some e =>
      have pConsistent := consistent p (List.mem_of_find?_eq_some found)
      obtain ⟨a, b, split⟩ := QueueSplit.of_findPlan found
      have counts := willCount_decideOpen pConsistent isOpen r
      have fewer := length_filter_decideOpen isOpen (.reject r)
      obtain ⟨-, nextLog, -⟩ := decideIn_report_keeps s p l e (.reject r) reports
      have next : (s.decideEntry n l (.reject r) reports).report.nextLog = s.report.nextLog + 1 := by
        rw [decideEntry_open found isOpen, nextLog]
        rfl
      have foil (f : Fin 4) : (s.decideEntry n l (.reject r) reports).foil[f].remaining = s.foil[f].remaining := by
        rw [decideEntry_open found isOpen, decideIn_foil, releaseSpent_remaining]
      have queue := decideIn_queue found l e (.reject r) reports
      rw [← decideEntry_open found isOpen, split.removeFirst, split.updateFirst] at queue
      have log (m : Nat) : s.report.nextLog + 1 + BitVec.ofNat 16 m = s.report.nextLog + BitVec.ofNat 16 (m + 1) := by
        rw [BitVec.add_assoc, Nat.add_comm m 1, BitVec.ofNat_add]
        rfl
      by_cases last : p.LastIn l
      · have done := (decideOpen_done_iff pConsistent isOpen (.reject r)).mpr last
        rw [if_pos done] at queue
        rw [length_filter_of_done done] at fewer
        refine ⟨?_, fun k => ?_, fun k => ?_, foil⟩
        · rw [queue, next, split.queue, undecidedCount_split, log, ← fewer]
        · obtain ⟨stamped, -⟩ := decideEntry_last_counts pConsistent found isOpen (.reject r) reports last k
          rw [flushedOutcome_last pConsistent isOpen last] at stamped
          rw [queue, split.queue, countP_split, ← (counts k).1, ← iterate_countLabel_closed, stamped]
          simp only [Plan.willStamp, beq_iff_eq]
        · obtain ⟨-, rejected⟩ := decideEntry_last_counts pConsistent found isOpen (.reject r) reports last k
          rw [flushedOutcome_last pConsistent isOpen last] at rejected
          rw [queue, split.queue, countP_split, ← (counts k).2, ← iterate_countLabel_closed, rejected]
          simp only [Plan.willReject, Bool.and_eq_true, bne_iff_ne]
      · have undone := mt (decideOpen_done_iff pConsistent isOpen (.reject r)).mp last
        rw [if_neg undone] at queue
        have planner : (s.decideEntry n l (.reject r) reports).planner.stamped = s.planner.stamped
            ∧ (s.decideEntry n l (.reject r) reports).planner.rejected = s.planner.rejected := by
          obtain ⟨-, -, planner⟩ := recorded_frame s p l e (.reject r)
          rw [decideEntry_notLast pConsistent found isOpen _ _ last, planner]
          exact ⟨rfl, rfl⟩
        obtain ⟨stamped, rejected⟩ := planner
        refine ⟨?_, fun k => ?_, fun k => ?_, foil⟩
        · rw [queue, next, split.queue, undecidedCount_split, undecidedCount_split, log, ← fewer, Nat.add_assoc]
        · rw [queue, stamped, split.queue, countP_split, countP_split, (counts k).1]
        · rw [queue, rejected, split.queue, countP_split, countP_split, (counts k).2]

end Sys2Proof.Machine

/-! ## What a decision and a cycle unit read

A decision reads the plans, the jobs, the foil account and the report unit alone; a unit of a cycle frame reads no item
of the ring port. Both are told as relations of states that the acts follow. -/

namespace Sys2Proof.Machine

/-! ### Acts that read the plans -/

/-- Two states with the same plans, jobs, foil account and reports. -/
structure SamePlans (s t : State) : Prop where
  planner : t.planner = s.planner
  jobs : t.jobs = s.jobs
  foil : t.foil = s.foil
  report : t.report = s.report

/-- A relation of states with the same plans that each small change of a decision keeps. -/
structure FollowsPlans (R : State → State → Prop) : Prop where
  same : ∀ {s t}, R s t → SamePlans s t
  raise : ∀ {s t} k d, R s t → R (s.raise k d) (t.raise k d)
  planner : ∀ {s t} v, R s t → R (s.setPlanner v) (t.setPlanner v)
  report : ∀ {s t} v, R s t → R (s.setReport v) (t.setReport v)
  foil : ∀ {s t} v, R s t → R (s.setFoil v) (t.setFoil v)
  pointer : ∀ {s t} v, R s t → R ((s.setJobs v).setTracker { s.tracker with staged := none })
    ((t.setJobs v).setTracker { t.tracker with staged := none })

namespace FollowsPlans
variable {R : State → State → Prop} (k : FollowsPlans R) {s t : State}
include k

theorem modPlan (n : Rep) (f : Plan → Plan) (r : R s t) : R (s.modPlan n f) (t.modPlan n f) := by
  unfold State.modPlan
  rw [(k.same r).planner]
  exact k.planner _ r

theorem modFoil (w : Fin 4) (g : FoilAccount → FoilAccount) (r : R s t) : R (s.modFoil w g) (t.modFoil w g) := by
  unfold State.modFoil
  rw [(k.same r).foil]
  exact k.foil _ r

theorem releaseSpent (p : Plan) (i : Option Nat) (r : R s t) : R (s.releaseSpent p i) (t.releaseSpent p i) := by
  unfold State.releaseSpent
  split
  · exact r
  · exact k.modFoil _ _ r

theorem writeLog (x : LogRecord) (r : R s t) : R (s.writeLog x) (t.writeLog x) := by
  have overwritten {rep : Report} {s t : State} (r : R s t) : R (raiseOverwrite rep s) (raiseOverwrite rep t) := by
    unfold raiseOverwrite
    split
    · exact r
    · split
      · exact r
      · exact k.raise _ _ r
  have half {rep : Report} {s t : State} (r : R s t) : R (raiseHalf rep s) (raiseHalf rep t) := by
    unfold raiseHalf
    split
    · exact k.raise _ _ r
    · exact r
  have watched {rep : Report} {s t : State} (r : R s t) : R (raiseWatch rep x s) (raiseWatch rep x t) := by
    unfold raiseWatch
    split
    · exact r
    · exact k.raise _ _ r
  unfold State.writeLog
  rw [(k.same r).report]
  exact watched (half (overwritten (k.report _ r)))

theorem takeChangeover (r : R s t) : R s.takeChangeover t.takeChangeover := by
  unfold State.takeChangeover
  rw [(k.same r).jobs]
  exact k.raise _ _ (k.pointer _ r)

theorem enterReady (r : R s t) : R s.enterReady t.enterReady := by
  obtain ⟨planner, jobs, -, -⟩ := k.same r
  unfold State.enterReady
  simp only
  rw [planner]
  by_cases armed : s.jobs.arm.isSome = true
  · have armed' : t.jobs.arm.isSome = true := jobs ▸ armed
    rw [if_pos (by exact armed), if_pos (by exact armed')]
    exact k.takeChangeover (k.planner _ r)
  · have unarmed' : ¬t.jobs.arm.isSome = true := jobs ▸ armed
    rw [if_neg (by exact armed), if_neg (by exact unarmed')]
    exact k.planner _ r

theorem drainCheck (r : R s t) : R s.drainCheck t.drainCheck := by
  unfold State.drainCheck
  rw [(k.same r).planner]
  split
  · exact k.enterReady r
  · exact r

theorem closePlan (p : Plan) (reports : Bool) (r : R s t) : R (s.closePlan p reports) (t.closePlan p reports) := by
  have counted : R (s.countPlan p) (t.countPlan p) := by
    unfold State.countPlan
    rw [(k.same r).planner]
    exact k.planner _ r
  have dropped {s t : State} (r : R s t) : R (s.dropPlan p.repeatNo) (t.dropPlan p.repeatNo) := by
    unfold State.dropPlan
    rw [(k.same r).planner]
    exact k.planner _ r
  unfold State.closePlan
  simp only
  refine k.drainCheck (dropped ?_)
  split
  · unfold State.handReport
    rw [(k.same counted).report]
    exact k.report _ counted
  · exact counted

theorem decideEntry (n : Rep) (l : Fin 8) (d : Decision) (reports : Bool) (r : R s t) :
    R (s.decideEntry n l d reports) (t.decideEntry n l d reports) := by
  have found : t.findPlan n = s.findPlan n := by rw [State.findPlan, (k.same r).planner, State.findPlan]
  unfold State.decideEntry
  rw [found]
  split
  · exact r
  next p _ =>
    split
    · exact r
    next e _ =>
      have recorded : R (s.recorded p l e d) (t.recorded p l e d) := k.writeLog _ (k.modPlan _ _ (k.releaseSpent _ _ r))
      rw [decideIn_eq, decideIn_eq]
      split
      · exact k.closePlan _ _ recorded
      · exact recorded

theorem decideAll (keys : List EntryKey) (d : Decision) (reports : Bool) :
    ∀ {s t : State}, R s t → R (s.decideAll keys d reports) (t.decideAll keys d reports) := by
  induction keys with
  | nil => exact id
  | cons key keys ih => exact fun r => ih (k.decideEntry _ _ _ _ r)

theorem notice (d : Fin 12) (x : Reason) (r : R s t) : R (s.notice d x) (t.notice d x) := by
  unfold State.notice State.noticeKeys
  rw [(k.same r).planner]
  exact k.decideAll _ _ _ r

theorem acknowledge (i : PlanItem) (r : R s t) : R (s.acknowledge i) (t.acknowledge i) := by
  cases i with
  | phs n l => exact k.modPlan _ _ r
  | fmv n i => exact k.modPlan _ _ r

end FollowsPlans

/-- Plans, jobs, foil account and reports alone are read by a decision. -/
theorem followsPlans_samePlans : FollowsPlans SamePlans where
  same r := r
  raise _ _ r := ⟨r.planner, r.jobs, r.foil, r.report⟩
  planner _ r := ⟨rfl, r.jobs, r.foil, r.report⟩
  report _ r := ⟨r.planner, r.jobs, r.foil, rfl⟩
  foil _ r := ⟨r.planner, r.jobs, rfl, r.report⟩
  pointer _ r := ⟨r.planner, rfl, r.foil, r.report⟩

/-! ### Units of a cycle frame and the ring port -/

/-- Two states that differ at most in the ring port. -/
def ExceptPort (s t : State) : Prop := t = s.setPort t.port

theorem exceptPort_iff {s t : State} : ExceptPort s t ↔ ∃ p, t = s.setPort p :=
  ⟨fun r => ⟨_, r⟩, fun ⟨_, r⟩ => r ▸ rfl⟩

theorem followsPlans_exceptPort : FollowsPlans ExceptPort where
  same r := by
    obtain ⟨p, rfl⟩ := exceptPort_iff.mp r
    exact ⟨rfl, rfl, rfl, rfl⟩
  raise _ _ r := by
    obtain ⟨p, rfl⟩ := exceptPort_iff.mp r
    rfl
  planner _ r := by
    obtain ⟨p, rfl⟩ := exceptPort_iff.mp r
    rfl
  report _ r := by
    obtain ⟨p, rfl⟩ := exceptPort_iff.mp r
    rfl
  foil _ r := by
    obtain ⟨p, rfl⟩ := exceptPort_iff.mp r
    rfl
  pointer _ r := by
    obtain ⟨p, rfl⟩ := exceptPort_iff.mp r
    rfl

section
variable {s : State} (p : Port)

theorem exceptPort_ite {c : Prop} [Decidable c] {a a' b b' : State} (yes : ExceptPort a a') (no : ExceptPort b b') :
    ExceptPort (if c then a else b) (if c then a' else b') := by
  split
  · exact yes
  · exact no

theorem giveUpMove_exceptPort (q : Plan) (i : Nat) (m : Move) :
    ExceptPort (s.giveUpMove q i m) ((s.setPort p).giveUpMove q i m) :=
  exceptPort_ite rfl (followsPlans_exceptPort.decideAll _ _ _ (s := s) rfl)

theorem testMove_exceptPort (n : Rep) (i : Nat) : ExceptPort (s.testMove n i) ((s.setPort p).testMove n i) := by
  unfold State.testMove
  rw [show (s.setPort p).findPlan n = s.findPlan n from rfl]
  split
  · rfl
  · split
    · rfl
    · exact exceptPort_ite rfl (exceptPort_ite (giveUpMove_exceptPort p _ _ _) (exceptPort_ite rfl rfl))

theorem testEntry_exceptPort (n : Rep) (l : Fin 8) : ExceptPort (s.testEntry n l) ((s.setPort p).testEntry n l) := by
  have decides (o : Decision) : ExceptPort (s.decideEntry n l o true) ((s.setPort p).decideEntry n l o true) :=
    followsPlans_exceptPort.decideEntry _ _ _ _ (s := s) rfl
  unfold State.testEntry
  rw [show (s.setPort p).findPlan n = s.findPlan n from rfl]
  split
  · rfl
  · split
    · rfl
    · exact exceptPort_ite (decides _) (exceptPort_ite (decides _) (exceptPort_ite rfl rfl))

theorem planTests_exceptPort (ts : List PlanTest) :
    ∀ {s t : State}, ExceptPort s t → ExceptPort (ts.foldl State.planTest s) (ts.foldl State.planTest t) := by
  induction ts with
  | nil => exact id
  | cons x xs ih =>
    intro s t r
    obtain ⟨p, rfl⟩ := exceptPort_iff.mp r
    cases x with
    | move n i => exact ih (testMove_exceptPort p n i)
    | entry n l => exact ih (testEntry_exceptPort p n l)

theorem cassetteCycle_exceptPort (c : Fin 8) : ExceptPort (s.cassetteCycle c) ((s.setPort p).cassetteCycle c) :=
  exceptPort_ite rfl rfl

theorem driveCycle_exceptPort (d : Fin 12) : ExceptPort (s.driveCycle d) ((s.setPort p).driveCycle d) :=
  exceptPort_ite (followsPlans_exceptPort.notice d (silenceReason d)
    (s := ((s.modDrive d Drive.counted).raise Event.driveSilent (detail d.val)).modDrive d Drive.silenced) rfl) rfl

theorem takeUnit_exceptPort (u : CycUnit) : ExceptPort (s.takeUnit u) ((s.setPort p).takeUnit u) := by
  refine exceptPort_ite ?_ rfl
  cases u with
  | planner => exact planTests_exceptPort _ rfl
  | cassette c => exact cassetteCycle_exceptPort (s := s.setCycDue _) p c
  | drive d => exact driveCycle_exceptPort (s := s.setCycDue _) p d

end

theorem takeUnits_exceptPort (us : List CycUnit) :
    ∀ {s t : State}, ExceptPort s t → ExceptPort (s.takeUnits us) (t.takeUnits us) := by
  induction us with
  | nil => exact id
  | cons u us ih =>
    intro s t r
    obtain ⟨p, rfl⟩ := exceptPort_iff.mp r
    exact ih (takeUnit_exceptPort p u)

/-- What the last cycle frame left is taken alike whatever has been forwarded since. -/
theorem settle_forward (s : State) (raw : List Byte) :
    (s.forward raw).settle = s.settle.setPort (s.forward raw).port := by
  have alike : ExceptPort s.settle (s.forward raw).settle :=
    takeUnits_exceptPort s.cycDue (s := s) (t := s.forward raw) rfl
  rw [alike, (settle_frame (s.forward raw)).port]

end Sys2Proof.Machine

/-! ## A queue given up (R83 to R86) -/

namespace Sys2Proof.Machine

/-! ### Two invariants along the units of a cycle frame -/

theorem keptByUnits_consistent : KeptByUnits State.QueueConsistent :=
  queueSteps_consistent.kept.toKeptByActs.units 0

theorem State.RepeatsDistinct.of_sublist {s t : State} (h : s.RepeatsDistinct)
    (sub : (t.planner.queue.map (·.repeatNo)).Sublist (s.planner.queue.map (·.repeatNo))) : t.RepeatsDistinct :=
  List.Nodup.sublist sub h

theorem State.RepeatsDistinct.modPlan {s : State} (h : s.RepeatsDistinct) (n : Rep) {f : Plan → Plan}
    (same : ∀ p : Plan, p.SameShape (f p)) : (s.modPlan n f).RepeatsDistinct := by
  refine h.of_sublist ?_
  rw [modPlan_queue, sameShapes_numbers (sameShapes_updateFirst _ same _)]

theorem keptByUnits_distinct : KeptByUnits State.RepeatsDistinct where
  decide s n l d reports h := h.of_sublist (decideEntry_queue s n l d reports ▸ queueDecided_numbers ..)
  closeDone s p _ reports _ _ h := h.of_sublist (closePlan_queue s p reports ▸ (removeFirst_sublist _ _).map _)
  withdraw _ _ _ _ _ _ _ _ _ h := h.modPlan _ fun p => p.sameShape_modMove _ fun _ => Move.after_of_sent rfl
  moveDue _ _ _ h := h.modPlan _ fun p => p.sameShape_modMove _ Move.after_release
  entryDue _ _ _ h := h.modPlan _ fun p => p.sameShape_modEntries _ fun _ => ⟨rfl, rfl⟩
  cassette _ _ h := cassetteCycle_keeps h fun _ _ h => h

theorem driveCycle_cycDue {s : State} {d : Fin 12} : (s.driveCycle d).cycDue = s.cycDue := by
  unfold State.driveCycle State.silenceDrive
  simp only
  split
  · rw [(notice_frame ..).cycDue]
    rfl
  · rfl

/-! ### Giving up -/

/-- What has happened since a state has only rejected entries, as a flush would. -/
structure GivingUp (s t : State) : Prop where
  consistent : t.QueueConsistent
  same : SameFlush s t
  foil : s.FoilConsistent → t.FoilConsistent

namespace GivingUp
variable {s t : State}

theorem refl (consistent : s.QueueConsistent) : GivingUp s s := ⟨consistent, .refl s, id⟩

theorem of_same (h : GivingUp s t) {u : State} (planner : u.planner = t.planner)
    (report : u.report.nextLog = t.report.nextLog) (foil : u.foil = t.foil) : GivingUp s u := by
  refine ⟨?_, h.same.trans (.of_same planner report foil), fun balanced => ?_⟩
  · rw [State.QueueConsistent, planner]
    exact h.consistent
  · rw [foilConsistent_iff, planner, foil, ← foilConsistent_iff]
    exact h.foil balanced

theorem decideEntry (h : GivingUp s t) (n : Rep) (l : Fin 8) (r : Reason) (reports : Bool) :
    GivingUp s (t.decideEntry n l (.reject r) reports) := by
  refine ⟨keptByUnits_consistent.decide _ _ _ _ _ h.consistent, h.same.trans (.decideEntry h.consistent n l r reports), fun balanced => ?_⟩
  rw [foilConsistent_iff]
  exact FoilBalanced.decideEntry ((foilConsistent_iff t).mp (h.foil balanced)) n l _ reports

theorem decideAll (h : GivingUp s t) (keys : List EntryKey) (r : Reason) (reports : Bool) :
    GivingUp s (t.decideAll keys (.reject r) reports) :=
  foldl_keeps (fun _ (key : EntryKey) h => h.decideEntry key.1 key.2 r reports) keys t h

theorem notice (h : GivingUp s t) (d : Fin 12) (r : Reason) : GivingUp s (t.notice d r) := h.decideAll _ _ _

theorem silenceDrive (h : GivingUp s t) (d : Fin 12) : GivingUp s (t.silenceDrive d) :=
  (h.of_same (u := t.modDrive d Drive.silenced) rfl rfl rfl).notice d _

theorem quietDrives (h : GivingUp s t) (ds : List (Fin 12)) : GivingUp s (ds.foldl State.quietDrive t) := by
  refine foldl_keeps (fun u d h => ?_) ds t h
  unfold State.quietDrive
  split
  · exact h
  · exact h.silenceDrive d

theorem flushHead (h : GivingUp s t) (reports : Bool) : GivingUp s (t.flushHead reports) := by
  unfold State.flushHead
  split
  · exact h
  next p rest queue =>
    obtain ⟨undone, -⟩ := h.consistent p (queue ▸ List.mem_cons_self)
    rw [State.closeSpent, undone]
    exact h.decideAll _ _ _

theorem flush (h : GivingUp s t) (cause : FlushCause) (reports : Bool) : GivingUp s (t.flush cause reports) := by
  have flushed (n : Nat) : ∀ {t : State}, GivingUp s t → GivingUp s (State.flushPlans reports n t) := by
    induction n with
    | zero => exact id
    | succ n ih => exact fun h => ih (h.flushHead reports)
  unfold State.flush
  simp only
  split
  · exact flushed _ h
  · exact (flushed _ h).of_same rfl rfl rfl

theorem driveCycle (h : GivingUp s t) (d : Fin 12) : GivingUp s (t.driveCycle d) := by
  have counted : GivingUp s (t.modDrive d Drive.counted) := h.of_same rfl rfl rfl
  unfold State.driveCycle
  simp only
  split
  · exact (counted.of_same (u := (t.modDrive d Drive.counted).raise _ _) rfl rfl rfl).silenceDrive d
  · exact counted

/-- A cassette or a drive takes its part of a cycle frame before the planner has its part to take. -/
theorem takeUnit (h : GivingUp s t) (notDue : CycUnit.planner ∉ t.cycDue) (u : CycUnit) :
    GivingUp s (t.takeUnit u) ∧ CycUnit.planner ∉ (t.takeUnit u).cycDue := by
  by_cases due : u ∈ t.cycDue
  · rw [takeUnit_due due]
    have left : CycUnit.planner ∉ t.cycDue.filter (· != u) := fun member => notDue (List.mem_filter.mp member).1
    have rest : GivingUp s (t.setCycDue (t.cycDue.filter (· != u))) := h.of_same rfl rfl rfl
    cases u with
    | planner => exact absurd due notDue
    | cassette c =>
      exact ⟨cassetteCycle_keeps (P := GivingUp s) (rest.of_same rfl rfl rfl) fun u d h => h.of_same rfl rfl rfl,
        cassetteCycle_keeps (P := fun u => CycUnit.planner ∉ u.cycDue) left fun u d h => h⟩
    | drive d =>
      exact ⟨rest.driveCycle d, driveCycle_cycDue.symm ▸ left⟩
  · rw [State.takeUnit, if_neg due]
    exact ⟨h, notDue⟩

theorem takeUnits (h : GivingUp s t) (notDue : CycUnit.planner ∉ t.cycDue) (us : List CycUnit) :
    GivingUp s (t.takeUnits us) := by
  have both := foldl_keeps (P := fun u => GivingUp s u ∧ CycUnit.planner ∉ u.cycDue)
    (fun u x h => h.1.takeUnit h.2 x) us t ⟨h, notDue⟩
  exact both.1

/-- Rejected until none is queued, the queue was given up. -/
theorem givenUp (h : GivingUp s t) (empty : t.planner.queue = []) : s.GivenUp t := h.same.givenUp empty h.foil

end GivingUp

/-! ### A flush -/

theorem flushHead_eq {s : State} {p : Plan} {rest : List Plan} (queue : s.planner.queue = p :: rest)
    (undone : p.done = false) (reports : Bool) : s.flushHead reports =
      s.decideEach ((p.entries.filter (·.outcome.isNone)).map fun e => (p, e)) (.reject .flushed) reports := by
  rw [State.flushHead, queue]
  simp only [State.closeSpent, undone, Bool.false_eq_true, if_false]
  rw [decideEach_plan, State.decideAll, Plan.openKeys, List.foldl_map]
  rfl

theorem flushPlans_eq (reports : Bool) :
    ∀ {q : List Plan} {s : State}, s.planner.queue = q → (∀ p ∈ q, p.done = false) →
    State.flushPlans reports q.length s =
      s.decideEach (chosenEntries (fun _ e => e.outcome.isNone) q) (.reject .flushed) reports
  | [], _, _, _ => rfl
  | p :: q, s, queue, undone => by
    obtain ⟨first, rest⟩ := List.forall_mem_cons.mp undone
    have tail : (s.flushHead reports).planner.queue = q := by rw [flushHead_queue, queue, List.tail_cons]
    rw [List.length_cons, State.flushPlans, flushPlans_eq reports tail rest, flushHead_eq queue first,
      ← decideEach_append]
    rfl

/-- The causes of a flush by their codes (section 10.3). -/
theorem flush_eq {s : State} (consistent : s.QueueConsistent) (cause : FlushCause) (reports : Bool) :
    s.flush cause reports = if s.planner.queue = [] then s
      else (s.decideEach s.undecidedEntries (.reject .flushed) reports).raise 1 cause.code := by
  unfold State.flush
  simp only
  rw [flushPlans_eq reports rfl fun p queued => (consistent p queued).1]
  cases queue : s.planner.queue with
  | nil => rfl
  | cons p q =>
    rw [undecidedEntries_eq, queue]
    rfl

/-- The record of a flush: the entries it decided, and the reports of the plans it closed (R83). -/
theorem flush_report {s : State} (consistent : s.QueueConsistent) (distinct : s.RepeatsDistinct) (cause : FlushCause)
    (reports : Bool) :
    (s.report.log.length ≤ 256 → s.report.LogTook (s.flush cause reports).report
        (s.undecidedEntries.map fun x => x.1.told x.2 (.reject .flushed)))
      ∧ (s.flush cause reports).report.rpts = (if reports = true ∧ s.report.ringSilent = false
          then (s.planner.queue.map Plan.flushedReport).foldl reportJoined s.report.rpts else s.report.rpts) := by
  obtain ⟨q', h⟩ := decideEach_decidesPlans (choice := fun _ e => e.outcome.isNone) (fun _ _ => id)
    (d := .reject .flushed) (reports := reports) (a := []) (s := s) rfl distinct consistent
  have reported : (q'.filter Plan.done).map Plan.report = s.planner.queue.map Plan.flushedReport := by
    rw [map_filter_of_forall₂ (f := Plan.flushedReport) (p := fun _ => true) (fun p p' changed => ⟨?_, ?_⟩) h.plans,
      List.filter_true]
    · rw [changed.done_iff]
      simp
    · rw [changed.plan, Plan.report, Plan.flushedReport]
      refine congrArg (fun lanes => RepeatReport.mk p.repeatNo p.nip lanes p.synth p.first false) ?_
      refine congrArg Vector.ofFn (funext fun k => ?_)
      rw [Plan.flushedOutcome, List.find?_map]
      have lanes : ((fun x : Entry => x.lane == k) ∘ fun e => if e.outcome.isNone = true then e.decidedAs (.reject .flushed) else e)
          = fun x => x.lane == k := by
        funext e
        simp only [Function.comp]
        split <;> rfl
      rw [lanes]
      cases p.entries.find? (·.lane == k) with
      | none => rfl
      | some e => cases outcome : e.outcome <;> simp [outcome, Entry.decidedAs]
  have rpts := h.rpts
  rw [reported] at rpts
  have same : (s.flush cause reports).report =
      (s.decideEach (chosenEntries (fun _ e => e.outcome.isNone) s.planner.queue) (.reject .flushed) reports).report := by
    rw [flush_eq consistent]
    split
    next empty =>
      rw [empty]
      rfl
    · rfl
  rw [same]
  exact ⟨h.log, rpts⟩

/-- A flush alone gives every queued plan up (R83 to R86). -/
theorem flush_flushed {s : State} (consistent : s.QueueConsistent) (distinct : s.RepeatsDistinct) (cause : FlushCause)
    (reports : Bool) : s.Flushed (s.flush cause reports) cause.code := by
  refine ⟨((GivingUp.refl consistent).flush cause reports).givenUp (flush_queue ..),
    (flush_report consistent distinct cause reports).1, fun queued => ?_⟩
  rw [flush_eq consistent, if_neg queued]
  exact raise_cell_self ..

/-- A flush is told by the plans, the records, the foil and PLAN_FLUSHED alone. -/
theorem State.GivenUp.congr {s s' t t' : State} (h : s.GivenUp t)
    (before : s'.planner = s.planner ∧ s'.report.nextLog = s.report.nextLog ∧ s'.foil = s.foil)
    (after : t'.planner = { t.planner with st := t'.planner.st } ∧ t'.report.nextLog = t.report.nextLog ∧ t'.foil = t.foil) : s'.GivenUp t' := by
  obtain ⟨planner, next, foil⟩ := before
  obtain ⟨planner', next', foil'⟩ := after
  unfold State.GivenUp at h ⊢
  rw [foilConsistent_iff] at h ⊢
  rw [State.undecidedEntries] at h ⊢
  rw [planner, next, foil, planner', next', foil']
  exact h

theorem State.Flushed.congr {s s' t t' : State} {cause : BitVec 32} (h : s.Flushed t cause)
    (before : s'.planner = s.planner ∧ s'.report.nextLog = s.report.nextLog ∧ s'.foil = s.foil)
    (log : s'.report.log = s.report.log)
    (after : t'.planner = { t.planner with st := t'.planner.st } ∧ t'.report.nextLog = t.report.nextLog ∧ t'.foil = t.foil)
    (log' : t'.report.log = t.report.log) (cell : t'.cell 1 = t.cell 1) : s'.Flushed t' cause := by
  obtain ⟨givenUp, took, shown⟩ := h
  refine ⟨givenUp.congr before after, fun bounded => ?_, fun queued => ?_⟩
  · obtain ⟨next, records⟩ := took (log ▸ bounded)
    obtain ⟨planner, before', -⟩ := before
    obtain ⟨-, after', -⟩ := after
    unfold State.undecidedEntries Report.LogTook
    rw [planner, before', after', log, log']
    exact ⟨next, records⟩
  · obtain ⟨planner, -⟩ := before
    have shows' := shown (planner ▸ queued)
    have cell : t'.attention.kinds[(1 : Fin 18)] = t.attention.kinds[(1 : Fin 18)] := cell
    rwa [cell]

end Sys2Proof.Machine

/-! ## A disturbance (R6, R84) -/

namespace Sys2Proof.Machine

/-! ### With no plan queued -/

/-- Nothing has happened but at cassettes and drives: their events are CASSETTE_COLD and DRIVE_SILENT. -/
structure Calm (s t : State) : Prop where
  planner : t.planner = s.planner
  report : t.report = s.report
  foil : t.foil = s.foil
  tracker : t.tracker = s.tracker
  jobs : t.jobs = s.jobs
  cell : ∀ k : Fin 18, k ≠ 2 → k ≠ 6 → t.cell k = s.cell k

namespace Calm
variable {s t u : State}

theorem refl (s : State) : Calm s s := ⟨rfl, rfl, rfl, rfl, rfl, fun _ _ _ => rfl⟩

/-- A change outside the plans, the reports, the foil, the tracker, the jobs and the events. -/
theorem elsewhere (planner : t.planner = s.planner) (report : t.report = s.report) (foil : t.foil = s.foil)
    (tracker : t.tracker = s.tracker) (jobs : t.jobs = s.jobs) (attention : t.attention = s.attention) : Calm s t :=
  ⟨planner, report, foil, tracker, jobs, fun k _ _ => congrArg (fun a => a.kinds[k]) attention⟩

theorem trans (a : Calm s t) (b : Calm t u) : Calm s u :=
  ⟨b.planner.trans a.planner, b.report.trans a.report, b.foil.trans a.foil, b.tracker.trans a.tracker,
    b.jobs.trans a.jobs, fun k drive cassette => (b.cell k drive cassette).trans (a.cell k drive cassette)⟩

theorem raise (s : State) {k : Fin 18} (own : k = 2 ∨ k = 6) (v : BitVec 32) : Calm s (s.raise k v) := by
  refine ⟨rfl, rfl, rfl, rfl, rfl, fun j drive cassette => raise_cell_ne s v ?_⟩
  rcases own with rfl | rfl
  · exact drive
  · exact cassette

/-- With no plan queued the planner hears no notice and makes no test. -/
theorem takeUnit (empty : s.planner.queue = []) (u : CycUnit) : Calm s (s.takeUnit u) := by
  unfold State.takeUnit
  split
  · have due : Calm s (s.setCycDue (s.cycDue.filter (· != u))) := .elsewhere rfl rfl rfl rfl rfl rfl
    refine due.trans ?_
    cases u with
    | planner =>
      have none : (s.setCycDue (s.cycDue.filter (· != .planner))).tests = [] := by
        rw [State.tests, State.setCycDue_planner, empty]
        rfl
      rw [State.unitPart, none]
      exact refl _
    | cassette c =>
      exact cassetteCycle_keeps (P := Calm (s.setCycDue (s.cycDue.filter (· != .cassette c))))
        (elsewhere rfl rfl rfl rfl rfl rfl)
        fun u d h => h.trans (raise u (.inr rfl) d)
    | drive d =>
      show Calm _ (State.driveCycle _ d)
      unfold State.driveCycle State.silenceDrive
      simp only
      split
      · rw [notice_of_nil (by exact empty)]
        exact (raise (s.setCycDue _) (.inl rfl) _).trans (elsewhere rfl rfl rfl rfl rfl rfl)
      · exact elsewhere rfl rfl rfl rfl rfl rfl
  · exact refl s

theorem takeUnits (empty : s.planner.queue = []) (us : List CycUnit) : Calm s (s.takeUnits us) :=
  foldl_keeps (P := Calm s) (fun _ x h => h.trans (takeUnit (h.planner ▸ empty) x)) us s (refl s)

theorem plannerAtPoints (own : List CycUnit) {t : Thread} (empty : t.2.planner.queue = []) :
    Calm t.2 (plannerAtPoints own t).2 := by
  have none : t.2.tests = [] := by
    rw [State.tests, empty]
    rfl
  unfold Machine.plannerAtPoints
  split
  · rw [none]
    exact elsewhere rfl rfl rfl rfl rfl rfl
  · exact refl _

end Calm

/-! ### The cycle frame of a disturbance -/

/-- The blocks when the tracker takes a cycle frame: what the last one left is taken, the window is open, and the units
of the first point have taken their part. -/
def State.beforeTracker (s : State) (o : TakeOrder) : State := s.settle.openCycle.takeUnits (o.points.headD [])

/-- A disturbance flushes the queue, and nothing but cassettes and drives acts after it (R6, R84). -/
theorem readCycle_disturbed {s : State} {o : TakeOrder} {f : CycleFrame}
    (disturbed : (s.beforeTracker o).disturbed f = true) :
    Calm ((s.beforeTracker o).setTracker ((s.beforeTracker o).tracker.take f)).disturbance (s.readCycle o f) := by
  let w := ((s.beforeTracker o).setTracker ((s.beforeTracker o).tracker.take f)).disturbance
  have empty : w.planner.queue = [] := flush_queue ..
  have tracked : trackerTakes f (atPoint (o.points, s.settle.openCycle)) = (o.points.drop 1, w) := if_pos disturbed
  have due : Calm w (plannerDue (o.points.drop 1, w)).2 := .elsewhere rfl rfl rfl rfl rfl rfl
  have pointed := Calm.takeUnits (s := (plannerDue (o.points.drop 1, w)).2) empty ((o.points.drop 1).headD [])
  have planned := Calm.plannerAtPoints o.own (t := atPoint (plannerDue (o.points.drop 1, w)))
    (pointed.planner ▸ empty)
  unfold State.readCycle
  simp only
  rw [tracked]
  have rest := Calm.takeUnits (s := (plannerAtPoints o.own (atPoint (plannerDue (o.points.drop 1, w)))).2)
    (by rw [planned.planner]; exact pointed.planner ▸ empty)
    ((plannerAtPoints o.own (atPoint (plannerDue (o.points.drop 1, w)))).2.cycDue.filter (· ∉ o.own))
  exact ((due.trans pointed).trans planned).trans rest

theorem exec_cycArrival {s : State} {h : Header} {p : List Byte}
    (reads : s.reads { kind := Frame.cyc, h, payload := p })
    (o : TakeOrder) : exec (.cycArrival h p o) s = .next
      ((s.forward (Frame.bytes { kind := Frame.cyc, h, payload := p })).readCycle o (CycleFrame.ofPayload p)) :=
  congrArg Host.Outcome.next (arriveRead_of_reads reads _)

theorem beforeTracker_frame (s : State) (o : TakeOrder) :
    (s.beforeTracker o).tracker = { s.tracker with staged := (s.beforeTracker o).tracker.staged }
      ∧ (s.beforeTracker o).jobs.cfg = s.jobs.cfg := by
  have units := (takeUnits_frame s.settle.openCycle (o.points.headD []))
  have settled := settle_frame s
  refine ⟨?_, units.cfg.trans settled.cfg⟩
  have tracker : (s.beforeTracker o).tracker = { s.settle.tracker with staged := (s.beforeTracker o).tracker.staged } := units.tracker
  rw [tracker, settled.tracker]

/-- Settles O9: what is rejected before the flush and the flush give the queue up, and nothing that follows touches the
plans; and the flush decides the undecided entries one after another. -/
theorem disturbanceFlushes : Obligations.DisturbanceFlushes := by
  refine ⟨fun s h p o reads notFirst jumped => ?disturbance, fun s cause reports consistent distinct => ?flush⟩
  case flush =>
    have rpts := (flush_report consistent distinct cause reports).2
    cases cause
    all_goals exact ⟨flush_eq consistent _ reports, flush_flushed consistent distinct _ reports, rpts⟩
  case disturbance =>
    let f := CycleFrame.ofPayload p
    let u := s.forward (Frame.bytes { kind := Frame.cyc, h, payload := p })
    let v := u.beforeTracker o
    obtain ⟨vTracker, vCfg⟩ := beforeTracker_frame u o
    have disturbed : v.disturbed f = true := by
      have first : v.tracker.firstCycle = false := (congrArg Tracker.firstCycle vTracker).trans notFirst
      have pos : v.tracker.pos = s.tracker.pos := (congrArg Tracker.pos vTracker).trans rfl
      have jump : v.jobs.cfg.jump = s.jobs.cfg.jump := (congrArg StationCfg.jump vCfg).trans rfl
      rw [State.disturbed, first, pos, jump, Bool.not_false, Bool.true_and, Bool.or_eq_true, decide_eq_true_iff,
        decide_eq_true_iff]
      exact jumped
    let w := (v.setTracker (v.tracker.take f)).setTracker (v.tracker.take f).unlock
    have calm : Calm (w.flush .disturbance true) (u.readCycle o f) := readCycle_disturbed disturbed
    have flushed := flush_frame w .disturbance true
    have tracker : (u.readCycle o f).tracker =
        { (s.tracker.take f).unlock with staged := (u.readCycle o f).tracker.staged } := by
      have parts : w.tracker = { (s.tracker.take f).unlock with staged := v.tracker.staged } :=
        congrArg (fun t : Tracker => (t.take f).unlock) vTracker
      rw [calm.tracker, flushed.tracker, parts]
    have empty : (u.readCycle o f).planner.queue = [] := by rw [calm.planner, flush_queue]
    refine ⟨_, exec_cycArrival reads o, by rw [tracker]; rfl, by rw [tracker]; rfl, by rw [tracker]; rfl, empty,
      by rw [tracker]; rfl, by rw [tracker]; rfl, by rw [tracker]; rfl, fun consistent distinct => ?_⟩
    have settled : u.settle = s.settle.setPort u.port := settle_forward s _
    have settledConsistent : u.settle.QueueConsistent := keptByUnits_consistent.settle consistent
    have settledDistinct : u.settle.RepeatsDistinct := keptByUnits_distinct.settle distinct
    have alike : s.settle.planner = u.settle.planner ∧ s.settle.report = u.settle.report ∧ s.settle.foil = u.settle.foil := by
      rw [settled]
      exact ⟨rfl, rfl, rfl⟩
    obtain ⟨samePlanner, sameReport, sameFoil⟩ := alike
    refine ⟨?givenUp, fun noPoints => ?flushed⟩
    case givenUp =>
      have notDue : CycUnit.planner ∉ countingUnits := by decide
      have before : GivingUp u.settle v :=
        ((GivingUp.refl settledConsistent).of_same (u := u.settle.openCycle) rfl rfl rfl).takeUnits notDue _
      have atFlush : GivingUp u.settle w := before.of_same rfl rfl rfl
      exact ((atFlush.flush .disturbance true).givenUp (flush_queue ..)).congr
        ⟨samePlanner, congrArg Report.nextLog sameReport, sameFoil⟩
        ⟨by rw [calm.planner], congrArg Report.nextLog calm.report, calm.foil⟩
    case flushed =>
      have untouched : v = u.settle.openCycle := by
        simp only [v, State.beforeTracker, noPoints]
        rfl
      have wPlanner : w.planner = u.settle.planner := by simp only [w, untouched]; rfl
      have wReport : w.report = { u.settle.report with ringSilent := false } := by simp only [w, untouched]; rfl
      have wFoil : w.foil = u.settle.foil := by simp only [w, untouched]; rfl
      have wConsistent : w.QueueConsistent := by rw [State.QueueConsistent, wPlanner]; exact settledConsistent
      have wDistinct : w.RepeatsDistinct := by rw [State.RepeatsDistinct, wPlanner]; exact settledDistinct
      refine ⟨(flush_flushed wConsistent wDistinct .disturbance true).congr
        ⟨samePlanner.trans wPlanner.symm, by rw [sameReport, wReport], sameFoil.trans wFoil.symm⟩ (by rw [sameReport, wReport])
        ⟨by rw [calm.planner], congrArg Report.nextLog calm.report, calm.foil⟩ (congrArg Report.log calm.report)
        (calm.cell 1 (by decide) (by decide)), ?_⟩
      rw [calm.report, (flush_report wConsistent wDistinct .disturbance true).2, wReport, wPlanner, samePlanner, sameReport]
      exact if_pos ⟨rfl, rfl⟩

end Sys2Proof.Machine

/-! ## What ring silence and a soft reset keep

Decisions, closings and drives that go SILENT are the acts of both; each lemma says what one of the blocks keeps along
them. -/

namespace Sys2Proof.Machine

/-! ### The planner's state, the jobs and CHANGEOVER_TAKEN under a decision -/

theorem decideEntry_cases (s : State) (n : Rep) (l : Fin 8) (d : Decision) (reports : Bool) :
    s.decideEntry n l d reports = s ∨ ∃ p e, s.decideEntry n l d reports = s.recorded p l e d
      ∨ ∃ q, s.decideEntry n l d reports = (s.recorded p l e d).closePlan q reports := by
  cases found : s.findPlan n with
  | none => exact .inl (decideEntry_noPlan found l d reports)
  | some p =>
    cases isOpen : p.openEntry l with
    | none => exact .inl (decideEntry_decided found isOpen d reports)
    | some e =>
      rw [decideEntry_open found isOpen, decideIn_eq]
      refine .inr ⟨p, e, ?_⟩
      split
      · exact .inr ⟨_, rfl⟩
      · exact .inl rfl

/-- The planner's state is the same, or it was DRAINING and is READY (R55). -/
def StateMoved (s t : State) : Prop :=
  t.planner.st = s.planner.st ∨ (s.planner.st = .draining ∧ t.planner.st = .ready)

theorem StateMoved.trans {s t u : State} (a : StateMoved s t) (b : StateMoved t u) : StateMoved s u := by
  rcases a with same | ⟨draining, ready⟩
  · rw [StateMoved, same] at b
    exact b
  · rcases b with same | ⟨draining', -⟩
    · exact .inr ⟨draining, same.trans ready⟩
    · rw [ready] at draining'
      cases draining'

theorem closePlan_moved (s : State) (p : Plan) (reports : Bool) : StateMoved s (s.closePlan p reports) := by
  unfold StateMoved
  rw [closePlan_st]
  split
  next drained => exact .inr ⟨drained.1, rfl⟩
  · exact .inl rfl

theorem recorded_st (s : State) (p : Plan) (l : Fin 8) (e : Entry) (d : Decision) :
    (s.recorded p l e d).planner.st = s.planner.st := by
  obtain ⟨-, -, planner⟩ := recorded_frame s p l e d
  rw [planner]
  rfl

theorem decideEntry_moved (s : State) (n : Rep) (l : Fin 8) (d : Decision) (reports : Bool) :
    StateMoved s (s.decideEntry n l d reports) := by
  rcases decideEntry_cases s n l d reports with same | ⟨p, e, recorded | ⟨q, closed⟩⟩
  · rw [same]
    exact .inl rfl
  · rw [recorded]
    exact .inl (recorded_st ..)
  · rw [closed]
    exact StateMoved.trans (.inl (recorded_st ..)) (closePlan_moved ..)

theorem keptByUnits_moved (s : State) : KeptByUnits (StateMoved s) where
  decide t n l d reports h := h.trans (decideEntry_moved t n l d reports)
  closeDone t p _ reports _ _ h := h.trans (closePlan_moved t p reports)
  withdraw _ _ _ _ _ _ _ _ _ h := h
  moveDue _ _ _ h := h
  entryDue _ _ _ h := h
  cassette _ _ h := cassetteCycle_keeps h fun _ _ h => h

/-- Outside DRAINING the planner's state, the jobs and the tracker stand. -/
def Undrained (s t : State) : Prop :=
  t.planner.st = s.planner.st ∧ t.jobs = s.jobs ∧ t.tracker.staged = s.tracker.staged

theorem Undrained.trans {s t u : State} (a : Undrained s t) (b : Undrained t u) : Undrained s u := by
  obtain ⟨st, jobs, staged⟩ := a
  obtain ⟨st', jobs', staged'⟩ := b
  exact ⟨st'.trans st, jobs'.trans jobs, staged'.trans staged⟩

theorem closePlan_undrained {s : State} (st : s.planner.st ≠ .draining) (p : Plan) (reports : Bool) :
    Undrained s (s.closePlan p reports) := by
  have change := (closePlan_changeover s p reports).2 fun taken => st taken.1.1
  obtain ⟨jobs, tracker, -⟩ := change
  refine ⟨?_, jobs, congrArg Tracker.staged tracker⟩
  rw [closePlan_st, if_neg fun drained => st drained.1]

theorem recorded_undrained (s : State) (p : Plan) (l : Fin 8) (e : Entry) (d : Decision) :
    Undrained s (s.recorded p l e d) := by
  obtain ⟨jobs, tracker, -⟩ := recorded_frame s p l e d
  exact ⟨recorded_st .., jobs, congrArg Tracker.staged tracker⟩

theorem decideEntry_undrained {s : State} (st : s.planner.st ≠ .draining) (n : Rep) (l : Fin 8) (d : Decision)
    (reports : Bool) : Undrained s (s.decideEntry n l d reports) := by
  rcases decideEntry_cases s n l d reports with same | ⟨p, e, recorded | ⟨q, closed⟩⟩
  · rw [same]
    exact ⟨rfl, rfl, rfl⟩
  · rw [recorded]
    exact recorded_undrained ..
  · rw [closed]
    exact (recorded_undrained ..).trans (closePlan_undrained (by rwa [recorded_st]) _ _)

theorem keptByUnits_undrained {s : State} (st : s.planner.st ≠ .draining) : KeptByUnits (Undrained s) where
  decide t n l d reports h := h.trans (decideEntry_undrained (h.1 ▸ st) n l d reports)
  closeDone t p _ reports _ _ h := h.trans (closePlan_undrained (h.1 ▸ st) p reports)
  withdraw _ _ _ _ _ _ _ _ _ h := h
  moveDue _ _ _ h := h
  entryDue _ _ _ h := h
  cassette _ _ h := cassetteCycle_keeps h fun _ _ h => h

/-- With no changeover armed the events of a decision are those of its record (R42, R169, R172). -/
theorem closePlan_cell {s : State} (unarmed : s.jobs.arm = none) (p : Plan) (reports : Bool) (k : Fin 18) :
    (s.closePlan p reports).cell k = s.cell k := by
  have change := (closePlan_changeover s p reports).2 fun taken => by simp [unarmed] at taken
  obtain ⟨-, -, attention⟩ := change
  exact congrArg (fun a => a.kinds[k]) attention

theorem decideEntry_cell {s : State} (unarmed : s.jobs.arm = none) (n : Rep) (l : Fin 8) (d : Decision) (reports : Bool)
    {k : Fin 18} (half : k ≠ 14) (overwrite : k ≠ 15) (watch : k ≠ 16) :
    (s.decideEntry n l d reports).cell k = s.cell k := by
  have told (p : Plan) (e : Entry) : (s.recorded p l e d).cell k = s.cell k := by
    obtain ⟨-, -, -, others⟩ := recorded_cells s p l e d
    exact others k half overwrite watch
  rcases decideEntry_cases s n l d reports with same | ⟨p, e, recorded | ⟨q, closed⟩⟩
  · rw [same]
  · rw [recorded, told]
  · obtain ⟨jobs, -⟩ := recorded_frame s p l e d
    rw [closed, closePlan_cell (by rw [jobs]; exact unarmed), told]

/-! ### Ring silence and soft reset: drives and flush -/

theorem KeptByDecisions.quietAndFlush {P : State → Prop} (k : KeptByDecisions P) {s : State}
    (silenced : ∀ s d, P s → P (s.modDrive d Drive.silenced)) (raised : ∀ s d, P s → P (s.raise Event.planFlushed d))
    (first : List (Fin 12)) (cause : FlushCause) (p : P s) : P (s.quietAndFlush first cause) := by
  have quiet (s : State) (d : Fin 12) (p : P s) : P (s.quietDrive d) := by
    unfold State.quietDrive
    split
    · exact p
    · exact k.notice d _ (silenced s d p)
  exact foldl_keeps quiet drives12 _ (k.flush cause false raised (foldl_keeps quiet first s p))

/-- Only the flush's own events are pending: PLAN_FLUSHED and those of the records. -/
def FlushEventsOnly (s : State) : Prop :=
  s.jobs.arm = none ∧ ∀ k : Fin 18, (s.cell k).pending = true → k = 1 ∨ k = 14 ∨ k = 15 ∨ k = 16

theorem keptByDecisions_flushEvents : KeptByDecisions FlushEventsOnly where
  decide s n l d reports h := by
    obtain ⟨unarmed, only⟩ := h
    refine ⟨decideEntry_arm unarmed n l d reports, fun k pending => ?_⟩
    by_cases record : k = 14 ∨ k = 15 ∨ k = 16
    · exact .inr record
    · simp only [not_or] at record
      obtain ⟨half, overwrite, watch⟩ := record
      rw [decideEntry_cell unarmed n l d reports half overwrite watch] at pending
      exact only k pending
  closeDone s p _ reports _ _ h := by
    obtain ⟨unarmed, only⟩ := h
    refine ⟨closePlan_arm unarmed p reports, fun k pending => ?_⟩
    rw [closePlan_cell unarmed] at pending
    exact only k pending

theorem quietAndFlush_events {s : State} (h : FlushEventsOnly s) (first : List (Fin 12)) (cause : FlushCause) :
    FlushEventsOnly (s.quietAndFlush first cause) := by
  refine keptByDecisions_flushEvents.quietAndFlush (fun _ _ h => h) (fun s v h => ?_) first cause h
  obtain ⟨unarmed, only⟩ := h
  refine ⟨unarmed, fun k pending => ?_⟩
  by_cases own : k = 1
  · exact .inl own
  · have same : (s.raise Event.planFlushed v).cell k = s.cell k := raise_cell_ne s v own
    rw [same] at pending
    exact only k pending

/-! ### The drives -/

theorem Drive.madeSilent_madeSilent (x : Drive) : x.madeSilent.madeSilent = x.madeSilent := by
  unfold Drive.madeSilent
  by_cases silent : x.link = .silent
  · simp [silent]
  · simp [silent]

theorem quietDrive_drives (s : State) (d : Fin 12) :
    (s.quietDrive d).drives = s.drives.set d s.drives[d].madeSilent := by
  unfold State.quietDrive State.silenceDrive Drive.madeSilent
  split
  · exact (Vector.set_getElem_self _).symm
  · exact (notice_frame ..).drives

theorem quietDrive_drive (s : State) (d e : Fin 12) :
    (s.quietDrive d).drives[e] = if e = d then s.drives[e].madeSilent else s.drives[e] := by
  have drives := congrArg (fun v => v[e]) (quietDrive_drives s d)
  refine drives.trans ?_
  by_cases own : e = d
  · subst own
    rw [if_pos rfl]
    exact Vector.getElem_set_self ..
  · rw [if_neg own]
    exact Vector.getElem_set_ne _ _ fun same => own (Fin.ext same.symm)

theorem quietDrives_drives (ds : List (Fin 12)) (s : State) (e : Fin 12) :
    (ds.foldl State.quietDrive s).drives[e] = if e ∈ ds then s.drives[e].madeSilent else s.drives[e] := by
  induction ds generalizing s with
  | nil => rfl
  | cons d ds ih =>
    rw [List.foldl_cons, ih, quietDrive_drive]
    by_cases own : e = d
    · subst own
      simp [Drive.madeSilent_madeSilent]
    · simp [own]

theorem mem_drives12 (d : Fin 12) : d ∈ drives12 := List.mem_finRange d

/-- Every drive is SILENT in the end (R140, R141). -/
theorem quietAndFlush_drives (s : State) (first : List (Fin 12)) (cause : FlushCause) (d : Fin 12) :
    (s.quietAndFlush first cause).drives[d] = s.drives[d].madeSilent := by
  have flushed : ∀ u : State, (u.flush cause false).drives[d] = u.drives[d] := fun u =>
    congrArg (fun v => v[d]) (flush_frame u cause false).drives
  unfold State.quietAndFlush
  rw [quietDrives_drives, if_pos (mem_drives12 d), flushed, quietDrives_drives]
  split
  · exact Drive.madeSilent_madeSilent _
  · rfl

theorem quietDrives_cycDue (ds : List (Fin 12)) (s : State) : (ds.foldl State.quietDrive s).cycDue = s.cycDue := by
  refine foldl_keeps (P := fun t : State => t.cycDue = s.cycDue) (fun t d h => ?_) ds s rfl
  unfold State.quietDrive State.silenceDrive
  split
  · exact h
  · rw [(notice_frame ..).cycDue]
    exact h

theorem quietAndFlush_cycDue (s : State) (first : List (Fin 12)) (cause : FlushCause) :
    (s.quietAndFlush first cause).cycDue = s.cycDue := by
  unfold State.quietAndFlush
  rw [quietDrives_cycDue, (flush_frame ..).cycDue, quietDrives_cycDue]

/-- With no plan queued drives that go SILENT leave the plans, the reports, the foil and the events alone. -/
theorem quietDrives_of_empty {s : State} (empty : s.planner.queue = []) (ds : List (Fin 12)) :
    (ds.foldl State.quietDrive s).planner = s.planner ∧ (ds.foldl State.quietDrive s).report = s.report
      ∧ (ds.foldl State.quietDrive s).foil = s.foil ∧ (ds.foldl State.quietDrive s).attention = s.attention := by
  refine foldl_keeps (P := fun t : State => t.planner = s.planner ∧ t.report = s.report ∧ t.foil = s.foil
    ∧ t.attention = s.attention) (fun t d h => ?_) ds s ⟨rfl, rfl, rfl, rfl⟩
  rw [quietDrive_of_nil (h.1 ▸ empty)]
  split <;> exact h

/-! ### The end of a cycle frame's parts -/

theorem takeUnit_cycDue (s : State) (u : CycUnit) : (s.takeUnit u).cycDue = s.cycDue.filter (· != u) := by
  unfold State.takeUnit
  split
  · cases u with
    | planner => exact (PlanFrame.foldl planTest_frame _ _).cycDue
    | cassette c =>
      exact cassetteCycle_keeps (P := fun t => t.cycDue = s.cycDue.filter (· != .cassette c)) rfl fun _ _ h => h
    | drive d => exact driveCycle_cycDue
  next notDue => exact (List.filter_eq_self.mpr fun x member => by simpa using fun same : x = u => notDue (same ▸ member)).symm

theorem takeUnits_cycDue (us : List CycUnit) (s : State) : (s.takeUnits us).cycDue = s.cycDue.filter (· ∉ us) := by
  induction us generalizing s with
  | nil => simp [State.takeUnits]
  | cons u us ih =>
    refine (ih (s.takeUnit u)).trans ?_
    rw [takeUnit_cycDue, List.filter_filter]
    refine List.filter_congr fun x _ => ?_
    by_cases same : x = u <;> simp [same]

/-- Nothing is left of the last cycle frame (log 2). -/
theorem settle_cycDue (s : State) : s.settle.cycDue = [] := by
  rw [State.settle, takeUnits_cycDue, List.filter_eq_nil_iff]
  simp

end Sys2Proof.Machine

/-! ## Ring silence (R7, R85, R122, R140, R156, R157, R168, R178) -/

namespace Sys2Proof.Machine

/-! ### What stands along decisions, drives and cassettes -/

/-- In ring silence no report is left waiting (R168). -/
def Unreported (s : State) : Prop := s.report.ringSilent = true ∧ s.report.rpts = []

theorem planParts_unreported : PlanParts Unreported where
  hand s r h := by
    obtain ⟨silent, none⟩ := h
    refine ⟨(Report.handReport_ringSilent ..).trans silent, (Report.handReport_rpts ..).trans ?_⟩
    rw [if_neg (by simp [silent]), none]

theorem raise_cell_decision {s : State} {j : Fin 18} (other : j ∉ decisionEvents) {k : Fin 18}
    (event : k ∈ decisionEvents)
    (v : BitVec 32) : (s.raise k v).cell j = s.cell j :=
  raise_cell_ne s v fun same => other (same ▸ event)

theorem planParts_cell {j : Fin 18} (other : j ∉ decisionEvents) (c : EventCell) : PlanParts fun s => s.cell j = c where
  event _ _ v event h := (raise_cell_decision other event v).trans h

/-! ### The blocks at a ring silence -/

/-- The blocks when the drives and the planner act on a ring silence: what the last cycle frame left is taken, and port,
reports, attention unit and tracker have acted. -/
def State.beforeQuiet (s : State) (o : TakeOrder) : State :=
  (s.settle.ringQuiet.silentAttention o.raiseFirst).setTracker
    (s.settle.ringQuiet.silentAttention o.raiseFirst).tracker.silent

theorem silence_eq (s : State) (o : TakeOrder) : s.silence o =
    ((s.beforeQuiet o).quietAndFlush o.drives .ringSilence).setCassettes (Vector.replicate 8 Cassette.afterReset) := rfl

theorem beforeQuiet_eq (s : State) (o : TakeOrder) : ∃ a : Attention, s.beforeQuiet o =
    (s.settle.ringQuiet.setAttention a).setTracker s.settle.tracker.silent := by
  obtain ⟨a, alone⟩ := silentAttention_attention s.settle.ringQuiet o.raiseFirst
  refine ⟨a, ?_⟩
  rw [State.beforeQuiet, alone]
  rfl

theorem discardAtn_kinds (s : State) : s.discardAtn.attention.kinds = s.attention.kinds := by
  unfold State.discardAtn
  split
  · rfl
  · exact Attention.select_kinds _

/-- RING_SILENT is pending with the last cycle number, whichever the attention unit takes first (R156, R178). -/
theorem beforeQuiet_ringSilent (s : State) (o : TakeOrder) :
    ((s.beforeQuiet o).cell 0).Shows (s.tracker.cycleNo.setWidth 32) := by
  have cycleNo : s.settle.tracker.cycleNo = s.tracker.cycleNo :=
    (congrArg Tracker.cycleNo (settle_frame s).tracker).trans rfl
  rw [← cycleNo]
  show ((s.settle.ringQuiet.silentAttention o.raiseFirst).cell 0).Shows _
  unfold State.silentAttention
  split
  · unfold State.cell
    rw [discardAtn_kinds]
    exact raise_cell_self s.settle.ringQuiet 0 _
  · have tracker : s.settle.ringQuiet.discardAtn.tracker = s.settle.tracker := by
      unfold State.discardAtn
      split <;> rfl
    unfold State.raiseSilent
    rw [tracker]
    exact raise_cell_self _ 0 _

theorem exec_ringSilence_on {s : State} {own : Byte} (works : s.worksAs own) (on : s.port.timerOn = true)
    (o : TakeOrder) :
    exec (.ringSilence o) s = .next (s.silence o) := by
  obtain ⟨released, station⟩ := works
  exact congrArg Host.Outcome.next (if_pos (by rw [on, released, station]; rfl))

/-! ### The plans at a ring silence or a soft reset -/

section
variable {s : State} (consistent : s.QueueConsistent) (distinct : s.RepeatsDistinct) (first : List (Fin 12))
  (cause : FlushCause)

theorem quietAndFlush_givenUp (consistent : s.QueueConsistent) : s.GivenUp (s.quietAndFlush first cause) := by
  have gives : GivingUp s (s.quietAndFlush first cause) := by
    unfold State.quietAndFlush
    exact (((GivingUp.refl consistent).quietDrives first).flush cause false).quietDrives drives12
  exact gives.givenUp (quietAndFlush_queue s first cause)

include consistent distinct in
/-- Where the planner hears no drive before it, the flush alone gives the plans up. -/
theorem quietAndFlush_flushed : s.Flushed (s.quietAndFlush [] cause) cause.code := by
  have after : s.quietAndFlush [] cause = drives12.foldl State.quietDrive (s.flush cause false) := rfl
  obtain ⟨planner, report, foil, attention⟩ := quietDrives_of_empty (flush_queue s cause false) drives12
  have flushed := flush_flushed consistent distinct cause false
  rw [after]
  generalize drives12.foldl State.quietDrive (s.flush cause false) = u at planner report foil attention
  exact flushed.congr ⟨rfl, rfl, rfl⟩ rfl ⟨by rw [planner], congrArg Report.nextLog report, foil⟩
    (congrArg Report.log report) (congrArg (fun a => a.kinds[(1 : Fin 18)]) attention)

end

/-! ### A ring silence, block by block -/

section
variable (s : State) (o : TakeOrder)

theorem quiet_frame : UnitFrame (s.beforeQuiet o) ((s.beforeQuiet o).quietAndFlush o.drives .ringSilence) :=
  quietAndFlush_frame ..

theorem silence_port : (s.silence o).port = { s.port with timerOn := false, window := 0 } := by
  obtain ⟨a, before⟩ := beforeQuiet_eq s o
  rw [silence_eq, State.setCassettes_port, (quiet_frame s o).port, before, ← (settle_frame s).port]
  rfl

theorem silence_tracker : (s.silence o).tracker = { s.tracker with
    mode := .unlocked, lock := 0, coast := 0, speed := 0, line := .stop, firstCycle := true
    staged := (s.silence o).tracker.staged } := by
  obtain ⟨a, before⟩ := beforeQuiet_eq s o
  have parts := (quiet_frame s o).tracker
  have tracker : (s.beforeQuiet o).tracker = s.settle.tracker.silent := by rw [before]; rfl
  rw [tracker, (settle_frame s).tracker] at parts
  rw [silence_eq, State.setCassettes_tracker]
  exact parts

theorem silence_planner : (s.silence o).planner = ((s.beforeQuiet o).quietAndFlush o.drives .ringSilence).planner := by
  rw [silence_eq, State.setCassettes_planner]

theorem silence_queue : (s.silence o).planner.queue = [] := by
  rw [silence_planner, quietAndFlush_queue]

/-- The planner, the records and the foil as the drives and the flush find them. -/
theorem beforeQuiet_plans : s.settle.planner = (s.beforeQuiet o).planner
    ∧ s.settle.report.nextLog = (s.beforeQuiet o).report.nextLog ∧ s.settle.foil = (s.beforeQuiet o).foil
    ∧ s.settle.report.log = (s.beforeQuiet o).report.log := by
  obtain ⟨a, before⟩ := beforeQuiet_eq s o
  rw [before]
  exact ⟨rfl, rfl, rfl, rfl⟩

theorem beforeQuiet_consistent (consistent : s.QueueConsistent) : (s.beforeQuiet o).QueueConsistent := by
  obtain ⟨planner, -⟩ := beforeQuiet_plans s o
  have settled := keptByUnits_consistent.settle consistent
  rwa [State.QueueConsistent, planner] at settled

theorem silence_givenUp (consistent : s.QueueConsistent) : s.settle.GivenUp (s.silence o) := by
  obtain ⟨planner, nextLog, foil, -⟩ := beforeQuiet_plans s o
  have gives := quietAndFlush_givenUp o.drives .ringSilence (beforeQuiet_consistent s o consistent)
  rw [silence_eq]
  generalize (s.beforeQuiet o).quietAndFlush o.drives .ringSilence = u at gives
  exact gives.congr ⟨planner, nextLog, foil⟩ ⟨rfl, rfl, rfl⟩

theorem silence_flushed (consistent : s.QueueConsistent) (distinct : s.RepeatsDistinct) (unheard : o.drives = []) :
    s.settle.Flushed (s.silence o) 2 := by
  obtain ⟨planner, nextLog, foil, log⟩ := beforeQuiet_plans s o
  have settledDistinct := keptByUnits_distinct.settle distinct
  rw [State.RepeatsDistinct, planner] at settledDistinct
  have flushed := quietAndFlush_flushed (beforeQuiet_consistent s o consistent) settledDistinct .ringSilence
  rw [silence_eq, unheard]
  generalize (s.beforeQuiet o).quietAndFlush [] .ringSilence = u at flushed
  exact flushed.congr ⟨planner, nextLog, foil⟩ log ⟨rfl, rfl, rfl⟩ rfl rfl

theorem silence_moved : StateMoved s (s.silence o) := by
  have keeps := keptByUnits_moved s
  have settled := keeps.settle (s := s) (.inl rfl)
  have quiet : StateMoved s ((s.beforeQuiet o).quietAndFlush o.drives .ringSilence) := by
    refine keeps.quietAndFlush o.drives .ringSilence (fun _ _ h => h) ?_
    rwa [StateMoved, (beforeQuiet_plans s o).1] at settled
  rw [silence_eq]
  generalize (s.beforeQuiet o).quietAndFlush o.drives .ringSilence = u at quiet
  exact quiet

theorem silence_st (jobs : s.JobConsistent) :
    (s.silence o).planner.st = if s.planner.st = .draining then .ready else s.planner.st := by
  obtain ⟨-, -, drains, -⟩ := kept_job.silence (n := 0) o jobs
  have queue := silence_queue s o
  rcases silence_moved s o with same | ⟨draining, ready⟩
  · rw [if_neg fun draining => drains (same.trans draining) queue, same]
  · rw [if_pos draining, ready]

theorem silence_undrained (undrained : s.planner.st ≠ .draining) : Undrained s (s.silence o) := by
  obtain ⟨a, before⟩ := beforeQuiet_eq s o
  have keeps := keptByUnits_undrained undrained
  have settled := keeps.settle (s := s) ⟨rfl, rfl, rfl⟩
  have quiet : Undrained s ((s.beforeQuiet o).quietAndFlush o.drives .ringSilence) := by
    refine keeps.quietAndFlush o.drives .ringSilence (fun _ _ h => h) ?_
    rw [before]
    exact settled
  rw [silence_eq]
  generalize (s.beforeQuiet o).quietAndFlush o.drives .ringSilence = u at quiet
  exact quiet

theorem silence_jobs : (s.silence o).jobs.banks = s.jobs.banks ∧ (s.silence o).jobs.cfg = s.jobs.cfg := by
  obtain ⟨a, before⟩ := beforeQuiet_eq s o
  have jobs : (s.beforeQuiet o).jobs = s.settle.jobs := by rw [before]; rfl
  have quiet := quiet_frame s o
  rw [silence_eq, State.setCassettes_jobs, quiet.banks, quiet.cfg, jobs, (settle_frame s).banks, (settle_frame s).cfg]
  exact ⟨rfl, rfl⟩

theorem silence_answers : (s.silence o).answers = s.answers := by
  obtain ⟨a, before⟩ := beforeQuiet_eq s o
  have answers : (s.beforeQuiet o).answers = s.settle.answers := by rw [before]; rfl
  rw [silence_eq, State.setCassettes_answers, (quiet_frame s o).answers, answers, (settle_frame s).answers]

theorem silence_cassette (c : Fin 8) :
    (s.silence o).cassettes[c] = { heat := .lost, soak := 0, drift := 0, since := 0 } := by
  have cassettes : (s.silence o).cassettes = Vector.replicate 8 Cassette.afterReset := by
    rw [silence_eq, State.setCassettes_cassettes]
  exact (congrArg (fun v => v[c]) cassettes).trans (Vector.getElem_replicate _)

theorem silence_drive (d : Fin 12) : (s.silence o).drives[d] = s.settle.drives[d].madeSilent := by
  obtain ⟨a, before⟩ := beforeQuiet_eq s o
  have drives : (s.beforeQuiet o).drives = s.settle.drives := by rw [before]; rfl
  have quiet := quietAndFlush_drives (s.beforeQuiet o) o.drives .ringSilence d
  rw [silence_eq]
  generalize (s.beforeQuiet o).quietAndFlush o.drives .ringSilence = u at quiet
  exact quiet.trans (congrArg (fun v => v[d].madeSilent) drives)

theorem silence_report : Unreported (s.silence o) := by
  obtain ⟨a, before⟩ := beforeQuiet_eq s o
  have quiet : Unreported ((s.beforeQuiet o).quietAndFlush o.drives .ringSilence) :=
    planParts_unreported.tests.toKeptByDecisions.quietAndFlush (fun _ _ h => h) (fun _ _ h => h) o.drives .ringSilence
      (by rw [before]; exact ⟨rfl, rfl⟩)
  rw [silence_eq]
  generalize (s.beforeQuiet o).quietAndFlush o.drives .ringSilence = u at quiet
  exact quiet

theorem silence_ringSilent : ((s.silence o).cell 0).Shows (s.tracker.cycleNo.setWidth 32) := by
  have parts := planParts_cell (j := 0) (by decide) ((s.beforeQuiet o).cell 0)
  have quiet : ((s.beforeQuiet o).quietAndFlush o.drives .ringSilence).cell 0 = (s.beforeQuiet o).cell 0 :=
    parts.tests.toKeptByDecisions.quietAndFlush (fun _ _ h => h)
      (fun u v h => (raise_cell_ne u v (by decide)).trans h) o.drives .ringSilence rfl
  have shown := beforeQuiet_ringSilent s o
  rw [← quiet] at shown
  rw [silence_eq]
  generalize (s.beforeQuiet o).quietAndFlush o.drives .ringSilence = u at shown
  exact shown

theorem silence_cycDue : (s.silence o).cycDue = [] := by
  obtain ⟨a, before⟩ := beforeQuiet_eq s o
  have cycDue : (s.beforeQuiet o).cycDue = s.settle.cycDue := by rw [before]; rfl
  rw [silence_eq, State.setCassettes_cycDue, quietAndFlush_cycDue, cycDue, settle_cycDue]

theorem quietDrives_of_silent {s : State} (silent : ∀ d : Fin 12, s.drives[d].link = .silent) (ds : List (Fin 12)) :
    ds.foldl State.quietDrive s = s :=
  foldl_keeps (P := fun t : State => t = s) (fun t d same => by
    subst same
    exact if_pos (silent d)) ds s rfl

/-- With no plan queued and every drive SILENT the attention unit alone acts (R178). -/
theorem silence_attention (settled : s.cycDue = []) (empty : s.planner.queue = [])
    (silent : ∀ d : Fin 12, s.drives[d].link = .silent) :
    (s.silence o).attention = (s.ringQuiet.silentAttention o.raiseFirst).attention := by
  obtain ⟨a, before⟩ := beforeQuiet_eq s o
  rw [settle_of_nil settled] at before
  have drives : ∀ d : Fin 12, (s.beforeQuiet o).drives[d].link = .silent := by rw [before]; exact silent
  have queue : (s.beforeQuiet o).planner.queue = [] := by rw [before]; exact empty
  have unflushed : (s.beforeQuiet o).flush .ringSilence false = s.beforeQuiet o := by
    unfold State.flush
    rw [queue]
    rfl
  have quiet : (s.beforeQuiet o).quietAndFlush o.drives .ringSilence = s.beforeQuiet o := by
    rw [State.quietAndFlush, quietDrives_of_silent drives, unflushed, quietDrives_of_silent drives]
  rw [silence_eq, quiet, State.beforeQuiet, settle_of_nil settled]
  rfl

end

/-- The discard of a waiting ATN, as it is spelled out (R175, R178). -/
theorem discardAtn_eq (s : State) : s.discardAtn = match s.attention.waiting with
    | none => s
    | some k => s.setAttention (Attention.select { s.attention with
        service := s.attention.service.filter fun m => m.1 != k, waiting := none }) := by
  cases waiting : s.attention.waiting with
  | none => exact discardAtn_of_none waiting
  | some k => exact discardAtn_of_some waiting

theorem discardAtn_attention (s : State) : s.discardAtn.attention =
    if s.attention.waiting.isNone then s.attention else s.attention.discardWaiting.select := by
  unfold State.discardAtn
  split <;> rfl

/-- Settles O29: each block by the lemma on what it does or keeps, the planner's by its flush. -/
theorem ringSilenceAtEveryBlock : Obligations.RingSilenceAtEveryBlock := by
  intro s o own works
  refine ⟨fun off => exec_ringSilence_off o (by simp [off]), fun on => ⟨s.silence o, exec_ringSilence_on works on o, ?_⟩⟩
  obtain ⟨silent, none⟩ := silence_report s o
  obtain ⟨banks, cfg⟩ := silence_jobs s o
  obtain ⟨pending, detail⟩ := silence_ringSilent s o
  refine ⟨silence_port s o, by rw [silence_tracker], silence_queue s o, fun consistent distinct =>
    ⟨silence_givenUp s o consistent, silence_flushed s o consistent distinct⟩, silence_st s o, fun undrained => ?undrained,
    banks, silence_cassette s o, silence_drive s o, none, silent, silence_answers s o, cfg, pending, detail, ?attention,
    silence_cycDue s o⟩
  case undrained =>
    obtain ⟨-, jobs, staged⟩ := silence_undrained s o undrained
    rw [jobs]
    exact ⟨rfl, staged, rfl⟩
  case attention =>
    intro raised discarded settled empty _ quiet
    have discards (v : State) : discarded v = v.discardAtn := (discardAtn_eq v).symm
    rw [silence_attention s o settled empty quiet, State.silentAttention]
    simp only [discards]
    cases o.raiseFirst with
    | true =>
      simp only [if_true, discardAtn_attention]
      rfl
    | false =>
      have cycleNo (v : State) : v.discardAtn.tracker = v.tracker := by
        unfold State.discardAtn
        split <;> rfl
      simp only [Bool.false_eq_true, if_false, State.raiseSilent, State.raise, State.setAttention_attention, cycleNo,
        discardAtn_attention, raised]
      rfl

end Sys2Proof.Machine

/-! ## Soft reset (R26, R51, R83, R86, R90, R123, R141, R165, R178) -/

namespace Sys2Proof.Machine

/-! ### What stands along the units of a cycle frame, the drives and the flush -/

/-- The remaining foil, the low flags and the saved totals stand (R90). -/
def FoilKept (s t : State) : Prop :=
  ∀ f : Fin 4, t.foil[f].remaining = s.foil[f].remaining ∧ t.foil[f].low = s.foil[f].low ∧ t.foil[f].saved = s.foil[f].saved

theorem FoilKept.release {s t : State} (h : FoilKept s t) (w : Fin 4) (n : Nat) :
    FoilKept s (t.modFoil w fun a => a.release n) := by
  intro f
  by_cases own : w = f
  · subst own
    have account : (t.modFoil w fun a => a.release n).foil[w] = t.foil[w].release n := Vector.getElem_set_self ..
    rw [account]
    exact h w
  · rw [modFoil_other _ _ own]
    exact h f

theorem keptByUnits_foilKept (s : State) : KeptByUnits (FoilKept s) where
  toKeptByTests := { toReportParts := {}, release := fun _ f v h => h.release f v : PlanParts (FoilKept s) }.tests
  cassette _ _ h := cassetteCycle_keeps h fun _ _ h => h

/-- The drives keep their next sequence numbers (R134, R141). -/
def NextKept (s t : State) : Prop := ∀ d : Fin 12, t.drives[d].next = s.drives[d].next

theorem NextKept.modDrive {s t : State} (h : NextKept s t) (d : Fin 12) {f : Drive → Drive}
    (same : ∀ x, (f x).next = x.next) :
    NextKept s (t.modDrive d f) := by
  intro e
  by_cases own : e = d
  · subst own
    rw [modDrive_same, same]
    exact h e
  · rw [modDrive_other _ _ own]
    exact h e

theorem keptByUnits_nextKept (s : State) : KeptByUnits (NextKept s) where
  toKeptByTests := { toReportParts := {} : PlanParts (NextKept s) }.tests
  cassette _ _ h := cassetteCycle_keeps h fun _ _ h => h
  counted _ d h := h.modDrive d fun _ => rfl
  silenced _ d h := h.modDrive d fun _ => rfl

/-- The ring-silent flag stands. -/
def SilentKept (s t : State) : Prop := t.report.ringSilent = s.report.ringSilent

theorem keptByUnits_silentKept (s : State) : KeptByUnits (SilentKept s) where
  toKeptByTests := {
    toReportParts := { hand := fun _ _ h => (Report.handReport_ringSilent ..).trans h } : PlanParts (SilentKept s) }.tests
  cassette _ _ h := cassetteCycle_keeps h fun _ _ h => h

/-- The enables and the levels of the events stand (R178). -/
def LevelsKept (s t : State) : Prop :=
  ∀ k : Fin 18, (t.cell k).enabled = (s.cell k).enabled ∧ (t.cell k).level = (s.cell k).level

theorem LevelsKept.raise {s t : State} (h : LevelsKept s t) (j : Fin 18) (v : BitVec 32) :
    LevelsKept s (t.raise j v) := by
  intro k
  by_cases own : k = j
  · subst own
    have cell : (t.raise k v).cell k =
        { t.cell k with pending := true, detail := v, count := countUp Config.maxCount8 (t.cell k).count } := by
      unfold State.cell State.raise Attention.raise
      rw [State.setAttention_attention, Attention.select_kinds, Attention.modCell_kinds_self]
    rw [cell]
    exact h k
  · rw [raise_cell_ne _ _ own]
    exact h k

theorem keptByUnits_levelsKept (s : State) : KeptByUnits (LevelsKept s) where
  toKeptByTests := { toReportParts := { event := fun _ k v _ h => h.raise k v } : PlanParts (LevelsKept s) }.tests
  cassette _ _ h := cassetteCycle_keeps h fun _ v h => h.raise _ v
  driveSilent _ v h := h.raise _ v

/-- No pitch is staged. -/
def Unstaged (s : State) : Prop := s.tracker.staged = none

theorem keptByUnits_unstaged : KeptByUnits Unstaged where
  toKeptByTests := { toReportParts := {}, pointer := fun _ _ _ => rfl : PlanParts Unstaged }.tests
  cassette _ _ h := cassetteCycle_keeps h fun _ _ h => h

/-- A flush that hands over no report leaves the waiting list (R83, R86). -/
theorem flush_rpts (s : State) (cause : FlushCause) : (s.flush cause false).report.rpts = s.report.rpts := by
  have closes (u : State) (p : Plan) : (u.closePlan p false).report.rpts = u.report.rpts := by
    rw [closePlan_report]
    rfl
  have told (u : State) (p : Plan) (l : Fin 8) (e : Entry) (d : Decision) :
      (u.recorded p l e d).report.rpts = u.report.rpts := by
    rw [recorded_report]
    rfl
  have decides (u : State) (n : Rep) (l : Fin 8) (d : Decision) :
      (u.decideEntry n l d false).report.rpts = u.report.rpts := by
    cases found : u.findPlan n with
    | none => rw [decideEntry_noPlan found]
    | some p =>
      cases isOpen : p.openEntry l with
      | none => rw [decideEntry_decided found isOpen]
      | some e =>
        rw [decideEntry_open found isOpen, decideIn_eq]
        split
        · rw [closes, told]
        · rw [told]
  have all (keys : List EntryKey) (d : Decision) (u : State) : (u.decideAll keys d false).report.rpts = u.report.rpts :=
    foldl_keeps (P := fun v : State => v.report.rpts = u.report.rpts) (fun v key h => (decides v key.1 key.2 d).trans h) keys u rfl
  have head (u : State) : (u.flushHead false).report.rpts = u.report.rpts := by
    unfold State.flushHead State.closeSpent
    split
    · rfl
    · split
      · rw [closes, all]
      · rw [all]
  have plans (n : Nat) : ∀ u : State, (State.flushPlans false n u).report.rpts = u.report.rpts := by
    induction n with
    | zero => exact fun _ => rfl
    | succ n ih => exact fun u => (ih (u.flushHead false)).trans (head u)
  unfold State.flush
  simp only
  split
  · exact plans _ s
  · exact plans _ s

theorem cell_of_attention {s t : State} (same : t.attention = s.attention) (k : Fin 18) : t.cell k = s.cell k := by
  rw [State.cell, same, State.cell]

/-! ### The blocks at a soft reset -/

/-- The blocks when the drives and the planner act on a soft reset: what the last cycle frame left is taken, the attention
unit is cleared and the arm with it, and the tracker has acted. -/
def State.beforeReset (s : State) : State :=
  ((s.settle.setAttention s.settle.attention.softCleared).setJobs { s.settle.jobs with arm := none }).setTracker
    s.settle.tracker.softReset

theorem softReset_eq (s : State) (o : TakeOrder) : s.softReset o =
    (s.beforeReset.quietAndFlush o.drives .softReset).plannerAfterReset.setCassettes
      (Vector.replicate 8 Cassette.afterReset) := rfl

section
variable (s : State) (o : TakeOrder)

/-- The state that the drives and the flush of a soft reset leave. -/
@[irreducible] def State.resetFlushed : State := s.beforeReset.quietAndFlush o.drives .softReset

theorem resetFlushed_eq : s.resetFlushed o = s.beforeReset.quietAndFlush o.drives .softReset := by
  delta State.resetFlushed
  exact Eq.refl _

/-- What the drives and the flush of a soft reset keep. -/
theorem resetFlushed_keeps {P : State → Prop} (kept : P (s.beforeReset.quietAndFlush o.drives .softReset)) :
    P (s.resetFlushed o) := by
  rwa [resetFlushed_eq]

/-- What the planner and the cassettes do at the end of a soft reset is seen by them alone. -/
theorem softReset_parts :
    (s.softReset o).answers = (s.resetFlushed o).answers ∧ (s.softReset o).port = (s.resetFlushed o).port
    ∧ (s.softReset o).pending = (s.resetFlushed o).pending ∧ (s.softReset o).freeCount = (s.resetFlushed o).freeCount
    ∧ (s.softReset o).tracker = (s.resetFlushed o).tracker ∧ (s.softReset o).jobs = (s.resetFlushed o).jobs
    ∧ (s.softReset o).foil = (s.resetFlushed o).foil ∧ (s.softReset o).drives = (s.resetFlushed o).drives
    ∧ (s.softReset o).report = (s.resetFlushed o).report ∧ (s.softReset o).attention = (s.resetFlushed o).attention
    ∧ (s.softReset o).cycDue = (s.resetFlushed o).cycDue ∧ (s.softReset o).cassettes = Vector.replicate 8 Cassette.afterReset
    ∧ (s.softReset o).planner =
      { (s.resetFlushed o).planner with st := if (s.resetFlushed o).active.isEmpty then .idle else .ready } := by
  rw [softReset_eq, ← resetFlushed_eq]
  generalize s.resetFlushed o = u
  exact ⟨rfl, rfl, rfl, rfl, rfl, rfl, rfl, rfl, rfl, rfl, rfl, rfl, rfl⟩

theorem reset_frame : UnitFrame s.beforeReset (s.resetFlushed o) :=
  resetFlushed_keeps s o (quietAndFlush_frame ..)

theorem reset_tracker : (s.resetFlushed o).tracker = { s.tracker with
    speed := 0, line := .stop, firstCycle := true, mode := .unlocked, lock := 0, coast := 0, stray := 0, repeatNo := 0
    staged := none } := by
  have unstaged : Unstaged (s.resetFlushed o) :=
    resetFlushed_keeps s o (keptByUnits_unstaged.quietAndFlush o.drives .softReset (fun _ _ h => h) rfl)
  have parts := (reset_frame s o).tracker
  have before : s.beforeReset.tracker = s.settle.tracker.softReset := rfl
  rw [before, (settle_frame s).tracker, (unstaged : (s.resetFlushed o).tracker.staged = none)] at parts
  exact parts

theorem reset_jobs : (s.resetFlushed o).jobs.arm = none ∧ (s.resetFlushed o).jobs.banks = s.jobs.banks ∧ (s.resetFlushed o).jobs.cfg = s.jobs.cfg := by
  have frame := reset_frame s o
  have arm : s.beforeReset.jobs.arm = none := rfl
  have banks : s.beforeReset.jobs.banks = s.settle.jobs.banks := rfl
  have cfg : s.beforeReset.jobs.cfg = s.settle.jobs.cfg := rfl
  have cleared : (s.resetFlushed o).jobs.arm = none := by rw [resetFlushed_eq, quietAndFlush_arm o.drives .softReset arm]
  exact ⟨cleared, (frame.banks.trans banks).trans (settle_frame s).banks,
    (frame.cfg.trans cfg).trans (settle_frame s).cfg⟩

theorem reset_active (undrained : s.planner.st ≠ .draining) : (s.resetFlushed o).jobs.active = s.jobs.active := by
  obtain ⟨st, jobs, -⟩ := (keptByUnits_undrained undrained).settle (s := s) ⟨rfl, rfl, rfl⟩
  have before : s.beforeReset.planner.st ≠ .draining := by
    have same : s.beforeReset.planner.st = s.settle.planner.st := rfl
    rwa [same, st]
  have quiet : Undrained s.beforeReset (s.resetFlushed o) := resetFlushed_keeps s o
    ((keptByUnits_undrained before).quietAndFlush o.drives .softReset (fun _ _ h => h) ⟨rfl, rfl, rfl⟩)
  obtain ⟨-, jobs', -⟩ := quiet
  have active : s.beforeReset.jobs.active = s.settle.jobs.active := rfl
  exact (congrArg Jobs.active jobs').trans (active.trans (congrArg Jobs.active jobs))

theorem beforeReset_plans : s.settle.planner = s.beforeReset.planner
    ∧ s.settle.report = s.beforeReset.report ∧ s.settle.foil = s.beforeReset.foil := ⟨rfl, rfl, rfl⟩

theorem beforeReset_consistent (consistent : s.QueueConsistent) : s.beforeReset.QueueConsistent :=
  keptByUnits_consistent.settle consistent

theorem softReset_givenUp (consistent : s.QueueConsistent) : s.settle.GivenUp (s.softReset o) := by
  obtain ⟨-, -, -, -, -, -, foil, -, report, -, -, -, planner⟩ := softReset_parts s o
  have gives : s.beforeReset.GivenUp (s.resetFlushed o) :=
    resetFlushed_keeps s o (quietAndFlush_givenUp o.drives .softReset (beforeReset_consistent s consistent))
  exact gives.congr ⟨rfl, rfl, rfl⟩ ⟨by rw [planner], congrArg Report.nextLog report, foil⟩

theorem softReset_flushed (consistent : s.QueueConsistent) (distinct : s.RepeatsDistinct) (unheard : o.drives = []) :
    s.settle.Flushed (s.softReset o) 3 := by
  obtain ⟨-, -, -, -, -, -, foil, -, report, attention, -, -, planner⟩ := softReset_parts s o
  have beforeDistinct : s.beforeReset.RepeatsDistinct := keptByUnits_distinct.settle distinct
  have flushed : s.beforeReset.Flushed (s.resetFlushed o) 3 := by
    rw [resetFlushed_eq, unheard]
    exact quietAndFlush_flushed (beforeReset_consistent s consistent) beforeDistinct .softReset
  exact flushed.congr ⟨rfl, rfl, rfl⟩ rfl ⟨by rw [planner], congrArg Report.nextLog report, foil⟩
    (congrArg Report.log report) (cell_of_attention attention 1)

theorem reset_foil : FoilKept s (s.resetFlushed o) := by
  have keeps := keptByUnits_foilKept s
  have settled := keeps.settle (s := s) fun _ => ⟨rfl, rfl, rfl⟩
  exact resetFlushed_keeps s o (keeps.quietAndFlush o.drives .softReset (fun _ _ h => h) settled)

theorem reset_drive (d : Fin 12) : (s.resetFlushed o).drives[d] = s.settle.drives[d].madeSilent := by
  rw [resetFlushed_eq]
  exact quietAndFlush_drives s.beforeReset o.drives .softReset d

theorem Drive.madeSilent_link (x : Drive) : x.madeSilent.link = .silent ∧ x.madeSilent.next = x.next := by
  unfold Drive.madeSilent
  split
  next silent => exact ⟨silent, rfl⟩
  · exact ⟨rfl, rfl⟩

theorem reset_ringSilent : (s.resetFlushed o).report.ringSilent = s.report.ringSilent := by
  have keeps := keptByUnits_silentKept s
  have settled := keeps.settle (s := s) rfl
  exact resetFlushed_keeps s o (keeps.quietAndFlush o.drives .softReset (fun _ _ h => h) settled)

theorem reset_rpts (unheard : o.drives = []) : (s.resetFlushed o).report.rpts = s.settle.report.rpts := by
  have after : s.beforeReset.quietAndFlush [] .softReset = drives12.foldl State.quietDrive (s.beforeReset.flush .softReset false) := rfl
  obtain ⟨-, report, -⟩ := quietDrives_of_empty (flush_queue s.beforeReset .softReset false) drives12
  rw [resetFlushed_eq, unheard, after, report, flush_rpts]
  rfl

theorem reset_levels : LevelsKept s (s.resetFlushed o) := by
  have keeps := keptByUnits_levelsKept s
  have settled := keeps.settle (s := s) fun _ => ⟨rfl, rfl⟩
  have cleared : LevelsKept s s.beforeReset := by
    intro k
    have cell : s.beforeReset.cell k = { s.settle.cell k with pending := false, detail := 0, count := 0 } :=
      Vector.getElem_map ..
    rw [cell]
    exact settled k
  exact resetFlushed_keeps s o (keeps.quietAndFlush o.drives .softReset (fun _ v h => h.raise _ v) cleared)

theorem reset_events : FlushEventsOnly (s.resetFlushed o) := by
  refine resetFlushed_keeps s o (quietAndFlush_events ⟨rfl, fun k pending => ?_⟩ o.drives .softReset)
  have cell : s.beforeReset.cell k = { s.settle.cell k with pending := false, detail := 0, count := 0 } :=
    Vector.getElem_map ..
  rw [cell] at pending
  cases pending

theorem reset_cycDue : (s.resetFlushed o).cycDue = [] := by
  rw [resetFlushed_eq, quietAndFlush_cycDue]
  exact settle_cycDue s

end

/-- Settles O30: each block by the lemma on what it does or keeps, the planner's by its flush. -/
theorem softResetInEveryBlock : Obligations.SoftResetInEveryBlock := by
  intro s h q o taken
  obtain ⟨answers, port, pending, freeCount, tracker, jobs, foil, drives, report, attention, cycDue, cassettes, planner⟩ :=
    softReset_parts s o
  have frame := reset_frame s o
  have settled := settle_frame s
  obtain ⟨arm, banks, cfg⟩ := reset_jobs s o
  obtain ⟨-, events⟩ := reset_events s o
  refine ⟨s.softReset o, next_of_reply taken rfl 0x1C, ?_⟩
  rw [answers, port, pending, freeCount, tracker, jobs, foil, drives, report, attention, cycDue, cassettes]
  refine ⟨frame.answers.trans settled.answers, frame.port.trans settled.port, frame.pending.trans settled.pending,
    frame.freeCount.trans settled.freeCount, reset_tracker s o, arm, banks, cfg, reset_active s o, ?queue, ?st,
    fun consistent distinct => ⟨softReset_givenUp s o consistent, softReset_flushed s o consistent distinct⟩,
    reset_foil s o, fun c => Vector.getElem_replicate _, fun d => ?drive, reset_ringSilent s o, reset_rpts s o,
    fun k => ⟨(reset_levels s o k).1, (reset_levels s o k).2, events k⟩, reset_cycDue s o⟩
  case queue =>
    rw [planner, resetFlushed_eq, quietAndFlush_queue]
  case st =>
    have active : (s.softReset o).active = (s.resetFlushed o).active := congrArg Jobs.activeBank jobs
    rw [planner, active]
  case drive =>
    obtain ⟨link, next⟩ := Drive.madeSilent_link s.settle.drives[d]
    have kept := (keptByUnits_nextKept s).settle (s := s) (fun _ => rfl) d
    rw [reset_drive]
    exact ⟨rfl, link, next.trans kept⟩

end Sys2Proof.Machine

/-! ## Drive status frames (R127 to R131) -/

namespace Sys2Proof.Machine

/-! ### A status frame read for one drive -/

section
variable (s : State) (d : Fin 12) (flags echo : Byte)

/-- The state when the records that the echo covers have left the list and the planner has heard of each (R128). -/
def State.echoed : State := (s.modDrive d fun x => { x with cycles := 0 }).echo d echo

theorem readDst_eq : s.readDst d flags echo =
    ((((s.echoed d echo).judgeFlags d flags).warn d flags).recover d flags echo).modDrive d
      fun x => { x with last := flags, lastEcho := echo } := rfl

/-- The frame finds the drive faulty, ANSWERING or SILENT (R129). -/
def State.faults : Bool := s.faulty d flags && s.drives[d].link != .faulted

/-- The frame carries an unmasked flag that the last flags did not hold (R130). -/
def State.warns : Bool := flags &&& ~~~s.jobs.cfg.masks[d] &&& ~~~s.drives[d].last != 0

/-- What every act of a read keeps, the read keeps. -/
theorem readDst_keeps {P : State → Prop} (modDrive : ∀ u f, P u → P (State.modDrive u d f))
    (fault : ∀ u v, P u → P (State.raise u Event.driveFault v)) (warn : ∀ u v, P u → P (State.raise u Event.driveWarn v))
    (acknowledge : ∀ u i, P u → P (State.acknowledge u i)) (notice : ∀ u, P u → P (State.notice u d .driveFault))
    (p : P s) : P (s.readDst d flags echo) := by
  have echoed : P (s.echoed d echo) := by
    unfold State.echoed State.echo
    exact modDrive _ _ (foldl_keeps (fun u (r : Outstanding) p => acknowledge u r.item p) _ _ (modDrive _ _ p))
  have judged : P ((s.echoed d echo).judgeFlags d flags) := by
    unfold State.judgeFlags
    split
    · exact notice _ (fault _ _ (modDrive _ _ echoed))
    · exact echoed
  have warned : P (((s.echoed d echo).judgeFlags d flags).warn d flags) := by
    unfold State.warn
    split
    · exact warn _ _ judged
    · exact judged
  rw [readDst_eq]
  refine modDrive _ _ ?_
  unfold State.recover
  split
  · exact modDrive _ _ warned
  · exact warned

theorem readDst_rest : (s.readDst d flags echo).cassettes = s.cassettes ∧ (s.readDst d flags echo).cycDue = s.cycDue :=
  readDst_keeps s d flags echo (P := fun t => t.cassettes = s.cassettes ∧ t.cycDue = s.cycDue) (fun _ _ h => h)
    (fun _ _ h => h) (fun _ _ h => h)
    (fun u i h => ⟨(acknowledge_frame u i).cassettes.trans h.1, (acknowledge_frame u i).cycDue.trans h.2⟩)
    (fun u h => ⟨(notice_frame u d _).cassettes.trans h.1, (notice_frame u d _).cycDue.trans h.2⟩) ⟨rfl, rfl⟩

end

/-! #### The drive -/

/-- A state in which one drive alone has changed, and the station configuration stands. -/
structure WithDrive (s v : State) (d : Fin 12) (x : Drive) : Prop where
  drives : v.drives = s.drives.set d x
  cfg : v.jobs.cfg = s.jobs.cfg

namespace WithDrive
variable {s : State} {d : Fin 12} {v u : State} {x : Drive} {flags : Byte}

theorem drive (h : WithDrive s v d x) : v.drives[d] = x :=
  (congrArg (fun ds => ds[d]) h.drives).trans (Vector.getElem_set_self ..)

theorem modDrive (h : WithDrive s v d x) (f : Drive → Drive) : WithDrive s (v.modDrive d f) d (f x) := by
  refine ⟨?_, h.cfg⟩
  have changed : (v.modDrive d f).drives = v.drives.set d (f v.drives[d]) := rfl
  rw [changed, h.drive, h.drives, Vector.set_set]

theorem of_frame (h : WithDrive s v d x) (frame : PlanFrame v u) : WithDrive s u d x :=
  ⟨frame.drives.trans h.drives, frame.cfg.trans h.cfg⟩

theorem faulty (h : WithDrive s v d x) : v.faulty d flags = s.faulty d flags := by
  rw [State.faulty, h.cfg, State.faulty]

end WithDrive

section
variable (s : State) (d : Fin 12) (flags echo : Byte)

/-- A drive when its list has been cleared of what the echo covers. -/
def Drive.echoed (x : Drive) (echo : Byte) : Drive := { x with cycles := 0, out := x.out.drop (x.covered echo) }

theorem echoed_drive : WithDrive s (s.echoed d echo) d (s.drives[d].echoed echo) := by
  have reported : WithDrive s (s.modDrive d fun x => { x with cycles := 0 }) d { s.drives[d] with cycles := 0 } := ⟨rfl, rfl⟩
  have heard (os : List Outstanding) := reported.of_frame (PlanFrame.foldl (fun v (o : Outstanding) => acknowledge_frame v o.item) os _)
  have covered : ackedBy echo (s.modDrive d fun x => { x with cycles := 0 }).drives[d].out = s.drives[d].covered echo := by
    rw [modDrive_same]
    exact ackedBy_eq_covered s.drives[d] echo
  unfold State.echoed State.echo
  simp only
  rw [covered]
  exact (heard _).modDrive _

/-- The drive after the judgement of the flags: FAULTED by a faulty frame (R129). -/
theorem judged_drive {v : State} {x : Drive} (h : WithDrive s v d x) : WithDrive s (v.judgeFlags d flags) d
    (if s.faulty d flags = true then { x with link := .faulted } else x) := by
  unfold State.judgeFlags
  rw [h.faulty, h.drive]
  cases s.faulty d flags with
  | false => exact h
  | true =>
    simp only [Bool.true_and, if_true]
    split
    · exact ((h.modDrive _).of_frame (raise_frame ..).plan).of_frame (notice_frame ..)
    next already =>
      have same : { x with link := .faulted } = x := by
        have link : x.link = .faulted := by simpa using already
        rw [← link]
      rw [same]
      exact h

/-- The drive after the return to ANSWERING (R131). -/
theorem recovered_drive {v : State} {x : Drive} (h : WithDrive s v d x) : WithDrive s (v.recover d flags echo) d
    (if !s.faulty d flags && x.accepts echo then { x with link := .answering } else x) := by
  unfold State.recover
  rw [h.faulty, h.drive]
  split
  · exact h.modDrive _
  · exact h

/-- The five steps at the drive (R127 to R131). -/
theorem readDst_drives : (s.readDst d flags echo).drives =
    s.drives.set d (s.drives[d].afterDst (s.faulty d flags) flags echo) := by
  have judged := judged_drive s d flags (echoed_drive s d echo)
  have warned := judged.of_frame (u := ((s.echoed d echo).judgeFlags d flags).warn d flags) (by
    unfold State.warn
    split
    · exact (raise_frame ..).plan
    · exact .refl _)
  have last := (recovered_drive s d flags echo warned).modDrive fun x => { x with last := flags, lastEcho := echo }
  rw [readDst_eq, last.drives]
  refine congrArg (s.drives.set d ·) ?_
  unfold Drive.afterDst Drive.accepts Drive.echoed
  cases s.faulty d flags with
  | true => rfl
  | false =>
    simp only [Bool.not_false, Bool.true_and, Bool.false_eq_true, if_false]
    split <;> rfl

/-! #### DRIVE_FAULT and DRIVE_WARN -/

theorem acknowledge_attention (u : State) (i : PlanItem) : (u.acknowledge i).attention = u.attention := by
  cases i <;> rfl

theorem echoed_attention : (s.echoed d echo).attention = s.attention := by
  unfold State.echoed State.echo
  simp only
  exact foldl_keeps (P := fun u : State => u.attention = s.attention)
    (fun u (o : Outstanding) h => (acknowledge_attention u o.item).trans h) _ _ rfl

theorem notice_cell {k : Fin 18} (other : k ∉ decisionEvents) (u : State) (r : Reason) :
    (u.notice d r).cell k = u.cell k :=
  (planParts_cell other (u.cell k)).tests.toKeptByDecisions.notice d r rfl

theorem echoed_faults :
    ((s.echoed d echo).faulty d flags && (s.echoed d echo).drives[d].link != .faulted) = s.faults d flags := by
  have h := echoed_drive s d echo
  rw [h.faulty, h.drive]
  rfl

/-- The events of a read: DRIVE_FAULT and DRIVE_WARN with the drive's number (R129, R130). -/
theorem readDst_cells :
    (if s.faults d flags = true then ((s.readDst d flags echo).cell 3).Shows (BitVec.ofNat 32 d.val)
      else (s.readDst d flags echo).cell 3 = s.cell 3)
    ∧ (if s.warns d flags = true then ((s.readDst d flags echo).cell 11).Shows (BitVec.ofNat 32 d.val)
      else (s.readDst d flags echo).cell 11 = s.cell 11) := by
  have judged := judged_drive s d flags (echoed_drive s d echo)
  have echoed (k : Fin 18) : (s.echoed d echo).cell k = s.cell k := cell_of_attention (echoed_attention s d echo) k
  have last : (s.readDst d flags echo).attention = (((s.echoed d echo).judgeFlags d flags).warn d flags).attention := by
    rw [readDst_eq]
    show (State.recover _ d flags echo).attention = _
    unfold State.recover
    split <;> rfl
  have warnTest : (flags &&& ~~~((s.echoed d echo).judgeFlags d flags).jobs.cfg.masks[d]
      &&& ~~~((s.echoed d echo).judgeFlags d flags).drives[d].last != 0) = s.warns d flags := by
    rw [judged.cfg, judged.drive, State.warns]
    split <;> rfl
  have judgedCell (k : Fin 18) (other : k ∉ decisionEvents) : ((s.echoed d echo).judgeFlags d flags).cell k =
      if s.faults d flags = true then (((s.echoed d echo).modDrive d fun x => { x with link := .faulted }).raise
        Event.driveFault (detail d.val)).cell k else s.cell k := by
    unfold State.judgeFlags
    rw [echoed_faults]
    split
    · exact notice_cell d other _ _
    · exact echoed k
  rw [cell_of_attention last, cell_of_attention last]
  unfold State.warn
  rw [warnTest]
  have fault := judgedCell 3 (by decide)
  have warn := judgedCell 11 (by decide)
  have warnKept : ((s.echoed d echo).judgeFlags d flags).cell 11 = s.cell 11 := by
    rw [warn]
    split
    · exact (raise_cell_ne _ _ (by decide)).trans (echoed 11)
    · rfl
  constructor
  · have kept : (if s.warns d flags = true then ((s.echoed d echo).judgeFlags d flags).raise Event.driveWarn (detail d.val)
        else (s.echoed d echo).judgeFlags d flags).cell 3 = ((s.echoed d echo).judgeFlags d flags).cell 3 := by
      split
      · exact raise_cell_ne _ _ (by decide)
      · rfl
    rw [kept, fault]
    split
    · exact raise_cell_self _ 3 _
    · rfl
  · split
    · exact raise_cell_self _ 11 _
    · exact warnKept

/-! #### The plans -/

/-- What the planner hears of a drive at a status frame, in a state whose plans may have changed since: the covered
setpoints acknowledged, oldest first, and the fault notice (R69, R78, R128). -/
def State.hearsDst (s : State) (flags echo : Byte) (v : State) (d : Fin 12) : State :=
  let heard := (s.drives[d].out.take (s.drives[d].covered echo)).foldl (fun u r => u.hears r.item) v
  if s.faulty d flags && s.drives[d].link != .faulted then heard.notice d .driveFault else heard

theorem SamePlans.elsewhere {v u w : State} (h : SamePlans v u) (planner : w.planner = u.planner)
    (jobs : w.jobs = u.jobs)
    (foil : w.foil = u.foil) (report : w.report = u.report) : SamePlans v w :=
  ⟨planner.trans h.planner, jobs.trans h.jobs, foil.trans h.foil, report.trans h.report⟩

theorem SamePlans.heard (os : List Outstanding) : ∀ {v u : State}, SamePlans v u →
    SamePlans (os.foldl (fun w r => w.hears r.item) v) (os.foldl (fun w r => w.acknowledge r.item) u) := by
  induction os with
  | nil => exact id
  | cons o os ih =>
    intro v u h
    refine ih ?_
    simp only [← acknowledge_eq_hears]
    exact followsPlans_samePlans.acknowledge o.item h

theorem echoed_samePlans {v u : State} (h : SamePlans v u) :
    SamePlans ((u.drives[d].out.take (u.drives[d].covered echo)).foldl (fun w r => w.hears r.item) v) (u.echoed d echo) := by
  have covered : ackedBy echo (u.modDrive d fun x => { x with cycles := 0 }).drives[d].out = u.drives[d].covered echo := by
    rw [modDrive_same]
    exact ackedBy_eq_covered u.drives[d] echo
  have out : (u.modDrive d fun x => { x with cycles := 0 }).drives[d].out = u.drives[d].out := by rw [modDrive_same]
  unfold State.echoed State.echo
  simp only
  rw [covered, out]
  have heard := SamePlans.heard (u.drives[d].out.take (u.drives[d].covered echo))
    (h.elsewhere (w := u.modDrive d fun x => { x with cycles := 0 }) rfl rfl rfl rfl)
  exact heard.elsewhere rfl rfl rfl rfl

theorem readDst_samePlans {v u : State} (h : SamePlans v u) (drive : u.drives[d] = s.drives[d])
    (cfg : u.jobs.cfg = s.jobs.cfg) : SamePlans (s.hearsDst flags echo v d) (u.readDst d flags echo) := by
  have heard := echoed_samePlans d echo h
  have faulty : u.faulty d flags = s.faulty d flags := by rw [State.faulty, cfg, State.faulty]
  have test : ((u.echoed d echo).faulty d flags && (u.echoed d echo).drives[d].link != .faulted) =
      (s.faulty d flags && s.drives[d].link != .faulted) := by
    rw [echoed_faults, State.faults, faulty, drive]
  rw [drive] at heard
  have judged : SamePlans (s.hearsDst flags echo v d) ((u.echoed d echo).judgeFlags d flags) := by
    unfold State.hearsDst State.judgeFlags
    simp only
    rw [test]
    split
    · exact followsPlans_samePlans.notice d .driveFault (heard.elsewhere rfl rfl rfl rfl)
    · exact heard
  have warned : SamePlans (s.hearsDst flags echo v d) (((u.echoed d echo).judgeFlags d flags).warn d flags) := by
    unfold State.warn
    split
    · exact judged.elsewhere rfl rfl rfl rfl
    · exact judged
  rw [readDst_eq]
  have recovered : SamePlans (s.hearsDst flags echo v d) ((((u.echoed d echo).judgeFlags d flags).warn d flags).recover d flags echo) := by
    unfold State.recover
    split
    · exact warned.elsewhere rfl rfl rfl rfl
    · exact warned
  exact recovered.elsewhere rfl rfl rfl rfl

end

/-! ### A status frame read for the drives of its source -/

section
variable (flags echo : Byte)

/-- The frame read for each of some drives. -/
def State.readDsts (s : State) (ds : List (Fin 12)) : State := ds.foldl (fun u d => u.readDst d flags echo) s

theorem readDsts_frame (s : State) (ds : List (Fin 12)) : UnitFrame s (s.readDsts flags echo ds) :=
  UnitFrame.foldl (fun u d => readDst_frame u d flags echo) ds s

theorem readDsts_rest (s : State) (ds : List (Fin 12)) :
    (s.readDsts flags echo ds).cassettes = s.cassettes ∧ (s.readDsts flags echo ds).cycDue = s.cycDue :=
  foldl_keeps (P := fun t : State => t.cassettes = s.cassettes ∧ t.cycDue = s.cycDue) (fun u d h =>
    ⟨(readDst_rest u d flags echo).1.trans h.1, (readDst_rest u d flags echo).2.trans h.2⟩) ds s ⟨rfl, rfl⟩

theorem readDst_drive_ne (s : State) {d e : Fin 12} (other : e ≠ d) :
    (s.readDst d flags echo).drives[e] = s.drives[e] := by
  refine (congrArg (fun ds => ds[e]) (readDst_drives s d flags echo)).trans ?_
  exact Vector.getElem_set_ne _ _ fun same => other (Fin.ext same.symm)

theorem faulty_of_cfg {s t : State} (cfg : t.jobs.cfg = s.jobs.cfg) (d : Fin 12) :
    t.faulty d flags = s.faulty d flags := by
  rw [State.faulty, cfg, State.faulty]

theorem readDsts_drive {ds : List (Fin 12)} (once : ds.Nodup) (s : State) (e : Fin 12) :
    (s.readDsts flags echo ds).drives[e] =
      if e ∈ ds then s.drives[e].afterDst (s.faulty e flags) flags echo else s.drives[e] := by
  induction ds generalizing s with
  | nil => rfl
  | cons d ds ih =>
    obtain ⟨notLater, once⟩ := List.nodup_cons.mp once
    refine (ih once (s.readDst d flags echo)).trans ?_
    by_cases first : e = d
    · subst first
      rw [if_neg notLater, if_pos List.mem_cons_self]
      exact (congrArg (fun ds => ds[e]) (readDst_drives s e flags echo)).trans (Vector.getElem_set_self ..)
    · rw [readDst_drive_ne flags echo s first, faulty_of_cfg flags (readDst_frame s d flags echo).cfg]
      simp only [List.mem_cons, first, false_or]

/-- An event that some of the drives raise, each with its number, and that the others leave alone. -/
theorem readDsts_cell {test : State → Fin 12 → Bool} {k : Fin 18}
    (local' : ∀ (u : State) (d e : Fin 12), e ≠ d → test (u.readDst d flags echo) e = test u e)
    (raises : ∀ (u : State) (d : Fin 12), if test u d = true then ((u.readDst d flags echo).cell k).Shows (BitVec.ofNat 32 d.val)
      else (u.readDst d flags echo).cell k = u.cell k) {ds : List (Fin 12)} (once : ds.Nodup) (s : State) :
    ((∃ d ∈ ds, test s d = true) → ∃ d ∈ ds, test s d = true ∧ ((s.readDsts flags echo ds).cell k).Shows (BitVec.ofNat 32 d.val))
      ∧ ((∀ d ∈ ds, test s d = false) → (s.readDsts flags echo ds).cell k = s.cell k) := by
  induction ds generalizing s with
  | nil => exact ⟨fun ⟨_, member, _⟩ => (by cases member), fun _ => rfl⟩
  | cons d ds ih =>
    obtain ⟨notLater, once⟩ := List.nodup_cons.mp once
    obtain ⟨some', none⟩ := ih once (s.readDst d flags echo)
    have same (e : Fin 12) (later : e ∈ ds) : test (s.readDst d flags echo) e = test s e :=
      local' s d e fun own => notLater (own ▸ later)
    have first := raises s d
    refine ⟨fun exists' => ?_, fun quiet => ?_⟩
    · by_cases later : ∃ e ∈ ds, test (s.readDst d flags echo) e = true
      · obtain ⟨e, member, meets, shown⟩ := some' later
        exact ⟨e, List.mem_cons_of_mem d member, (same e member).symm.trans meets, shown⟩
      · have noLater : ∀ e ∈ ds, test (s.readDst d flags echo) e = false := fun e member =>
          Bool.eq_false_iff.mpr fun meets => later ⟨e, member, meets⟩
        obtain ⟨e, member, meets⟩ := exists'
        rcases List.mem_cons.mp member with rfl | behind
        · rw [if_pos meets] at first
          exact ⟨e, List.mem_cons_self, meets, (none noLater).symm ▸ first⟩
        · have quiet := noLater e behind
          rw [same e behind, meets] at quiet
          cases quiet
    · obtain ⟨quietFirst, quietLater⟩ := List.forall_mem_cons.mp quiet
      rw [if_neg (by simp [quietFirst])] at first
      exact (none fun e member => (same e member).trans (quietLater e member)).trans first

theorem readDsts_samePlans {ds : List (Fin 12)} (once : ds.Nodup) (s : State) : ∀ {v u : State}, SamePlans v u →
    (∀ d ∈ ds, u.drives[d] = s.drives[d]) → u.jobs.cfg = s.jobs.cfg →
      SamePlans (ds.foldl (s.hearsDst flags echo) v) (u.readDsts flags echo ds) := by
  induction ds with
  | nil => exact fun h _ _ => h
  | cons d ds ih =>
    intro v u h drives cfg
    obtain ⟨notLater, once⟩ := List.nodup_cons.mp once
    obtain ⟨own, later⟩ := List.forall_mem_cons.mp drives
    refine ih once (readDst_samePlans s d flags echo h own cfg) (fun e member => ?_)
      ((readDst_frame u d flags echo).cfg.trans cfg)
    have other : e ≠ d := fun same => notLater (same ▸ member)
    rw [readDst_drive_ne flags echo u other]
    exact later e member

end

/-- Settles O19: the drives of the source, each once, in the order of service. -/
theorem driveStatusFrames : Obligations.DriveStatusFrames := by
  intro s h p o reads flags echo faulty served faults warns cell
  let u := s.forward (Frame.bytes { kind := Frame.dst, h, payload := p })
  let order := takeInOrder o.drives (s.jobs.cfg.drivesOf h.src)
  have perm : order.Perm (s.jobs.cfg.drivesOf h.src) := takeInOrder_perm ..
  have once : order.Nodup := perm.nodup_iff.mpr (.filter _ (List.nodup_finRange 12))
  have isServed (d : Fin 12) : d ∈ order ↔ served d := by
    rw [perm.mem_iff, StationCfg.drivesOf, List.mem_filter, and_iff_right (mem_drives12 d), beq_iff_eq]
  have frame := readDsts_frame flags echo u order
  obtain ⟨cassettes, cycDue⟩ := readDsts_rest flags echo u order
  have sameTest {a b : State} (drive : Fin 12) (cfg : b.jobs.cfg = a.jobs.cfg) (own : b.drives[drive] = a.drives[drive]) :
      b.faults drive flags = a.faults drive flags ∧ b.warns drive flags = a.warns drive flags := by
    rw [State.faults, State.faults, State.warns, State.warns, faulty_of_cfg flags cfg, own, cfg]
    exact ⟨rfl, rfl⟩
  have faultCell := readDsts_cell flags echo (test := fun v d => v.faults d flags) (k := 3)
    (fun v d e other => (sameTest e (readDst_frame v d flags echo).cfg (readDst_drive_ne flags echo v other)).1)
    (fun v d => (readDst_cells v d flags echo).1) once u
  have warnCell := readDsts_cell flags echo (test := fun v d => v.warns d flags) (k := 11)
    (fun v d e other => (sameTest e (readDst_frame v d flags echo).cfg (readDst_drive_ne flags echo v other)).2)
    (fun v d => (readDst_cells v d flags echo).2) once u
  have isFault (d : Fin 12) : faults d ↔ d ∈ order ∧ u.faults d flags = true := by
    rw [isServed, State.faults, Bool.and_eq_true, bne_iff_ne]
    exact Iff.rfl
  have isWarn (d : Fin 12) : warns d ↔ d ∈ order ∧ u.warns d flags = true := by
    rw [isServed, State.warns, bne_iff_ne]
    exact Iff.rfl
  have plans := readDsts_samePlans flags echo once s (v := s) (u := u) ⟨rfl, rfl, rfl, rfl⟩ (fun _ _ => rfl) rfl
  refine ⟨u.readDsts flags echo order, congrArg Host.Outcome.next (arriveRead_of_reads reads _), fun d => ?drive, frame.port,
    cassettes, frame.answers, cycDue, frame.cfg, ?tracker, fun exists' => ?faulted, fun none => ?unfaulted, fun exists' => ?warned,
    fun none => ?unwarned, order, once, isServed, fun unordered => ?sorted, plans.planner, plans.jobs, plans.foil, plans.report⟩
  case drive =>
    refine (readDsts_drive flags echo once u d).trans ?_
    simp only [isServed]
    rfl
  case tracker => rw [frame.tracker]; rfl
  case faulted =>
    simp only [isFault] at exists' ⊢
    obtain ⟨d, member, meets, pending, detail⟩ := faultCell.1 exists'
    exact ⟨pending, d, ⟨member, meets⟩, detail⟩
  case unfaulted =>
    simp only [isFault, not_and, Bool.not_eq_true] at none
    exact faultCell.2 none
  case warned =>
    simp only [isWarn] at exists' ⊢
    obtain ⟨d, member, meets, pending, detail⟩ := warnCell.1 exists'
    exact ⟨pending, d, ⟨member, meets⟩, detail⟩
  case unwarned =>
    simp only [isWarn, not_and, Bool.not_eq_true] at none
    exact warnCell.2 none
  case sorted =>
    have plain : order = s.jobs.cfg.drivesOf h.src := by simp only [order, unordered, takeInOrder]
    rw [plain]
    exact (List.pairwise_lt_finRange 12).filter _

end Sys2Proof.Machine

/-! ## The tests of a cycle frame (R67, R70 to R74) -/

namespace Sys2Proof.Machine

/-! ### The tests of an entry -/

theorem atOrPast_iff (a b : Pos) : atOrPast a b = true ↔ 0 ≤ dist b a := decide_eq_true_iff

theorem foilAcked_eq (p : Plan) (e : Entry) : (!p.foilAcked e) = ((e.kind == .foil || e.kind == .foilEmboss)
    && (match e.move.bind fun i => p.moves[i]? with | none => true | some m => m.st != .acked)) := by
  have foil : e.kind.isFoil = (e.kind == .foil || e.kind == .foilEmboss) := by cases e.kind <;> rfl
  unfold Plan.foilAcked Plan.moveOf
  rw [← foil, Bool.not_or, Bool.not_not]
  cases e.move.bind fun i => p.moves[i]? <;> rfl

section
variable {s : State} {n : Rep} {p : Plan} {l : Fin 8} {e : Entry} (found : s.findPlan n = some p)
  (isOpen : p.openEntry l = some e)
include found isOpen

theorem testEntry_eq : s.testEntry n l =
    if e.phs.isUnsent = true ∧ 0 ≤ dist e.late s.tracker.pos then s.decideEntry n l (.reject .late) true
    else if 0 ≤ dist e.contact s.tracker.pos then s.decideEntry n l (s.contactOutcome p e) true
    else if 0 ≤ dist e.release s.tracker.pos then
      s.modPlan n fun p => p.modOpen l fun e => { e with phs := e.phs.release }
    else s := by
  rw [State.testEntry, found]
  simp only [isOpen, Bool.and_eq_true, atOrPast_iff]

end

section
variable {s : State} {n : Rep} {p : Plan} {i : Nat} {m : Move} (found : s.findPlan n = some p) (move : p.moves[i]? = some m)
  (unsent : m.st.isUnsent = true)
include found move unsent

theorem testMove_eq : s.testMove n i =
    if 0 ≤ dist (m.start - len s.jobs.cfg.lmin) s.tracker.pos then s.giveUpMove p i m
    else if 0 ≤ dist (m.start - len s.jobs.cfg.lf) s.tracker.pos then
      s.modPlan n fun p => p.modMove i fun m => { m with st := m.st.release }
    else s := by
  rw [State.testMove, found]
  simp only [move, unsent, Bool.true_eq_false, if_false, atOrPast_iff]

end

/-! ### A move given up (R72) -/

/-- The account of a move's web with its reservation given back (R102). -/
def foilGivenBack (foil : Vector FoilAccount 4) (m : Move) : Vector FoilAccount 4 :=
  foil.set m.web { foil[m.web] with reserved := foil[m.web].reserved - m.reserved }

theorem needs_iff (i : Nat) (e : Entry) : e.needs i = true ↔ e.move = some i ∧ e.outcome = none := by
  simp [Entry.needs, Entry.undecided]

section
variable {p : Plan} {i : Nat} {m : Move} {e : Entry} {es : List Entry} (consistent : p.Consistent)
  (served : p.entries.filter (Entry.needs i) = e :: es)
include served

theorem served_first : e ∈ p.entries ∧ e.move = some i ∧ e.outcome = none := by
  have member : e ∈ p.entries.filter (Entry.needs i) := served ▸ List.mem_cons_self
  obtain ⟨inPlan, needs⟩ := List.mem_filter.mp member
  exact ⟨inPlan, (needs_iff i e).mp needs⟩

include consistent

theorem served_isOpen : p.openEntry e.lane = some e := by
  obtain ⟨member, -, undecided⟩ := served_first served
  exact openEntry_of_mem consistent.nodup member (by rw [Entry.undecided, undecided]; rfl)

theorem served_lanes : e.lane ∉ es.map (·.lane) := by
  have lanes : ((e :: es).map (·.lane)).Nodup := served ▸ consistent.nodup.sublist (List.filter_sublist.map _)
  exact (List.nodup_cons.mp lanes).1

omit consistent in
/-- The last entry that the move serves spends it. -/
theorem spends_of_last (move : p.moves[i]? = some m) (unsent : m.st = .unsent ∨ m.st = .due) (last : es = []) :
    p.Spends e i m := by
  obtain ⟨-, own, -⟩ := served_first served
  refine ⟨own, move, unsent, fun x member served' undecided => ?_⟩
  have among : x ∈ p.entries.filter (Entry.needs i) := List.mem_filter.mpr ⟨member, (needs_iff i x).mpr ⟨served', undecided⟩⟩
  rw [served, last, List.mem_singleton] at among
  rw [among]

/-- Another entry that the move serves keeps it from being spent. -/
theorem not_spends_of_more {x : Entry} (more : x ∈ es) (k : Nat) (y : Move) : ¬p.Spends e k y := by
  rintro ⟨own, -, -, only⟩
  obtain ⟨-, own', -⟩ := served_first served
  obtain rfl : i = k := Option.some.inj (own'.symm.trans own)
  have member : x ∈ p.entries.filter (Entry.needs i) := served ▸ List.mem_cons_of_mem e more
  obtain ⟨inPlan, needs⟩ := List.mem_filter.mp member
  obtain ⟨served', undecided⟩ := (needs_iff i x).mp needs
  exact served_lanes consistent served (only x inPlan served' undecided ▸ List.mem_map_of_mem more)

/-- The entries that the move still serves once the first is decided. -/
theorem filter_needs_decidedIn (d : Decision) :
    (p.entries.map (Entry.decidedIn e.lane d)).filter (Entry.needs i) = es := by
  have others {xs : List Entry} : (xs.map (Entry.decidedIn e.lane d)).filter (Entry.needs i) =
      (xs.filter (Entry.needs i)).filter (·.lane != e.lane) := by
    induction xs with
    | nil => rfl
    | cons x xs ih =>
      rw [List.map_cons, List.filter_cons, ih, List.filter_cons]
      by_cases own : x.lane = e.lane
      · have gone : (x.decidedIn e.lane d).needs i = false := by
          simp [Entry.needs, Entry.undecided, Entry.decidedIn_outcome, own]
        rw [gone]
        cases x.needs i <;> simp [own]
      · have same : x.decidedIn e.lane d = x := if_neg own
        rw [same]
        cases x.needs i <;> simp [own]
  rw [others, served, List.filter_cons, if_neg (by simp)]
  exact List.filter_eq_self.mpr fun x behind => by
    simpa using fun own : x.lane = e.lane => served_lanes consistent served (own ▸ List.mem_map_of_mem behind)

end

theorem decideEntry_foil {s : State} {n : Rep} {p : Plan} {l : Fin 8} {e : Entry} (found : s.findPlan n = some p)
    (consistent : p.Consistent) (isOpen : p.openEntry l = some e) (d : Decision) (reports : Bool) :
    (∀ i m, p.Spends e i m → (s.decideEntry n l d reports).foil = foilGivenBack s.foil m)
      ∧ ((∀ i m, ¬p.Spends e i m) → (s.decideEntry n l d reports).foil = s.foil) := by
  rw [decideEntry_open found isOpen, decideIn_foil]
  exact releaseSpent_foil consistent isOpen d s

/-- The entries that an unsent move serves, decided one after another: the last decision withdraws it (R70, R72). -/
theorem decideServed {n : Rep} {i : Nat} {m : Move} {d : Decision} {reports : Bool} {a b : List Plan}
    (unsent : m.st = .unsent ∨ m.st = .due) : ∀ {es : List Entry} {e : Entry} {s : State} {p : Plan},
      QueueSplit s.planner.queue n a p b → p.Consistent → p.moves[i]? = some m →
      p.entries.filter (Entry.needs i) = e :: es →
      ∃ p', Decides s ((e :: es).foldl (fun v e => v.decideEntry n e.lane d reports) s) a b p p' (e :: es) d reports
        ∧ p'.moves = p.moves.modify i (fun k => { k with st := .withdrawn })
        ∧ ((e :: es).foldl (fun v e => v.decideEntry n e.lane d reports) s).foil = foilGivenBack s.foil m
  | [], e, s, p, split, consistent, move, served => by
    have isOpen := served_isOpen consistent served
    have spends := spends_of_last served move unsent rfl
    obtain ⟨moves, decided, spent, -⟩ := decideOpen_eq consistent isOpen d
    refine ⟨_, .one split consistent isOpen d reports, ?_, (decideEntry_foil split.find consistent isOpen d reports).1 i m spends⟩
    rw [decided, spent i m spends, List.modify_eq_set_getElem?, move]
    rfl
  | x :: es, e, s, p, split, consistent, move, served => by
    have isOpen := served_isOpen consistent served
    have unspent := not_spends_of_more consistent served List.mem_cons_self
    obtain ⟨moves, decided, -, kept⟩ := decideOpen_eq consistent isOpen d
    have first := Decides.one split consistent isOpen d reports
    have left := filter_needs_decidedIn consistent served d
    rw [← decideOpen_entries_map consistent isOpen d] at left
    have undone : (p.decideOpen e.lane e d).done = false := by
      have member : x ∈ (p.decideOpen e.lane e d).entries.filter (Entry.needs i) := left ▸ List.mem_cons_self
      obtain ⟨inPlan, needs⟩ := List.mem_filter.mp member
      obtain ⟨-, undecided⟩ := (needs_iff i x).mp needs
      exact Bool.eq_false_iff.mpr fun done => by
        have decided := List.all_eq_true.mp done x inPlan
        simp [Entry.undecided, undecided] at decided
    have queue := first.queue
    rw [undone] at queue
    have split' : QueueSplit (s.decideEntry n e.lane d reports).planner.queue n a (p.decideOpen e.lane e d) b :=
      ⟨queue, split.before, (Plan.decideOpen_repeatNo ..).trans split.number⟩
    have sameMoves : (p.decideOpen e.lane e d).moves = p.moves := by rw [decided]; exact kept unspent
    obtain ⟨p', rest, withdrawn, foil⟩ := decideServed unsent split' (consistent.decideOpen undone) (sameMoves ▸ move) left
    refine ⟨p', first.cons undone rest (served_lanes consistent served), sameMoves ▸ withdrawn, foil.trans ?_⟩
    rw [(decideEntry_foil split.find consistent isOpen d reports).2 unspent]

/-- A move given up, where it serves no undecided entry: it is withdrawn and its reservation given back. -/
theorem giveUpMove_idle {s : State} {p : Plan} {i : Nat} (m : Move) (served : p.entries.filter (Entry.needs i) = []) :
    s.giveUpMove p i m = (s.modPlan p.repeatNo fun p => p.withdrawMove i).modFoil m.web fun a => a.release m.reserved := by
  have none : (p.servedKeys i).isEmpty = true := by simp [Plan.servedKeys, served]
  exact if_pos none

/-- A move given up, where it serves some: they are decided in their order. -/
theorem giveUpMove_served {s : State} {p : Plan} {i : Nat} (m : Move) {n : Rep} (number : p.repeatNo = n)
    (served : p.entries.filter (Entry.needs i) ≠ []) :
    s.giveUpMove p i m =
      (p.entries.filter (Entry.needs i)).foldl (fun v e => v.decideEntry n e.lane (.reject .late) true) s := by
  have some' : (p.servedKeys i).isEmpty = false := by simpa [Plan.servedKeys] using served
  rw [State.giveUpMove, some', if_neg (by decide), Plan.servedKeys, number, State.decideAll, List.foldl_map]

/-! ### The contact check (R74) -/

/-- The decision for the first condition that fails. -/
def decisionFor (why : Option Reason) : Decision := why.elim .stamped .reject

theorem decisionFor_firstFailing (checks : List (Bool × Reason)) :
    (match checks.find? (·.1) with | none => Decision.stamped | some why => .reject why.2) =
      decisionFor ((checks.find? (·.1)).map (·.2)) := by
  cases checks.find? (·.1) <;> rfl

/-- The first condition that fails, by the reason it is rejected for. -/
def State.contactReason (s : State) (p : Plan) (e : Entry) : Option Reason :=
  if e.phs ≠ .acked then some .noAck
  else if p.foilAcked e = false then some .foilNoAck
  else if e.kind ≠ .embossCold ∧ s.cassettes[e.lane].heat.permits = false then some .heat
  else if s.tracker.speed < p.vmin then some .speed
  else none

theorem contactOutcome_eq (s : State) (p : Plan) (e : Entry) :
    s.contactOutcome p e = decisionFor (s.contactReason p e) := by
  unfold State.contactOutcome State.contactReason
  split_ifs <;> rfl

theorem contactReason_eq (s : State) (p : Plan) (e : Entry) :
    (([(e.phs != .acked, Reason.noAck), (!p.foilAcked e, Reason.foilNoAck),
      (e.kind != .embossCold && s.cassettes[e.lane].heat != .ready && s.cassettes[e.lane].heat != .drift, Reason.heat),
      (decide (s.tracker.speed < p.vmin), Reason.speed)] : List (Bool × Reason)).find? (·.1)).map (·.2) =
        s.contactReason p e := by
  refine firstFailing_cons ?phs (firstFailing_cons ?foil (firstFailing_cons ?heat (firstFailing_cons ?speed rfl)))
  case phs => rw [bne_iff_ne]
  case foil => rw [Bool.not_eq_true']
  case heat => simp only [Bool.and_eq_true, bne_iff_ne, permits_eq_false_iff, and_assoc]
  case speed => rw [decide_eq_true_eq]

/-! ### The tests -/

/-- The plan when a move of it has been given up and stays behind. -/
def Plan.givenUp (p : Plan) (i : Nat) : Plan := { p with
  entries := p.entries.map fun e => if e.needs i then e.decidedAs (.reject .late) else e
  moves := p.moves.modify i fun k => { k with st := .withdrawn } }

section
variable {s : State} {n : Rep} {p : Plan} {i : Nat} {m : Move} (consistent : p.Consistent)
  (found : s.findPlan n = some p)
include consistent found

theorem giveUpMove_queue_idle (served : p.entries.filter (Entry.needs i) = []) :
    (s.giveUpMove p i m).planner.queue = (s.planChanged n fun p => p.givenUp i).planner.queue := by
  rw [giveUpMove_idle m served, findPlan_repeatNo found, ← modPlan_eq_planChanged]
  refine updateFirst_eq_of_find? found ?_
  have same : (p.entries.map fun e => if e.needs i then e.decidedAs (.reject .late) else e) = p.entries := by
    rw [← decidedAmong_filter consistent.nodup, served]
    exact List.map_id _
  rw [Plan.givenUp, same]
  rfl

/-- A move given up while it serves entries: they are decided in lane order, the last decision withdraws it (R72). -/
theorem giveUpMove_queue_served (move : p.moves[i]? = some m) (unsent : m.st = .unsent ∨ m.st = .due)
    (served : p.entries.filter (Entry.needs i) ≠ []) :
    (s.giveUpMove p i m).foil = foilGivenBack s.foil m
      ∧ ((∀ e ∈ p.entries, e.outcome = none → e.move = some i) →
          (s.giveUpMove p i m).planner.queue = s.planner.queue.eraseP (·.repeatNo == n))
      ∧ ((∃ e ∈ p.entries, e.outcome = none ∧ e.move ≠ some i) →
          (s.giveUpMove p i m).planner.queue = (s.planChanged n fun p => p.givenUp i).planner.queue) := by
  obtain ⟨a, b, split⟩ := QueueSplit.of_findPlan found
  obtain ⟨e, es, list⟩ := List.exists_cons_of_ne_nil served
  rw [giveUpMove_served m (findPlan_repeatNo found) served]
  obtain ⟨p', decides, moves, foil⟩ := decideServed (d := .reject .late) (reports := true) unsent split consistent move list
  rw [← list] at decides foil
  have chosen := ChosenDecided.of_decides (choice := fun _ => Entry.needs i) decides consistent
  have done := chosen.done_iff
  refine ⟨foil, fun all => ?_, fun some' => ?_⟩
  · have closed : p'.done = true := by
      rw [done, Bool.not_eq_true', List.any_eq_false]
      intro x member
      cases undecided : x.outcome with
      | some o => simp
      | none => simp [Entry.needs, Entry.undecided, undecided, all x member undecided]
    rw [decides.queue, closed, if_pos rfl, ← split.removeFirst, removeFirst_eq_eraseP]
    rfl
  · have opened : p'.done = false := by
      obtain ⟨x, member, undecided, other⟩ := some'
      rw [done, Bool.not_eq_false', List.any_eq_true]
      exact ⟨x, member, by simp [Entry.needs, undecided, other]⟩
    have changed := chosen.plan
    rw [moves] at changed
    have place : (s.planChanged n fun p => p.givenUp i).planner.queue = a ++ p.givenUp i :: b := by
      rw [← modPlan_eq_planChanged]
      exact split.updateFirst _
    rw [decides.queue, opened, place, changed]
    rfl

end

/-- Settles O22: the branches of the two tests, and the entries of a move given up decided one after another. -/
theorem testsOfACycleFrame : Obligations.TestsOfACycleFrame := by
  refine ⟨fun s n l p e found isOpen => ?_, fun s n i p m _ consistent found move unsent => ?_⟩
  · intro isUnsent outcome tested
    have contact : s.contactOutcome p e = outcome := by
      have table := contactReason_eq s p e
      rw [foilAcked_eq] at table
      exact (contactOutcome_eq s p e).trans ((congrArg decisionFor table.symm).trans (decisionFor_firstFailing _).symm)
    have branches := testEntry_eq found isOpen
    rw [contact] at branches
    refine ⟨fun sent late => ?_, fun notLate past => ?_, fun notLate before past => ?_, fun notLate before ahead => ?_⟩
    · exact branches.trans (if_pos ⟨(isUnsent_iff _).mpr sent, late⟩)
    · refine branches.trans ((if_neg fun ⟨sent, late⟩ => notLate ⟨(isUnsent_iff _).mp sent, late⟩).trans (if_pos past))
    · refine branches.trans ((if_neg fun ⟨sent, late⟩ => notLate ⟨(isUnsent_iff _).mp sent, late⟩).trans ?_)
      rw [if_neg (by omega), if_pos past, modPlan_eq_planChanged]
      simp only [Plan.modOpen, updateFirst_eq_atFirst]
      rfl
    · refine branches.trans ((if_neg fun ⟨sent, late⟩ => notLate ⟨(isUnsent_iff _).mp sent, late⟩).trans ?_)
      rw [if_neg (by omega), if_neg (by omega)]
  · intro tested servedBy
    have branches := testMove_eq found move ((isUnsent_iff _).mpr unsent)
    have pConsistent := consistent p (List.mem_of_find?_eq_some found)
    refine ⟨fun late => ?_, fun early past => ?_, fun early ahead => ?_⟩
    · have givenUp : tested = s.giveUpMove p i m := branches.trans (if_pos late)
      rw [givenUp]
      by_cases served : p.entries.filter (Entry.needs i) = []
      · have none : p.entries.any servedBy = false := by
          rw [← Bool.not_eq_true, List.any_eq_true]
          rintro ⟨x, member, needs⟩
          exact List.not_mem_nil (served ▸ List.mem_filter.mpr ⟨member, needs⟩ : x ∈ [])
        have idle := giveUpMove_idle (s := s) m served
        refine ⟨congrArg State.foil idle, fun all => ?_, fun _ => giveUpMove_queue_idle pConsistent found served, ?_, fun _ => ?_⟩
        · have undone := pConsistent.1
          rw [Plan.done, List.all_eq_false] at undone
          obtain ⟨x, member, undecided⟩ := undone
          have undecided : x.outcome = Option.none := by simpa [Entry.undecided] using undecided
          exact absurd (served ▸ List.mem_filter.mpr ⟨member, (needs_iff i x).mpr ⟨all x member undecided, undecided⟩⟩ : x ∈ [])
            List.not_mem_nil
        · exact fun some' => absurd (none.symm.trans some') Bool.false_ne_true
        · rw [idle]
          rfl
      · obtain ⟨foil, closed, opened⟩ := giveUpMove_queue_served pConsistent found move unsent served
        refine ⟨foil, closed, opened, fun _ => giveUpMove_served m (findPlan_repeatNo found) served, fun none => absurd ?_ served⟩
        exact List.filter_eq_nil_iff.mpr (List.any_eq_false.mp none)
    · refine branches.trans ((if_neg (by omega)).trans ((if_pos past).trans ?_))
      rw [modPlan_eq_planChanged]
      rfl
    · exact branches.trans ((if_neg (by omega)).trans (if_neg (by omega)))

end Sys2Proof.Machine

/-! ## The planner takes a hand-over (R52, R60, R23, R44) -/

namespace Sys2Proof.Machine

/-! ### A repeat overflows (R60) -/

/-- Some lanes of an overflowed repeat have been recorded and counted (R60, R81). -/
structure Overflows (h : HandOver) (ls : List (Fin 8)) (s t : State) : Prop where
  others : t = { s with planner := { s.planner with rejected := t.planner.rejected }, report := t.report,
                        attention := t.attention }
  counts : ∀ k : Fin 8, t.planner.rejected[k] =
    if k ∈ ls then countLabel s.planner.rejected[k] else s.planner.rejected[k]
  log : s.report.log.length ≤ 256 → s.report.LogTook t.report (ls.map (overflowRecord h))
  silent : t.report.ringSilent = s.report.ringSilent
  rpts : t.report.rpts = s.report.rpts

theorem overflows_lane (h : HandOver) (s : State) (l : Fin 8) : Overflows h [l] s (State.overflowLane h s l) := by
  have report : (State.overflowLane h s l).report = s.report.write (overflowRecord h l) := writeLog_report ..
  refine ⟨?_, fun k => ?_, fun bounded => ?_, ?_, ?_⟩
  · obtain ⟨pending, port, tracker, jobs, planner, foil, cassettes, drives, answers, cycDue, freeCount⟩ :=
      writeLog_frame s (overflowRecord h l)
    unfold State.overflowLane
    simp only [State.setPlanner, pending, port, tracker, jobs, planner, foil, cassettes, drives, answers, cycDue, freeCount]
    rfl
  · have counted := (s.writeLog (overflowRecord h l)).planner.count_rejected l k (.suppressed .overflow)
    rw [writeLog_planner] at counted
    refine Eq.trans (congrArg (fun v : Planner => (v.count l (.suppressed .overflow)).rejected[k]) (writeLog_planner ..)) ?_
    rw [counted]
    simp [eq_comm]
  · rw [report]
    exact Report.logTook_write bounded _
  · rw [report]
    rfl
  · rw [report]
    rfl

theorem Overflows.cons {h : HandOver} {l : Fin 8} {ls : List (Fin 8)} {s t u : State} (first : Overflows h [l] s t)
    (rest : Overflows h ls t u) (new : l ∉ ls) : Overflows h (l :: ls) s u := by
  refine ⟨?_, fun k => ?_, fun bounded => ?_, rest.silent.trans first.silent, rest.rpts.trans first.rpts⟩
  · have others := rest.others
    rw [first.others] at others
    exact others
  · rw [rest.counts, first.counts]
    by_cases own : k = l
    · simp [own, new]
    · simp [own]
  · have took := first.log bounded
    have stillBounded : t.report.log.length ≤ 256 := by
      rw [took.length]
      omega
    exact took.trans bounded (rest.log stillBounded)

theorem overflows_lanes (h : HandOver) : ∀ {ls : List (Fin 8)} (s : State), ls.Nodup →
    Overflows h ls s (ls.foldl (State.overflowLane h) s)
  | [], _, _ => ⟨rfl, fun _ => rfl, fun bounded => .nil bounded, rfl, rfl⟩
  | l :: ls, s, distinct => by
    obtain ⟨new, distinct⟩ := List.nodup_cons.mp distinct
    exact (overflows_lane h s l).cons (overflows_lanes h _ distinct) new

theorem overflow_overflows (s : State) (h : HandOver) :
    Overflows h s.lanesInUse s (s.lanesInUse.foldl (State.overflowLane h) s) := by
  have all : lanes8.Nodup := by decide
  exact overflows_lanes h s (all.filter _)

theorem mem_lanesInUse (s : State) (l : Fin 8) : l ∈ s.lanesInUse ↔ s.active.lanes[l].mode ≠ .off := by
  have all : ∀ l : Fin 8, l ∈ lanes8 := by decide
  simp [State.lanesInUse, all]

theorem overflow_cell (s : State) (h : HandOver) : ((s.overflow h).cell 7).Shows h.repeatNo := raise_cell_self ..

/-! ### The planner's states (R52) -/

theorem plannerTakes_draining {s : State} (h : HandOver) (st : s.planner.st = .draining) :
    s.plannerTakes h = s.changeoverCheck h.repeatNo := by
  unfold State.plannerTakes
  rw [st]

theorem plannerTakes_stamping {s : State} (h : HandOver) (st : s.planner.st = .stamping) :
    s.plannerTakes h = s.planRepeat h := by
  unfold State.plannerTakes
  rw [st]

theorem plannerTakes_unplanned {s : State} (h : HandOver) (st : s.planner.st = .idle ∨ s.planner.st = .ready) :
    s.plannerTakes h = s := by
  unfold State.plannerTakes
  rcases st with st | st <;> rw [st]

theorem planRepeat_full {s : State} (h : HandOver) (full : 32 ≤ s.planner.queue.length) :
    s.planRepeat h = s.overflow h := if_pos full

theorem planRepeat_room {s : State} (h : HandOver) (room : s.planner.queue.length < 32) :
    s.planRepeat h = (s.changeoverCheck h.repeatNo).planEntries h (s.jobs.isDue h.repeatNo) :=
  if_neg (show ¬32 ≤ s.planner.queue.length by omega)

theorem takePitch_staged {s : State} {l : Nat} (staged : s.tracker.staged = some l) : s.takePitch =
    (s.setActive { s.active with job := { s.active.job with lr := l } }).setTracker { s.tracker with staged := none } := by
  unfold State.takePitch
  rw [staged]

theorem takePitch_none {s : State} (staged : s.tracker.staged = none) : s.takePitch = s := by
  unfold State.takePitch
  rw [staged]

/-! ### The changeover check (R44) -/

theorem isDue_none {s : State} (n : Rep) (arm : s.jobs.arm = none) : s.jobs.isDue n = false := by
  unfold Jobs.isDue
  rw [arm]

theorem isDue_next {s : State} (n : Rep) (arm : s.jobs.arm = some .next) : s.jobs.isDue n = true := by
  unfold Jobs.isDue
  rw [arm]

theorem isDue_atRepeat {s : State} (n : Rep) {t : Rep} (arm : s.jobs.arm = some (.atRepeat t)) :
    s.jobs.isDue n = true ↔ 0 ≤ dist t n := by
  unfold Jobs.isDue
  rw [arm]
  exact atOrPast_iff n t

/-- Settles O13: the branches of the planner's state, and the lanes of an overflow one after another. -/
theorem handOverByPlannerState : Obligations.HandOverByPlannerState := by
  refine ⟨fun s h => ⟨fun st => ?unplanned, fun st => ?draining, fun st room => ?planned, fun st full => ?overflows⟩,
    fun s => takePitch_none, fun s l => takePitch_staged,
    fun s n => ⟨fun arm => ?unarmed, fun arm => ?next, fun t arm => ?numbered⟩, fun s => ?taken⟩
  case unplanned => rw [State.handOver, plannerTakes_unplanned h st]
  case draining => rw [State.handOver, plannerTakes_draining h st]
  case planned => rw [State.handOver, plannerTakes_stamping h st, planRepeat_room h room]
  case overflows =>
    obtain ⟨others, counts, log, silent, rpts⟩ := overflow_overflows s h
    obtain ⟨pending, detail⟩ := overflow_cell s h
    refine ⟨s.overflow h, ?_, ?_, fun l => ?_, fun bounded => ?_, ?_, ?_, pending, detail⟩
    · rw [State.handOver, plannerTakes_stamping h st, planRepeat_full h full]
    · unfold State.overflow
      generalize s.lanesInUse.foldl (State.overflowLane h) s = t at others
      rw [others]
      rfl
    · refine (counts l).trans ?_
      by_cases off : s.active.lanes[l].mode = .off
      · rw [if_pos off, if_neg (mt (mem_lanesInUse s l).mp (not_not.mpr off))]
      · rw [if_neg off, if_pos ((mem_lanesInUse s l).mpr off)]
    · obtain ⟨next, taken⟩ := log bounded
      exact ⟨(Report.handReport_nextLog ..).trans next, (Report.handReport_log ..).trans taken⟩
    · exact (Report.handReport_ringSilent ..).trans silent
    · refine (Report.handReport_rpts ..).trans ?_
      rw [silent, rpts]
      cases s.report.ringSilent <;> rfl
  case unarmed => rw [State.changeoverCheck, isDue_none n arm, if_neg Bool.false_ne_true]
  case next => rw [State.changeoverCheck, isDue_next n arm, if_pos rfl]
  case numbered => exact if_congr (isDue_atRepeat n arm) rfl rfl
  case taken => rfl

end Sys2Proof.Machine

/-! ## The missing-mark test (R15 to R17) -/

namespace Sys2Proof.Machine

/-! ### With no changeover armed and no pitch staged -/

/-- No changeover is armed, and the job, the tracker, REGISTER_LOST and MARK_MISSED stand as they stood. -/
structure Steady (s t : State) : Prop where
  unarmed : t.jobs.arm = none
  job : t.active.job = s.active.job
  tracker : t.tracker = s.tracker
  events : ∀ k : Fin 18, k = 5 ∨ k = 9 → t.cell k = s.cell k

namespace Steady
variable {s t u : State}

theorem refl (unarmed : s.jobs.arm = none) : Steady s s := ⟨unarmed, rfl, rfl, fun _ _ => rfl⟩

theorem trans (a : Steady s t) (b : Steady t u) : Steady s u :=
  ⟨b.unarmed, b.job.trans a.job, b.tracker.trans a.tracker, fun k own => (b.events k own).trans (a.events k own)⟩

/-- A change outside the jobs, the tracker and the attention unit. -/
theorem elsewhere (h : Steady s t) (jobs : u.jobs = t.jobs) (tracker : u.tracker = t.tracker)
    (attention : u.attention = t.attention) : Steady s u := by
  refine ⟨by rw [jobs]; exact h.unarmed, ?_, tracker.trans h.tracker, fun k own => ?_⟩
  · rw [State.active, jobs]
    exact h.job
  · exact (cell_of_attention attention k).trans (h.events k own)

theorem raise (h : Steady s t) {k : Fin 18} (lost : k ≠ 5) (missed : k ≠ 9) (v : BitVec 32) :
    Steady s (t.raise k v) := by
  refine ⟨h.unarmed, h.job, h.tracker, fun j own => (raise_cell_ne t v ?_).trans (h.events j own)⟩
  rcases own with rfl | rfl
  · exact lost.symm
  · exact missed.symm

theorem closePlan (h : Steady s t) (p : Plan) (reports : Bool) : Steady s (t.closePlan p reports) := by
  obtain ⟨jobs, tracker, attention⟩ := (closePlan_changeover t p reports).2 fun taken => by simp [h.unarmed] at taken
  exact h.elsewhere jobs tracker attention

theorem recorded (h : Steady s t) (p : Plan) (l : Fin 8) (e : Entry) (d : Decision) :
    Steady s (t.recorded p l e d) := by
  obtain ⟨jobs, tracker, -⟩ := recorded_frame t p l e d
  obtain ⟨-, -, -, others⟩ := recorded_cells t p l e d
  refine ⟨by rw [jobs]; exact h.unarmed, ?_, tracker.trans h.tracker, fun k own => ?_⟩
  · rw [State.active, jobs]
    exact h.job
  · refine (others k ?_ ?_ ?_).trans (h.events k own)
    all_goals rcases own with rfl | rfl <;> decide

theorem decideEntry (h : Steady s t) (n : Rep) (l : Fin 8) (d : Decision) (reports : Bool) :
    Steady s (t.decideEntry n l d reports) := by
  rcases decideEntry_cases t n l d reports with same | ⟨p, e, recorded | ⟨q, closed⟩⟩
  · rwa [same]
  · rw [recorded]
    exact h.recorded ..
  · rw [closed]
    exact (h.recorded ..).closePlan ..

theorem keptByUnits (s : State) : KeptByUnits (Steady s) where
  decide _ n l d reports h := h.decideEntry n l d reports
  closeDone _ p _ reports _ _ h := h.closePlan p reports
  withdraw _ _ _ _ _ _ _ _ _ h := h.elsewhere rfl rfl rfl
  moveDue _ _ _ h := h.elsewhere rfl rfl rfl
  entryDue _ _ _ h := h.elsewhere rfl rfl rfl
  cycDue _ _ h := h.elsewhere rfl rfl rfl
  cassette _ _ h := cassetteCycle_keeps (h.elsewhere rfl rfl rfl) fun _ v h => h.raise (by decide) (by decide) v
  counted _ _ h := h.elsewhere rfl rfl rfl
  driveSilent _ v h := h.raise (by decide) (by decide) v
  silenced _ _ h := h.elsewhere rfl rfl rfl

theorem raise_of_draft (h : Steady s t) {k : Fin 18} (event : k ∈ decisionEvents ++ draftEvents) (v : BitVec 32) :
    Steady s (t.raise k v) := by
  refine h.raise ?_ ?_ v
  all_goals exact fun same => absurd (same ▸ event) (by decide)

theorem draftParts (s : State) : DraftParts (Steady s) where
  event _ _ v own h := h.raise_of_draft (List.mem_append_left _ own) v
  draftEvent _ _ v own h := h.raise_of_draft (List.mem_append_right _ own) v
  write _ _ h := h.elsewhere rfl rfl rfl
  hand _ _ h := h.elsewhere rfl rfl rfl
  count _ _ _ h := h.elsewhere rfl rfl rfl
  advance t l h := by
    obtain ⟨unarmed, job, tracker, events⟩ := h
    refine ⟨unarmed, ?_, tracker, events⟩
    rw [State.setActive_active]
    exact job
  join _ _ _ h := h.elsewhere rfl rfl rfl
  reserve _ _ _ h := h.elsewhere rfl rfl rfl
  low _ _ h := h.elsewhere rfl rfl rfl
  save _ _ _ _ h := h.elsewhere rfl rfl rfl

theorem plannerTakes (h : Steady s t) (m : HandOver) : Steady s (t.plannerTakes m) := by
  have unchecked : t.changeoverCheck m.repeatNo = t := by
    rw [State.changeoverCheck, isDue_none _ h.unarmed, if_neg Bool.false_ne_true]
  cases st : t.planner.st with
  | idle => rwa [plannerTakes_unplanned m (.inl st)]
  | ready => rwa [plannerTakes_unplanned m (.inr st)]
  | draining => rwa [plannerTakes_draining m st, unchecked]
  | stamping =>
    rw [plannerTakes_stamping m st]
    by_cases full : 32 ≤ t.planner.queue.length
    · rw [planRepeat_full m full]
      exact (draftParts s).overflow m h
    · have room : t.planner.queue.length < 32 := by omega
      rw [planRepeat_room m room, unchecked]
      exact (draftParts s).planEntries m _ room h

theorem handOver (h : Steady s t) (unstaged : s.tracker.staged = none) (m : HandOver) : Steady s (t.handOver m) := by
  have taken := h.plannerTakes m
  rw [State.handOver, takePitch_none (by rw [taken.tracker]; exact unstaged)]
  exact taken

end Steady

/-! ### The test -/

/-- The prediction plus W has been reached (R15). -/
theorem markMissing_iff (s : State) : s.markMissing = true ↔
    0 ≤ dist (s.tracker.mtPrev + len s.active.job.lr + len s.active.job.w) s.tracker.pos := atOrPast_iff ..

section
variable {n : Nat} {t : Thread}

theorem missingMarks_stop (stop : t.2.markMissing = false ∨ t.2.tracker.mode = .unlocked) : missingMarks n t = t := by
  cases n with
  | zero => rfl
  | succ n =>
    unfold missingMarks
    split
    · rfl
    next missing =>
      rw [stop.resolve_left missing]

theorem missingMarks_locking (missing : t.2.markMissing = true) (mode : t.2.tracker.mode = .locking) :
    missingMarks (n + 1) t = (t.1, t.2.setTracker { t.2.tracker with mode := .unlocked, lock := 0 }) := by
  rw [missingMarks, if_neg (by simp [missing]), mode]

theorem missingMarks_synthesize (missing : t.2.markMissing = true)
    (mode : t.2.tracker.mode = .locked ∨ t.2.tracker.mode = .coasting) :
    missingMarks (n + 1) t = missingMarks n (atPoint (t.1, t.2.synthesize)) := by
  rw [missingMarks, if_neg (by simp [missing])]
  rcases mode with mode | mode <;> rw [mode]

end

/-- The tracker after a mark synthesized at the prediction (R16). -/
def State.synthTracker (s : State) (m : TrackMode) (coast : Nat) : Tracker :=
  { s.tracker with mode := m, coast, mtPrev := s.predicted, repeatNo := s.tracker.repeatNo + 1 }

/-- What a synthesis hands over (R16, R21). -/
def State.synthHandOver (s : State) (m : TrackMode) : HandOver :=
  { repeatNo := s.tracker.repeatNo + 1, mt := s.predicted, residual := 0, mode := m, synth := true }

theorem synthesize_coasts {s : State} (coasts : s.tracker.coastNext < s.active.job.ncoast) : s.synthesize =
    ((s.raise 9 (BitVec.ofNat 32 s.tracker.coastNext)).setTracker
      (s.synthTracker .coasting s.tracker.coastNext)).handOver (s.synthHandOver .coasting) := if_pos coasts

theorem synthesize_loses {s : State} (loses : s.active.job.ncoast ≤ s.tracker.coastNext) : s.synthesize =
    ((s.raise 5 (s.tracker.repeatNo + 1)).setTracker (s.synthTracker .unlocked 0)).handOver (s.synthHandOver .unlocked) :=
  if_neg (by omega)

/-! ### The cycle frame -/

theorem readCycle_undisturbed {s : State} {o : TakeOrder} {f : CycleFrame} {w : State} {x : State}
    (opened : w = (s.beforeTracker o).setTracker ((s.beforeTracker o).tracker.take f))
    (undisturbed : (s.beforeTracker o).disturbed f = false)
    (tested : Steady x (missingMarks 255 (o.points.drop 1, w)).2) : Steady x (s.readCycle o f) := by
  have keeps := Steady.keptByUnits x
  have tracked : trackerTakes f (atPoint (o.points, s.settle.openCycle)) = missingMarks 255 (o.points.drop 1, w) := by
    rw [opened]
    exact if_neg (by rw [Bool.not_eq_true]; exact undisturbed)
  unfold State.readCycle
  simp only
  rw [tracked]
  exact keeps.takeUnits _ (keeps.plannerAtPoints _ _ (keeps.atPoint _ (keeps.cycDue _ _ tested)))

theorem missingMarks_none {n : Nat} {w : State} {points : List (List CycUnit)} (unarmed : w.jobs.arm = none)
    (stop : w.markMissing = false ∨ w.tracker.mode = .unlocked) : Steady w (missingMarks n (points, w)).2 := by
  rw [missingMarks_stop (t := (points, w)) stop]
  exact Steady.refl unarmed

theorem missingMarks_dropsLock {n : Nat} {w : State} {points : List (List CycUnit)} (unarmed : w.jobs.arm = none)
    (missing : w.markMissing = true) (mode : w.tracker.mode = .locking) :
    Steady (w.setTracker { w.tracker with mode := .unlocked, lock := 0 }) (missingMarks (n + 1) (points, w)).2 := by
  rw [missingMarks_locking (t := (points, w)) missing mode]
  exact Steady.refl unarmed

/-- Up to the next prediction one synthesis is enough: the test made again finds no mark missing, or the tracker in
UNLOCKED (R15 to R17). -/
theorem missingMarks_once {n : Nat} {w x : State} {points : List (List CycUnit)} (missing : w.markMissing = true)
    (mode : w.tracker.mode = .locked ∨ w.tracker.mode = .coasting) (synthesized : Steady x w.synthesize)
    (stop : x.tracker.mode = .unlocked ∨ x.markMissing = false) : Steady x (missingMarks (n + 1) (points, w)).2 := by
  have pointed : Steady x (atPoint (points, w.synthesize)).2 := (Steady.keptByUnits x).atPoint _ synthesized
  have same : (atPoint (points, w.synthesize)).2.markMissing = x.markMissing := by
    unfold State.markMissing State.predicted
    rw [pointed.tracker, pointed.job]
  rw [missingMarks_synthesize (t := (points, w)) missing mode, missingMarks_stop]
  · exact pointed
  · rw [same, pointed.tracker]
    exact stop.symm

/-- Settles O10: the cases of the test; what follows it leaves the tracker and its two events alone. -/
theorem missingMarkTest : Obligations.MissingMarkTest := by
  refine ⟨?frame, ?test⟩
  case' test =>
    intro n s mp missing c no synth
    refine ⟨fun stop => ?stop, fun isMissing mode => ?locking, fun isMissing mode =>
      ⟨fun coasts => ?coasts, fun loses => ?loses⟩⟩
  case stop =>
    refine missingMarks_stop (stop.imp_left fun not => ?_)
    rw [← Bool.not_eq_true, markMissing_iff]
    exact not
  case locking => exact missingMarks_locking ((markMissing_iff s).mpr isMissing) mode
  case coasts =>
    refine (missingMarks_synthesize (t := ([], s)) ((markMissing_iff s).mpr isMissing) mode).trans ?_
    exact congrArg (fun v => missingMarks n ([], v)) (synthesize_coasts coasts)
  case loses =>
    refine (missingMarks_synthesize (t := ([], s)) ((markMissing_iff s).mpr isMissing) mode).trans ?_
    exact congrArg (fun v => missingMarks n ([], v)) (synthesize_loses loses)
  case frame =>
    intro s h p o reads unarmed unstaged pos job mp took noJump
    let f := CycleFrame.ofPayload p
    let u := s.forward (Frame.bytes { kind := Frame.cyc, h, payload := p })
    have before : Steady s (u.beforeTracker o) := by
      have keeps := Steady.keptByUnits s
      have settled : Steady s u.settle := keeps.settle ((Steady.refl unarmed).elsewhere rfl rfl rfl)
      exact keeps.takeUnits _ (settled.elsewhere rfl rfl rfl)
    obtain ⟨-, vCfg⟩ := beforeTracker_frame u o
    generalize opened : u.beforeTracker o = v at before vCfg
    have undisturbed : v.disturbed f = false := by
      have jump : v.jobs.cfg.jump = s.jobs.cfg.jump := (congrArg StationCfg.jump vCfg).trans rfl
      rw [State.disturbed, before.tracker, jump, ← Bool.not_eq_true, Bool.and_eq_true, Bool.or_eq_true, decide_eq_true_iff,
        decide_eq_true_iff, Bool.not_eq_true']
      rintro ⟨notFirst, jumped⟩
      rcases noJump with first | ⟨ahead, near⟩
      · exact absurd (notFirst.symm.trans first) Bool.false_ne_true
      · exact jumped.elim (fun back => absurd ahead (not_le.mpr back)) fun far => absurd near (not_le.mpr far)
    let w := v.setTracker (v.tracker.take f)
    have wTracker : w.tracker = took := congrArg (Tracker.take · f) before.tracker
    have wJob : w.active.job = job := before.job
    have wUnarmed : w.jobs.arm = none := before.unarmed
    have missing_iff : w.markMissing = true ↔ 0 ≤ dist (mp + len job.w) pos := by
      rw [markMissing_iff, wTracker, wJob]
      exact Iff.rfl
    have rest {x : State} (tested : Steady x (missingMarks 255 (o.points.drop 1, w)).2) : Steady x (u.readCycle o f) :=
      readCycle_undisturbed (by rw [opened]) (by rw [opened]; exact undisturbed) tested
    refine ⟨_, exec_cycArrival reads o, fun stop => ?_, fun mode missing => ?_, fun missing once mode => ?_⟩
    · have stopped : w.markMissing = false ∨ w.tracker.mode = .unlocked := by
        refine stop.symm.imp (fun early => ?_) fun mode => by rw [wTracker]; exact mode
        rw [← Bool.not_eq_true, missing_iff]
        exact not_le.mpr early
      have tested := rest (missingMarks_none wUnarmed stopped)
      exact tested.tracker.trans wTracker
    · have locking : w.tracker.mode = .locking := by rw [wTracker]; exact mode
      have tested := rest (missingMarks_dropsLock wUnarmed (missing_iff.mpr missing) locking)
      refine tested.tracker.trans ?_
      rw [State.setTracker_tracker, wTracker]
    · have wMode : w.tracker.mode = .locked ∨ w.tracker.mode = .coasting := by rw [wTracker]; exact mode
      have wUnstaged : w.tracker.staged = none := by rw [wTracker]; exact unstaged
      have wPredicted : w.predicted = mp := by
        rw [State.predicted, wTracker, wJob]
        rfl
      have wCoast : w.tracker.coastNext = if s.tracker.mode = .locked then 1 else s.tracker.coast + 1 := by
        rw [wTracker]
        rfl
      intro c
      by_cases coasts : c < job.ncoast
      · have wCoasts : w.tracker.coastNext < w.active.job.ncoast := by rw [wCoast, wJob]; exact coasts
        let x := (w.raise 9 (BitVec.ofNat 32 c)).setTracker (w.synthTracker .coasting c)
        have synthesized : Steady x w.synthesize := by
          rw [synthesize_coasts wCoasts, wCoast]
          exact (Steady.refl (s := x) wUnarmed).handOver wUnstaged _
        have notMissing : x.markMissing = false := by
          rw [← Bool.not_eq_true, markMissing_iff]
          have place : x.tracker.mtPrev = mp := wPredicted
          have web : x.tracker.pos = pos := congrArg Tracker.pos wTracker
          have same : x.active.job = job := wJob
          rw [place, web, same]
          exact not_le.mpr once
        have tested := rest (missingMarks_once (missing_iff.mpr missing) wMode synthesized (.inr notMissing))
        refine ⟨?_, fun _ => ?_, fun lost => absurd coasts (not_lt.mpr lost)⟩
        · rw [tested.tracker, if_pos coasts, if_pos coasts]
          show w.synthTracker .coasting c = _
          rw [State.synthTracker, wPredicted, wTracker]
          rfl
        · have shows : (x.cell 9).Shows (BitVec.ofNat 32 c) := raise_cell_self ..
          rw [← tested.events 9 (.inr rfl)] at shows
          exact shows
      · have loses : job.ncoast ≤ c := not_lt.mp coasts
        have wLoses : w.active.job.ncoast ≤ w.tracker.coastNext := by rw [wCoast, wJob]; exact loses
        have wNo : w.tracker.repeatNo = s.tracker.repeatNo := (congrArg Tracker.repeatNo wTracker).trans rfl
        let x := (w.raise 5 (w.tracker.repeatNo + 1)).setTracker (w.synthTracker .unlocked 0)
        have synthesized : Steady x w.synthesize := by
          rw [synthesize_loses wLoses]
          exact (Steady.refl (s := x) wUnarmed).handOver wUnstaged _
        have tested := rest (missingMarks_once (missing_iff.mpr missing) wMode synthesized (.inl rfl))
        refine ⟨?_, fun keeps => absurd keeps coasts, fun _ => ?_⟩
        · rw [tested.tracker, if_neg coasts, if_neg coasts]
          show w.synthTracker .unlocked 0 = _
          rw [State.synthTracker, wPredicted, wTracker]
          rfl
        · have shows : (x.cell 5).Shows (s.tracker.repeatNo + 1) := wNo ▸ raise_cell_self ..
          rw [← tested.events 5 (.inl rfl)] at shows
          exact shows

end Sys2Proof.Machine

/-! ## What goes on along a cycle frame

What the acts of a cycle frame other than the parts of the cassettes and the drives keep. -/

namespace Sys2Proof.Machine

/-! ### Events and the ring-silent flag -/

/-- What was pending is pending still. -/
def PendingKept (s t : State) : Prop := ∀ k : Fin 18, (s.cell k).pending = true → (t.cell k).pending = true

theorem PendingKept.raise {s t : State} (h : PendingKept s t) (j : Fin 18) (v : BitVec 32) :
    PendingKept s (t.raise j v) := by
  intro k pending
  by_cases own : k = j
  · subst own
    exact (raise_cell_self t k v).1
  · rw [raise_cell_ne _ _ own]
    exact h k pending

theorem markParts_pendingKept (s : State) : MarkParts (PendingKept s) where
  event _ k v _ h := h.raise k v
  draftEvent _ k v _ h := h.raise k v

theorem markParts_silentKept (s : State) : MarkParts (SilentKept s) where
  hand _ _ h := (Report.handReport_ringSilent ..).trans h

/-! ### The station configuration, the dwells and an unarmed pointer -/

/-- The station configuration and the dwells of the lanes stand; the bank pointer stands while no changeover is armed
(R24, R42). -/
structure DwellsKept (s t : State) : Prop where
  cfg : t.jobs.cfg = s.jobs.cfg
  dwells : ∀ (b : Fin 2) (c : Fin 8), t.jobs.banks[b].lanes[c].nsoak = s.jobs.banks[b].lanes[c].nsoak
    ∧ t.jobs.banks[b].lanes[c].ndrift = s.jobs.banks[b].lanes[c].ndrift
  unarmed : s.jobs.arm = none → t.jobs.arm = none ∧ t.jobs.active = s.jobs.active

namespace DwellsKept
variable {s t u : State}

theorem of_jobs (jobs : t.jobs = s.jobs) : DwellsKept s t := by
  refine ⟨by rw [jobs], fun b c => by rw [jobs]; exact ⟨rfl, rfl⟩, fun none => by rw [jobs]; exact ⟨none, rfl⟩⟩

theorem refl (s : State) : DwellsKept s s := of_jobs rfl

theorem trans (a : DwellsKept s t) (b : DwellsKept t u) : DwellsKept s u := by
  refine ⟨b.cfg.trans a.cfg, fun k c => ?_, fun none => ?_⟩
  · obtain ⟨nsoak, ndrift⟩ := a.dwells k c
    obtain ⟨nsoak', ndrift'⟩ := b.dwells k c
    exact ⟨nsoak'.trans nsoak, ndrift'.trans ndrift⟩
  · obtain ⟨still, active⟩ := a.unarmed none
    obtain ⟨still', active'⟩ := b.unarmed still
    exact ⟨still', active'.trans active⟩

theorem elsewhere (h : DwellsKept s t) (jobs : u.jobs = t.jobs) : DwellsKept s u := h.trans (of_jobs jobs)

/-- A pointer moved by an armed changeover (R42). -/
theorem of_pointer (armed : s.jobs.arm.isSome = true) {b : Fin 2}
    (jobs : t.jobs = { s.jobs with active := b, arm := none }) :
    DwellsKept s t := by
  refine ⟨by rw [jobs], fun b c => by rw [jobs]; exact ⟨rfl, rfl⟩, fun none => ?_⟩
  rw [none] at armed
  cases armed

theorem closePlan (s : State) (p : Plan) (reports : Bool) : DwellsKept s (s.closePlan p reports) := by
  obtain ⟨taken, kept⟩ := closePlan_changeover s p reports
  by_cases takes : (s.planner.st = .draining ∧ (s.closePlan p reports).planner.queue = []) ∧ s.jobs.arm.isSome = true
  · exact of_pointer takes.2 (taken takes).1
  · exact of_jobs (kept takes).1

theorem decideEntry (s : State) (n : Rep) (l : Fin 8) (d : Decision) (reports : Bool) :
    DwellsKept s (s.decideEntry n l d reports) := by
  have told (p : Plan) (e : Entry) : DwellsKept s (s.recorded p l e d) := of_jobs (recorded_frame s p l e d).1
  rcases decideEntry_cases s n l d reports with same | ⟨p, e, recorded | ⟨q, closed⟩⟩
  · rw [same]
    exact refl s
  · rw [recorded]
    exact told p e
  · rw [closed]
    exact (told p e).trans (closePlan ..)

theorem keptByUnits (s : State) : KeptByUnits (DwellsKept s) where
  decide _ n l d reports h := h.trans (decideEntry _ n l d reports)
  closeDone _ p _ reports _ _ h := h.trans (closePlan _ p reports)
  withdraw _ _ _ _ _ _ _ _ _ h := h.elsewhere rfl
  moveDue _ _ _ h := h.elsewhere rfl
  entryDue _ _ _ h := h.elsewhere rfl
  cycDue _ _ h := h.elsewhere rfl
  cassette _ _ h := cassetteCycle_keeps (h.elsewhere rfl) fun _ _ h => h.elsewhere rfl
  counted _ _ h := h.elsewhere rfl
  driveSilent _ _ h := h.elsewhere rfl
  silenced _ _ h := h.elsewhere rfl

theorem setActive {b : Bank} (same : ∀ c : Fin 8, b.lanes[c].nsoak = s.active.lanes[c].nsoak
    ∧ b.lanes[c].ndrift = s.active.lanes[c].ndrift) : DwellsKept s (s.setActive b) := by
  refine ⟨rfl, fun k c => ?_, fun none => ⟨none, rfl⟩⟩
  by_cases own : s.jobs.active = k
  · subst own
    have bank : (s.setActive b).jobs.banks[s.jobs.active] = b := Vector.getElem_set_self _
    rw [bank]
    exact same c
  · have bank : (s.setActive b).jobs.banks[k] = s.jobs.banks[k] :=
      Vector.getElem_set_ne s.jobs.active.isLt k.isLt (by simpa [Fin.ext_iff] using own)
    rw [bank]
    exact ⟨rfl, rfl⟩

theorem advance (s : State) (l : Fin 8) : DwellsKept s (s.setActive (s.active.modLane l Lane.advance)) := by
  have kept (x : Lane) : x.advance.nsoak = x.nsoak ∧ x.advance.ndrift = x.ndrift := by
    unfold Lane.advance
    cases x.mode <;> exact ⟨rfl, rfl⟩
  refine setActive fun c => ?_
  by_cases own : l = c
  · subst own
    have lane : (s.active.modLane l Lane.advance).lanes[l] = s.active.lanes[l].advance := Vector.getElem_set_self _
    rw [lane]
    exact kept _
  · have lane : (s.active.modLane l Lane.advance).lanes[c] = s.active.lanes[c] :=
      Vector.getElem_set_ne l.isLt c.isLt (by simpa [Fin.ext_iff] using own)
    rw [lane]
    exact ⟨rfl, rfl⟩

theorem draftParts (s : State) : DraftParts (DwellsKept s) where
  event _ _ _ _ h := h.elsewhere rfl
  draftEvent _ _ _ _ h := h.elsewhere rfl
  write _ _ h := h.elsewhere rfl
  hand _ _ h := h.elsewhere rfl
  count _ _ _ h := h.elsewhere rfl
  advance t l h := h.trans (advance t l)
  join _ _ _ h := h.elsewhere rfl
  reserve _ _ _ h := h.elsewhere rfl
  low _ _ h := h.elsewhere rfl
  save _ _ _ _ h := h.elsewhere rfl

theorem changeoverCheck (s : State) (n : Rep) : DwellsKept s (s.changeoverCheck n) := by
  unfold State.changeoverCheck
  split
  next due =>
    refine of_pointer (b := s.jobs.standbyNo) ?_ rfl
    rw [Option.isSome_iff_ne_none]
    exact fun none => absurd ((isDue_none n none).symm.trans due) Bool.false_ne_true
  · exact refl s

theorem plannerTakes (s : State) (m : HandOver) : DwellsKept s (s.plannerTakes m) := by
  cases st : s.planner.st with
  | idle =>
    rw [plannerTakes_unplanned m (.inl st)]
    exact refl s
  | ready =>
    rw [plannerTakes_unplanned m (.inr st)]
    exact refl s
  | draining =>
    rw [plannerTakes_draining m st]
    exact changeoverCheck s _
  | stamping =>
    rw [plannerTakes_stamping m st]
    by_cases full : 32 ≤ s.planner.queue.length
    · rw [planRepeat_full m full]
      exact (draftParts s).overflow m (refl s)
    · have room : s.planner.queue.length < 32 := by omega
      rw [planRepeat_room m room]
      exact (draftParts s).planEntries m _ (by rwa [changeoverCheck_st]) (changeoverCheck s _)

theorem takePitch (s : State) : DwellsKept s s.takePitch := by
  unfold State.takePitch
  split
  · exact refl s
  next l _ =>
    exact (setActive (b := { s.active with job := { s.active.job with lr := l } }) fun _ => ⟨rfl, rfl⟩).elsewhere rfl

theorem handOver (s : State) (m : HandOver) : DwellsKept s (s.handOver m) := (plannerTakes s m).trans (takePitch _)

end DwellsKept

/-! ### Between the parts of the cassettes and the drives -/

/-- What the tracker's and the planner's acts keep for the cassettes and the drives. -/
structure Between (s t : State) : Prop where
  cassettes : t.cassettes = s.cassettes
  drives : t.drives = s.drives
  cycDue : t.cycDue = s.cycDue
  dwells : DwellsKept s t
  pending : PendingKept s t
  silent : SilentKept s t

namespace Between
variable {s t u : State}

theorem refl (s : State) : Between s s := ⟨rfl, rfl, rfl, .refl s, fun _ h => h, rfl⟩

theorem trans (a : Between s t) (b : Between t u) : Between s u :=
  ⟨b.cassettes.trans a.cassettes, b.drives.trans a.drives, b.cycDue.trans a.cycDue, a.dwells.trans b.dwells,
    fun k h => b.pending k (a.pending k h), b.silent.trans a.silent⟩

/-- An act of the planner that a frame of its own speaks of. -/
theorem of_frame (frame : MarkFrame s t) (dwells : DwellsKept s t) (pending : PendingKept s t)
    (silent : SilentKept s t) :
    Between s t := ⟨frame.cassettes, frame.drives, frame.cycDue, dwells, pending, silent⟩

theorem planTest (s : State) (x : PlanTest) : Between s (s.planTest x) :=
  of_frame (planTest_frame s x).mark ((DwellsKept.keptByUnits s).planTest x (.refl s))
    ((markParts_pendingKept s).tests.planTest x fun _ h => h) ((markParts_silentKept s).tests.planTest x rfl)

theorem planTests : ∀ (xs : List PlanTest) (s : State), Between s (xs.foldl State.planTest s)
  | [], s => refl s
  | x :: xs, s => (planTest s x).trans (planTests xs _)

theorem notice (s : State) (d : Fin 12) (r : Reason) : Between s (s.notice d r) :=
  of_frame (notice_frame s d r).mark ((DwellsKept.keptByUnits s).notice d r (.refl s))
    ((markParts_pendingKept s).tests.notice d r fun _ h => h) ((markParts_silentKept s).tests.notice d r rfl)

theorem flush (s : State) (cause : FlushCause) (reports : Bool) : Between s (s.flush cause reports) :=
  of_frame (flush_frame s cause reports).mark
    ((DwellsKept.keptByUnits s).flush cause reports (fun _ _ h => h.elsewhere rfl) (.refl s))
    ((markParts_pendingKept s).tests.flush cause reports (fun _ v h => h.raise _ v) fun _ h => h)
    ((markParts_silentKept s).tests.flush cause reports (fun _ _ h => h) rfl)

theorem setTracker (s : State) (v : Tracker) : Between s (s.setTracker v) :=
  ⟨rfl, rfl, rfl, .of_jobs rfl, fun _ h => h, rfl⟩

theorem raise (s : State) (k : Fin 18) (v : BitVec 32) : Between s (s.raise k v) :=
  ⟨rfl, rfl, rfl, .of_jobs rfl, PendingKept.raise (fun _ h => h) k v, rfl⟩

theorem handOver (s : State) (m : HandOver) : Between s (s.handOver m) :=
  of_frame (handOver_frame s m).toMarkFrame (.handOver s m)
    ((markParts_pendingKept s).takePitch ((markParts_pendingKept s).plannerTakes m fun _ h => h))
    ((markParts_silentKept s).takePitch ((markParts_silentKept s).plannerTakes m rfl))

theorem synthesize (s : State) : Between s s.synthesize := by
  by_cases coasts : s.tracker.coastNext < s.active.job.ncoast
  · rw [synthesize_coasts coasts]
    exact ((raise ..).trans (setTracker ..)).trans (handOver ..)
  · rw [synthesize_loses (not_lt.mp coasts)]
    exact ((raise ..).trans (setTracker ..)).trans (handOver ..)

theorem disturbance (s : State) : Between s s.disturbance := (setTracker s _).trans (flush ..)

end Between

end Sys2Proof.Machine

/-! ## Each cassette and each drive takes its part of a cycle frame once (R115 to R117, R133, R134, log 2) -/

namespace Sys2Proof.Machine

theorem mem_filter_bne {α : Type} [DecidableEq α] {x y : α} {l : List α} : x ∈ l.filter (· != y) ↔ x ∈ l ∧ x ≠ y := by
  simp

/-- A cassette that leaves READY or DRIFT for LOST or COLD raises CASSETTE_COLD (R115, R117). -/
theorem Cassette.goesCold_of_afterCycle {x : Cassette} {ntmp nsoak ndrift : Nat}
    (warm : x.heat = .ready ∨ x.heat = .drift)
    (cold : (x.afterCycle ntmp nsoak ndrift).heat = .lost ∨ (x.afterCycle ntmp nsoak ndrift).heat = .cold) :
    x.goesCold ntmp ndrift = true := by
  rw [← Cassette.cycled_eq_afterCycle] at cold
  unfold Cassette.goesCold
  unfold Cassette.cycled at cold
  by_cases out : x.tmpOut ntmp = true
  · rcases warm with warm | warm <;> simp [out, warm]
  · rw [if_neg out] at cold ⊢
    unfold Cassette.dwelt Cassette.driftOut at *
    rcases warm with warm | warm
    · simp [warm] at cold
    · by_cases long : ndrift ≤ x.drift + 1
      · simp [warm, long]
      · simp [warm, long] at cold

/-! ### A cassette -/

/-- A cassette at some moment of a cycle frame: its part is still to take and it stands as it stood, or its part is taken,
by the dwells of one bank; CASSETTE_COLD is pending when it has gone cold. -/
structure CassetteProgress (s v t : State) (c : Fin 8) : Prop where
  part : (CycUnit.cassette c ∈ t.cycDue ∧ t.cassettes[c] = v.cassettes[c])
    ∨ (CycUnit.cassette c ∉ t.cycDue ∧ ∃ b : Fin 2, (s.jobs.arm = none → b = s.jobs.active) ∧ t.cassettes[c] =
        v.cassettes[c].afterCycle s.jobs.cfg.ntmp s.jobs.banks[b].lanes[c].nsoak s.jobs.banks[b].lanes[c].ndrift)
  cold : v.cassettes[c].heat = .ready ∨ v.cassettes[c].heat = .drift →
    t.cassettes[c].heat = .lost ∨ t.cassettes[c].heat = .cold → (t.cell 6).pending = true

/-- A change elsewhere. -/
theorem CassetteProgress.elsewhere {s v t u : State} {c : Fin 8} (h : CassetteProgress s v t c)
    (same : u.cassettes[c] = t.cassettes[c]) (due : CycUnit.cassette c ∈ u.cycDue ↔ CycUnit.cassette c ∈ t.cycDue)
    (pending : PendingKept t u) : CassetteProgress s v u c := by
  refine ⟨?_, fun warm cold => pending 6 (h.cold warm ?_)⟩
  · rw [same, due]
    exact h.part
  · rwa [same] at cold

theorem takeCassette_same {t : State} {c : Fin 8} (due : CycUnit.cassette c ∈ t.cycDue) :
    (t.takeUnit (.cassette c)).cassettes[c] = t.cassettes[c].afterCycle t.jobs.cfg.ntmp t.active.lanes[c].nsoak
        t.active.lanes[c].ndrift
      ∧ (t.cassettes[c].goesCold t.jobs.cfg.ntmp t.active.lanes[c].ndrift = true →
          ((t.takeUnit (.cassette c)).cell 6).pending = true) := by
  rw [takeCassette due]
  split
  next goesCold => exact ⟨Vector.getElem_set_self _, fun _ => (raise_cell_self _ 6 _).1⟩
  next stays => exact ⟨Vector.getElem_set_self _, fun goesCold => absurd goesCold stays⟩

theorem takeCassette_rest (t : State) (c : Fin 8) :
    (∀ k : Fin 8, k ≠ c → (t.takeUnit (.cassette c)).cassettes[k] = t.cassettes[k])
      ∧ (t.takeUnit (.cassette c)).drives = t.drives ∧ PendingKept t (t.takeUnit (.cassette c))
      ∧ SilentKept t (t.takeUnit (.cassette c)) := by
  by_cases due : CycUnit.cassette c ∈ t.cycDue
  · rw [takeCassette due]
    have other (k : Fin 8) (y : Cassette) (ne : k ≠ c) : (t.cassetteTaken c y).cassettes[k] = t.cassettes[k] :=
      Vector.getElem_set_ne c.isLt k.isLt (by simpa [Fin.ext_iff] using ne.symm)
    split
    · exact ⟨fun k ne => other k _ ne, rfl, PendingKept.raise (s := t) (fun _ h => h) 6 _, rfl⟩
    · exact ⟨fun k ne => other k _ ne, rfl, fun _ h => h, rfl⟩
  · rw [State.takeUnit, if_neg due]
    exact ⟨fun _ _ => rfl, rfl, fun _ h => h, rfl⟩

theorem CassetteProgress.taken {s v t : State} {c : Fin 8} (h : CassetteProgress s v t c) (dwells : DwellsKept s t)
    (due : CycUnit.cassette c ∈ t.cycDue) : CassetteProgress s v (t.takeUnit (.cassette c)) c := by
  have before : t.cassettes[c] = v.cassettes[c] := h.part.elim (·.2) fun done => absurd due done.1
  obtain ⟨nsoak, ndrift⟩ := dwells.dwells t.jobs.active c
  obtain ⟨value, raises⟩ := takeCassette_same due
  have activeLane : t.active.lanes[c] = t.jobs.banks[t.jobs.active].lanes[c] := rfl
  rw [dwells.cfg, before, activeLane, ndrift] at raises
  rw [dwells.cfg, before, activeLane, nsoak, ndrift] at value
  refine ⟨.inr ⟨?_, t.jobs.active, fun unarmed => (dwells.unarmed unarmed).2, value⟩, fun warm cold => raises ?_⟩
  · rw [takeUnit_cycDue, mem_filter_bne]
    exact fun still => still.2 rfl
  · rw [value] at cold
    exact Cassette.goesCold_of_afterCycle warm cold

/-! ### A drive -/

/-- A drive at some moment of a cycle frame: its part is still to take and it stands as it stood, or its part is taken;
DRIVE_SILENT is pending when it has gone SILENT. -/
structure DriveProgress (s v t : State) (d : Fin 12) : Prop where
  part : (CycUnit.drive d ∈ t.cycDue ∧ t.drives[d] = v.drives[d])
    ∨ (CycUnit.drive d ∉ t.cycDue ∧ t.drives[d] = v.drives[d].afterCycle s.jobs.cfg.nack)
  silent : v.drives[d].link ≠ .silent → t.drives[d].link = .silent → (t.cell 2).pending = true

theorem DriveProgress.elsewhere {s v t u : State} {d : Fin 12} (h : DriveProgress s v t d)
    (same : u.drives[d] = t.drives[d]) (due : CycUnit.drive d ∈ u.cycDue ↔ CycUnit.drive d ∈ t.cycDue)
    (pending : PendingKept t u) : DriveProgress s v u d := by
  refine ⟨?_, fun heard silent => pending 2 (h.silent heard ?_)⟩
  · rw [same, due]
    exact h.part
  · rwa [same] at silent

theorem takeDrive_same {t : State} {d : Fin 12} (due : CycUnit.drive d ∈ t.cycDue) :
    (t.takeUnit (.drive d)).drives[d] = t.drives[d].afterCycle t.jobs.cfg.nack
      ∧ (t.drives[d].counted.timedOut t.jobs.cfg.nack = true → ((t.takeUnit (.drive d)).cell 2).pending = true) := by
  rw [Drive.afterCycle_eq]
  by_cases out : t.drives[d].counted.timedOut t.jobs.cfg.nack = true
  · rw [takeDrive_silent due out, if_pos out]
    have noticed := Between.notice ((t.driveTaken d t.drives[d].silenced).raise 2 (BitVec.ofNat 32 d.val)) d
      (if d.val < 8 then .noAck else .foilNoAck)
    refine ⟨?_, fun _ => noticed.pending 2 (raise_cell_self _ 2 _).1⟩
    rw [noticed.drives]
    exact Vector.getElem_set_self _
  · rw [takeDrive_counted due (by simpa using out), if_neg out]
    exact ⟨Vector.getElem_set_self _, fun is => absurd is out⟩

theorem takeDrive_rest (t : State) (d : Fin 12) :
    (∀ k : Fin 12, k ≠ d → (t.takeUnit (.drive d)).drives[k] = t.drives[k])
      ∧ (t.takeUnit (.drive d)).cassettes = t.cassettes ∧ PendingKept t (t.takeUnit (.drive d))
      ∧ SilentKept t (t.takeUnit (.drive d)) := by
  by_cases due : CycUnit.drive d ∈ t.cycDue
  · have other (k : Fin 12) (y : Drive) (ne : k ≠ d) : (t.driveTaken d y).drives[k] = t.drives[k] :=
      Vector.getElem_set_ne d.isLt k.isLt (by simpa [Fin.ext_iff] using ne.symm)
    by_cases out : t.drives[d].counted.timedOut t.jobs.cfg.nack = true
    · rw [takeDrive_silent due out]
      have raised := PendingKept.raise (s := t) (t := t.driveTaken d t.drives[d].silenced) (fun _ h => h) 2 (BitVec.ofNat 32 d.val)
      have noticed := Between.notice ((t.driveTaken d t.drives[d].silenced).raise 2 (BitVec.ofNat 32 d.val)) d
        (if d.val < 8 then .noAck else .foilNoAck)
      refine ⟨fun k ne => ?_, noticed.cassettes, fun k h => noticed.pending k (raised k h), noticed.silent⟩
      rw [noticed.drives]
      exact other k _ ne
    · rw [takeDrive_counted due (by simpa using out)]
      exact ⟨fun k ne => other k _ ne, rfl, fun _ h => h, rfl⟩
  · rw [State.takeUnit, if_neg due]
    exact ⟨fun _ _ => rfl, rfl, fun _ h => h, rfl⟩

theorem DriveProgress.taken {s v t : State} {d : Fin 12} (h : DriveProgress s v t d) (dwells : DwellsKept s t)
    (due : CycUnit.drive d ∈ t.cycDue) : DriveProgress s v (t.takeUnit (.drive d)) d := by
  have before : t.drives[d] = v.drives[d] := h.part.elim (·.2) fun done => absurd due done.1
  obtain ⟨value, raises⟩ := takeDrive_same due
  rw [dwells.cfg, before] at value raises
  refine ⟨.inr ⟨?_, value⟩, fun heard silent => raises ?_⟩
  · rw [takeUnit_cycDue, mem_filter_bne]
    exact fun still => still.2 rfl
  · rw [value, Drive.afterCycle_eq] at silent
    by_contra quiet
    rw [if_neg quiet] at silent
    exact heard silent

/-! ### All of them -/

/-- Some moment of a cycle frame. -/
structure Progress (s v t : State) : Prop where
  dwells : DwellsKept s t
  cassette : ∀ c : Fin 8, CassetteProgress s v t c
  drive : ∀ d : Fin 12, DriveProgress s v t d
  silent : t.report.ringSilent = false

namespace Progress
variable {s v t u : State}

/-- When the window opens every part is still to take. -/
theorem opened (dwells : DwellsKept s v) : Progress s v v.openCycle := by
  have cassette : ∀ c : Fin 8, CycUnit.cassette c ∈ countingUnits := by decide
  have drive : ∀ d : Fin 12, CycUnit.drive d ∈ countingUnits := by decide
  refine ⟨dwells.elsewhere rfl, fun c => ⟨.inl ⟨cassette c, rfl⟩, fun warm cold => ?_⟩,
    fun d => ⟨.inl ⟨drive d, rfl⟩, fun heard silent => absurd silent heard⟩, rfl⟩
  have same : v.openCycle.cassettes[c] = v.cassettes[c] := rfl
  rw [same] at cold
  rcases warm with warm | warm <;> rw [warm] at cold <;> rcases cold with cold | cold <;> cases cold

theorem between (h : Progress s v t) (acts : Between t u) : Progress s v u := by
  have due (x : CycUnit) : x ∈ u.cycDue ↔ x ∈ t.cycDue := by rw [acts.cycDue]
  exact ⟨h.dwells.trans acts.dwells, fun c => (h.cassette c).elsewhere (by rw [acts.cassettes]) (due _) acts.pending,
    fun d => (h.drive d).elsewhere (by rw [acts.drives]) (due _) acts.pending, acts.silent.trans h.silent⟩

/-- The planner's part is its own. -/
theorem plannerPart (h : Progress s v t) {us : List CycUnit} (same : ∀ x ≠ CycUnit.planner, x ∈ us ↔ x ∈ t.cycDue) :
    Progress s v (t.setCycDue us) :=
  ⟨h.dwells.elsewhere rfl, fun c => (h.cassette c).elsewhere rfl (same _ (fun h => by cases h)) fun _ h => h,
    fun d => (h.drive d).elsewhere rfl (same _ (fun h => by cases h)) fun _ h => h, h.silent⟩

theorem takeUnit (h : Progress s v t) (u : CycUnit) : Progress s v (t.takeUnit u) := by
  have dwells : DwellsKept s (t.takeUnit u) := (DwellsKept.keptByUnits s).takeUnit u h.dwells
  have left (x : CycUnit) (other : x ≠ u) : x ∈ (t.takeUnit u).cycDue ↔ x ∈ t.cycDue := by
    rw [takeUnit_cycDue, mem_filter_bne]
    exact and_iff_left other
  by_cases due : u ∈ t.cycDue
  · cases u with
    | planner =>
      rw [takeUnit_due due]
      exact (h.plannerPart fun x other => mem_filter_bne.trans (and_iff_left other)).between (Between.planTests _ _)
    | cassette c =>
      obtain ⟨others, drives, pending, silent⟩ := takeCassette_rest t c
      refine ⟨dwells, fun k => ?_, fun d => ?_, silent.trans h.silent⟩
      · by_cases own : k = c
        · subst own
          exact (h.cassette k).taken h.dwells due
        · exact (h.cassette k).elsewhere (others k own) (left _ fun same => own (CycUnit.cassette.inj same)) pending
      · exact (h.drive d).elsewhere (by rw [drives]) (left _ fun same => by cases same) pending
    | drive d =>
      obtain ⟨others, cassettes, pending, silent⟩ := takeDrive_rest t d
      refine ⟨dwells, fun c => ?_, fun k => ?_, silent.trans h.silent⟩
      · exact (h.cassette c).elsewhere (by rw [cassettes]) (left _ fun same => by cases same) pending
      · by_cases own : k = d
        · subst own
          exact (h.drive k).taken h.dwells due
        · exact (h.drive k).elsewhere (others k own) (left _ fun same => own (CycUnit.drive.inj same)) pending
  · rwa [State.takeUnit, if_neg due]

theorem takeUnits (h : Progress s v t) (us : List CycUnit) : Progress s v (t.takeUnits us) :=
  foldl_keeps (fun _ u h => h.takeUnit u) us t h

theorem missingMarks : ∀ (n : Nat) (t : Thread), Progress s v t.2 → Progress s v (missingMarks n t).2
  | 0, _, h => h
  | n + 1, t, h => by
    have again : Progress s v (Machine.missingMarks n (atPoint (t.1, t.2.synthesize))).2 :=
      missingMarks n _ ((h.between (Between.synthesize _)).takeUnits _)
    unfold Machine.missingMarks
    split
    · exact h
    · split
      · exact h
      · exact h.between (Between.setTracker ..)
      · exact again
      · exact again

theorem trackerTakes (f : CycleFrame) (t : Thread) (h : Progress s v t.2) : Progress s v (trackerTakes f t).2 := by
  have taken : Progress s v (t.2.setTracker (t.2.tracker.take f)) := h.between (Between.setTracker ..)
  unfold Machine.trackerTakes
  simp only
  split
  · exact taken.between (Between.disturbance _)
  · exact missingMarks _ (t.1, _) taken

theorem testsAtPoints : ∀ (xs : List PlanTest) (t : Thread), Progress s v t.2 → Progress s v (testsAtPoints xs t).2
  | [], _, h => h
  | x :: xs, t, h => testsAtPoints xs (_, (atPoint t).2.planTest x) ((h.takeUnits _).between (Between.planTest _ x))

theorem plannerAtPoints (own : List CycUnit) (t : Thread) (h : Progress s v t.2) :
    Progress s v (plannerAtPoints own t).2 := by
  unfold Machine.plannerAtPoints
  split
  · exact testsAtPoints _ (t.1, _) (h.plannerPart fun x other => mem_filter_bne.trans (and_iff_left other))
  · exact h

theorem plannerDue {t : Thread} (h : Progress s v t.2) : Progress s v (plannerDue t).2 :=
  h.plannerPart fun x other => by simp [other]

theorem readCycle {o : TakeOrder} {f : CycleFrame} (dwells : DwellsKept s t.settle) :
    Progress s t.settle (t.readCycle o f) := by
  unfold State.readCycle
  simp only
  exact (plannerAtPoints _ _ ((trackerTakes f _ ((opened dwells).takeUnits _)).plannerDue.takeUnits _)).takeUnits _

end Progress

end Sys2Proof.Machine

/-! ## A cycle frame (R4 to R6, R15, R66, R67, R71 to R74, R115 to R117, R133, R134) -/

namespace Sys2Proof.Machine

/-! ### What is left to a step of its own (log 2) -/

/-- Acts of a cycle frame between two points: no point is added, and a unit that is left to a step of its own and stands
at no point has its part still to take. -/
structure Passes (own : List CycUnit) (t t' : Thread) : Prop where
  points : t'.1 ⊆ t.1
  due : ∀ u ∈ own, u ∉ t.1.flatten → u ∈ t.2.cycDue → u ∈ t'.2.cycDue

namespace Passes
variable {own : List CycUnit} {t t' t'' : Thread}

theorem refl (t : Thread) : Passes own t t := ⟨fun _ h => h, fun _ _ _ h => h⟩

theorem apart (h : Passes own t t') {u : CycUnit} (away : u ∉ t.1.flatten) : u ∉ t'.1.flatten := by
  simp only [List.mem_flatten, not_exists, not_and] at away ⊢
  exact fun us member => away us (h.points member)

theorem trans (a : Passes own t t') (b : Passes own t' t'') : Passes own t t'' :=
  ⟨fun _ h => a.points (b.points h), fun u left away due => b.due u left (a.apart away) (a.due u left away due)⟩

/-- Acts that take no unit's part. -/
theorem of_same (points : t'.1 = t.1) (due : t'.2.cycDue = t.2.cycDue) : Passes own t t' :=
  ⟨by rw [points]; exact fun _ h => h, fun _ _ _ h => by rwa [due]⟩

theorem atPoint (t : Thread) : Passes own t (atPoint t) := by
  refine ⟨fun us member => List.mem_of_mem_drop member, fun u left away due => ?_⟩
  have absent : u ∉ t.1.headD [] := by
    cases points : t.1 with
    | nil => exact List.not_mem_nil
    | cons us rest =>
      rw [points, List.flatten_cons, List.mem_append, not_or] at away
      exact away.1
  show u ∈ (t.2.takeUnits (t.1.headD [])).cycDue
  rw [takeUnits_cycDue]
  exact List.mem_filter.mpr ⟨due, by simpa using absent⟩

theorem missingMarks : ∀ (n : Nat) (t : Thread), Passes own t (missingMarks n t)
  | 0, t => refl t
  | n + 1, t => by
    have synthesized : Passes own t (t.1, t.2.synthesize) := of_same rfl (Between.synthesize t.2).cycDue
    have again : Passes own t (Machine.missingMarks n (Machine.atPoint (t.1, t.2.synthesize))) :=
      (synthesized.trans (atPoint _)).trans (missingMarks n _)
    unfold Machine.missingMarks
    split
    · exact refl t
    · split
      · exact refl t
      · exact of_same rfl rfl
      · exact again
      · exact again

theorem trackerTakes (f : CycleFrame) (t : Thread) : Passes own t (trackerTakes f t) := by
  have taken : Passes own t (t.1, t.2.setTracker (t.2.tracker.take f)) := of_same rfl rfl
  unfold Machine.trackerTakes
  simp only
  split
  · exact taken.trans (of_same rfl (Between.disturbance _).cycDue)
  · exact taken.trans (missingMarks _ _)

theorem plannerDue (t : Thread) : Passes own t (plannerDue t) :=
  ⟨fun _ h => h, fun _ _ _ due => List.mem_append_left _ due⟩

theorem testsAtPoints : ∀ (xs : List PlanTest) (t : Thread), Passes own t (testsAtPoints xs t)
  | [], t => refl t
  | x :: xs, t => by
    have tested : Passes own (Machine.atPoint t) ((Machine.atPoint t).1, (Machine.atPoint t).2.planTest x) :=
      of_same rfl (Between.planTest _ x).cycDue
    exact ((atPoint t).trans tested).trans (testsAtPoints xs _)

theorem plannerAtPoints (t : Thread) : Passes own t (plannerAtPoints own t) := by
  unfold Machine.plannerAtPoints
  split
  next within =>
    have marked : Passes own t (t.1, t.2.setCycDue (t.2.cycDue.filter (· != .planner))) :=
      ⟨fun _ h => h, fun u left _ due =>
        mem_filter_bne.mpr ⟨due, fun same => within.2 (same ▸ left)⟩⟩
    exact marked.trans (testsAtPoints _ _)
  · exact refl t

end Passes

/-- The thread of a cycle frame before the rest is taken. -/
def State.beforeRest (s : State) (o : TakeOrder) (f : CycleFrame) : Thread :=
  plannerAtPoints o.own (atPoint (plannerDue (trackerTakes f (atPoint (o.points, s.settle.openCycle)))))

theorem readCycle_eq (s : State) (o : TakeOrder) (f : CycleFrame) :
    s.readCycle o f = (s.beforeRest o f).2.takeRest o.own := rfl

/-- What is left at the end is what was left to a step of its own. -/
theorem readCycle_left (s : State) (o : TakeOrder) (f : CycleFrame) : ∀ u ∈ (s.readCycle o f).cycDue, u ∈ o.own := by
  intro u left
  rw [readCycle_eq, State.takeRest, takeUnits_cycDue, List.mem_filter] at left
  obtain ⟨due, notTaken⟩ := left
  have rest : u ∉ (s.beforeRest o f).2.cycDue ∨ u ∈ o.own := by simpa using notTaken
  exact rest.resolve_left (not_not.mpr due)

theorem readCycle_own (s : State) (o : TakeOrder) (f : CycleFrame) {u : CycUnit} (own : u ∈ o.own)
    (away : u ∉ o.points.flatten) : u ∈ (s.readCycle o f).cycDue := by
  have first : Passes o.own (o.points, s.settle.openCycle) (trackerTakes f (atPoint (o.points, s.settle.openCycle))) :=
    (Passes.atPoint _).trans (.trackerTakes f _)
  have rest : Passes o.own (plannerDue (trackerTakes f (atPoint (o.points, s.settle.openCycle)))) (s.beforeRest o f) :=
    (Passes.atPoint _).trans (.plannerAtPoints _)
  have counting : u = .planner ∨ u ∈ countingUnits := by
    cases u with
    | planner => exact .inl rfl
    | cassette c =>
      have all : ∀ c : Fin 8, CycUnit.cassette c ∈ countingUnits := by decide
      exact .inr (all c)
    | drive d =>
      have all : ∀ d : Fin 12, CycUnit.drive d ∈ countingUnits := by decide
      exact .inr (all d)
  have due : u ∈ (plannerDue (trackerTakes f (atPoint (o.points, s.settle.openCycle)))).2.cycDue := by
    rcases counting with rfl | counting
    · exact List.mem_append_right _ List.mem_cons_self
    · exact List.mem_append_left _ (first.due u own away counting)
  have still := rest.due u own (first.apart away) due
  rw [readCycle_eq, State.takeRest, takeUnits_cycDue]
  exact List.mem_filter.mpr ⟨still, by simp [own]⟩

/-! ### The tracker's values, the port and what stands -/

theorem readCycle_arrival (s : State) (o : TakeOrder) (f : CycleFrame) :
    ArrivalFrame ((s.beforeTracker o).setTracker ((s.beforeTracker o).tracker.take f)) (s.readCycle o f) := by
  have tracked := trackerTakes_frame f (atPoint (o.points, s.settle.openCycle))
  have due : ArrivalFrame (trackerTakes f (atPoint (o.points, s.settle.openCycle))).2
      (plannerDue (trackerTakes f (atPoint (o.points, s.settle.openCycle)))).2 := (setCycDue_frame ..).arrival
  exact (((tracked.trans due).trans (atPoint_frame _)).trans (plannerAtPoints_frame o.own _)).trans
    (takeUnits_frame ..).arrival

/-! ### With no unit taken before its turn -/

theorem missingMarks_noPoints : ∀ (n : Nat) (s : State), (missingMarks n ([], s)).1 = []
    ∧ (missingMarks n ([], s)).2.cycDue = s.cycDue
  | 0, _ => ⟨rfl, rfl⟩
  | n + 1, s => by
    have again : (missingMarks n (atPoint ([], s.synthesize))).1 = []
        ∧ (missingMarks n (atPoint ([], s.synthesize))).2.cycDue = s.cycDue := by
      obtain ⟨points, due⟩ := missingMarks_noPoints n s.synthesize
      exact ⟨points, due.trans (Between.synthesize s).cycDue⟩
    unfold missingMarks
    split
    · exact ⟨rfl, rfl⟩
    · split
      · exact ⟨rfl, rfl⟩
      · exact ⟨rfl, rfl⟩
      · exact again
      · exact again

theorem testsAtPoints_noPoints : ∀ (xs : List PlanTest) (s : State),
    testsAtPoints xs ([], s) = ([], xs.foldl State.planTest s)
  | [], _ => rfl
  | x :: xs, s => testsAtPoints_noPoints xs (s.planTest x)

/-- The planner's pass and the rest, where no unit is taken before its turn. -/
theorem rest_noPoints {u : State} (counting : u.cycDue = countingUnits) (own : List CycUnit) :
    (plannerAtPoints own (atPoint (plannerDue ([], u)))).2.takeRest own =
      (if CycUnit.planner ∈ own then u.setCycDue (countingUnits ++ [.planner])
        else u.tests.foldl State.planTest u).takeUnits (countingUnits.filter (· ∉ own)) := by
  have due : plannerDue ([], u) = ([], u.setCycDue (countingUnits ++ [.planner])) := by
    rw [plannerDue, counting]
  have pointed (v : State) : atPoint ([], v) = ([], v) := rfl
  rw [due, pointed, plannerAtPoints]
  by_cases planned : CycUnit.planner ∈ own
  · rw [if_neg fun within => within.2 planned, if_pos planned, State.takeRest]
    refine congrArg (State.takeUnits _) ?_
    rw [State.setCycDue_cycDue, List.filter_append, List.filter_cons_of_neg (by simpa using planned)]
    exact List.append_nil _
  · rw [if_pos ⟨List.mem_append_right _ List.mem_cons_self, planned⟩, if_neg planned]
    have marked : (u.setCycDue (countingUnits ++ [.planner])).setCycDue
        ((u.setCycDue (countingUnits ++ [.planner])).cycDue.filter (· != .planner)) = u := by
      have filtered : (countingUnits ++ [CycUnit.planner]).filter (· != .planner) = u.cycDue := by
        rw [counting]
        decide
      rw [State.setCycDue_cycDue, filtered]
      rfl
    have tests : (u.setCycDue (countingUnits ++ [.planner])).tests = u.tests := rfl
    rw [marked, tests, testsAtPoints_noPoints, State.takeRest, (Between.planTests _ _).cycDue, counting]

/-- A cycle frame with no unit taken before its turn: the tracker's act, then the planner's pass or nothing of it, then
the units that are not left to a step of their own (log 1). -/
theorem readCycle_noPoints {s : State} {o : TakeOrder} {f : CycleFrame} (none : o.points = []) :
    let w := s.settle.openCycle.setTracker (s.settle.tracker.take f)
    let u := if s.settle.openCycle.disturbed f then w.disturbance else (missingMarks 255 ([], w)).2
    s.readCycle o f = (if CycUnit.planner ∈ o.own then u.setCycDue (countingUnits ++ [.planner])
        else u.tests.foldl State.planTest u).takeUnits (countingUnits.filter (· ∉ o.own)) := by
  intro w u
  have tracked : trackerTakes f (atPoint (o.points, s.settle.openCycle)) = ([], u) := by
    rw [none]
    show trackerTakes f ([], s.settle.openCycle) = _
    by_cases disturbed : s.settle.openCycle.disturbed f = true
    · exact (if_pos disturbed).trans (congrArg (Prod.mk []) (if_pos disturbed).symm)
    · refine (if_neg disturbed).trans (Eq.trans ?_ (congrArg (Prod.mk []) (if_neg disturbed).symm))
      exact Prod.ext (missingMarks_noPoints 255 w).1 rfl
  have counting : u.cycDue = countingUnits := by
    by_cases disturbed : s.settle.openCycle.disturbed f = true
    · exact (congrArg State.cycDue (if_pos disturbed)).trans (Between.disturbance w).cycDue
    · exact (congrArg State.cycDue (if_neg disturbed)).trans (missingMarks_noPoints 255 w).2
  rw [readCycle_eq, State.beforeRest, tracked]
  exact rest_noPoints counting o.own

/-- The frame is a disturbance (R5, R6). -/
theorem disturbed_iff (s : State) (f : CycleFrame) : s.disturbed f = true ↔ s.tracker.firstCycle = false
    ∧ (dist s.tracker.pos f.pos < 0 ∨ (s.jobs.cfg.jump : Int) < dist s.tracker.pos f.pos) := by
  rw [State.disturbed, Bool.and_eq_true, Bool.or_eq_true, decide_eq_true_iff, decide_eq_true_iff, Bool.not_eq_true']

/-- Settles O8: the frame of the acts, the parts of the units one by one, and the acts in their order. -/
theorem cycleFrameIsTaken : Obligations.CycleFrameIsTaken := by
  refine ⟨?frame, fun s => ⟨rfl, rfl, fun _ => rfl, fun u notDue => if_neg notDue, fun due => takeUnit_due due⟩⟩
  intro s h p o reads raw v cfg counting
  let u := s.forward raw
  let f := CycleFrame.ofPayload p
  have settled := settle_frame u
  have opened := takeUnits_frame u.settle.openCycle (o.points.headD [])
  have arrival := readCycle_arrival u o f
  have dwells : DwellsKept s u.settle := (DwellsKept.keptByUnits s).settle ((DwellsKept.refl s).elsewhere rfl)
  have progress : Progress s v (u.readCycle o f) := Progress.readCycle dwells
  have left := readCycle_left u o f
  have stays {x : CycUnit} (own : x ∈ o.own) (away : x ∉ o.points.flatten) : x ∈ (u.readCycle o f).cycDue :=
    readCycle_own u o f own away
  refine ⟨_, exec_cycArrival reads o, arrival.cycleNo, arrival.pos, arrival.speed, arrival.line, arrival.firstCycle, ?port,
    progress.silent, ?answers, ?cfg, ?freeCount, left, fun _ => stays, fun c => ⟨fun taken => ?cassette, fun own away => ?c,
      (progress.cassette c).cold⟩, fun d => ⟨fun taken => ?drive, fun own away => ?d, (progress.drive d).silent⟩,
    fun none => ?noPoints⟩
  case port =>
    have port : (u.beforeTracker o).port = { u.settle.port with timerOn := true, window := 6 } := opened.port
    rw [arrival.port]
    refine Eq.trans port ?_
    rw [settled.port]
    rfl
  case answers => exact arrival.answers.trans (opened.answers.trans settled.answers)
  case cfg => exact arrival.cfg.trans (opened.cfg.trans settled.cfg)
  case freeCount => exact arrival.freeCount.trans (opened.freeCount.trans settled.freeCount)
  case cassette => exact ((progress.cassette c).part.resolve_left fun due => taken (left _ due.1)).2
  case c => exact ((progress.cassette c).part.resolve_right fun done => done.1 (stays own away)).2
  case drive => exact ((progress.drive d).part.resolve_left fun due => taken (left _ due.1)).2
  case d => exact ((progress.drive d).part.resolve_right fun done => done.1 (stays own away)).2
  case noPoints =>
    intro w x tests
    have disturbed : u.settle.openCycle.disturbed f = true ↔ s.tracker.firstCycle = false
        ∧ (dist s.tracker.pos w.tracker.pos < 0 ∨ (cfg.jump : Int) < dist s.tracker.pos w.tracker.pos) := by
      have first : u.settle.openCycle.tracker.firstCycle = s.tracker.firstCycle :=
        (congrArg Tracker.firstCycle settled.tracker).trans rfl
      have pos : u.settle.openCycle.tracker.pos = s.tracker.pos := (congrArg Tracker.pos settled.tracker).trans rfl
      have jump : u.settle.openCycle.jobs.cfg = cfg := settled.cfg
      rw [disturbed_iff, first, pos, jump]
      exact Iff.rfl
    have same : (if u.settle.openCycle.disturbed f then
        (u.settle.openCycle.setTracker (u.settle.tracker.take f)).disturbance
        else (missingMarks 255 ([], u.settle.openCycle.setTracker (u.settle.tracker.take f))).2) = x :=
      if_congr disturbed rfl rfl
    exact (readCycle_noPoints (s := u) (f := f) none).trans (congrArg (fun y : State =>
      (if CycUnit.planner ∈ o.own then y.setCycDue (countingUnits ++ [.planner])
        else y.tests.foldl State.planTest y).takeUnits (countingUnits.filter (· ∉ o.own))) same)

end Sys2Proof.Machine

/-! ## A foil move is sent (R96, R98 to R101, R132, R154) -/

namespace Sys2Proof.Machine

/-! ### The successor's place -/

/-- The first member that meets a test, changed in its place. -/
theorem exists_set_of_find? {α : Type} {test : α → Bool} {x : α} {l : List α} (found : l.find? test = some x) :
    ∃ k, l[k]? = some x ∧ ∀ g, updateFirst test g l = l.set k (g x) := by
  obtain ⟨a, b, rfl, -, updated, -⟩ := exists_split_of_find? found
  exact ⟨a.length, by simp, fun g => by simp [updated]⟩

/-- A move of a queue at its place, changed there. -/
structure TrimmedAt (q r : List Plan) (j k : Nat) (p : Plan) (y : Move) (t : Nat) : Prop where
  plan : q[j]? = some p
  move : p.moves[k]? = some y
  queue : r = q.set j { p with moves := p.moves.set k (y.trim t) }

namespace TrimmedAt
variable {q r a : List Plan} {j k t : Nat} {p : Plan} {y : Move}

theorem append (h : TrimmedAt q r j k p y t) (a : List Plan) : TrimmedAt (a ++ q) (a ++ r) (a.length + j) k p y t := by
  obtain ⟨plan, move, queue⟩ := h
  refine ⟨?_, move, ?_⟩
  · rw [List.getElem?_append_right (Nat.le_add_right ..), Nat.add_sub_cancel_left]
    exact plan
  · rw [queue, List.set_append_right _ _ (Nat.le_add_right ..), Nat.add_sub_cancel_left]

end TrimmedAt

theorem any_of_find? {α : Type} {test : α → Bool} {l : List α} {x : α} (found : l.find? test = some x) :
    l.any test = true := by
  rw [List.any_eq_true]
  exact ⟨x, List.mem_of_find?_eq_some found, List.find?_some found⟩

theorem any_of_find?_none {α : Type} {test : α → Bool} {l : List α} (none : l.find? test = none) :
    l.any test = false := by
  rw [List.any_eq_false]
  exact List.find?_eq_none.mp none

section
variable {f : Fin 4} {y : Move} (t : Nat)

theorem trimPlans_at : ∀ {q : List Plan}, (q.flatMap Plan.moves).find? (Move.canFollow f) = some y →
    ∃ j k p, TrimmedAt q (trimPlans f t q) j k p y t
  | [], found => by cases found
  | p :: q, found => by
    rw [List.flatMap_cons, List.find?_append] at found
    rw [trimPlans]
    cases here : p.moves.find? (Move.canFollow f) with
    | some x =>
      obtain rfl : x = y := by simpa [here] using found
      obtain ⟨k, place, changed⟩ := exists_set_of_find? here
      rw [if_pos (any_of_find? here), changed]
      exact ⟨0, k, p, rfl, place, rfl⟩
    | none =>
      rw [here, Option.none_or] at found
      obtain ⟨j, k, p', trimmed⟩ := trimPlans_at found
      rw [if_neg (by simp [any_of_find?_none here])]
      refine ⟨j + 1, k, p', ?_⟩
      have behind := trimmed.append [p]
      rwa [List.length_singleton, Nat.add_comm] at behind

/-- The successor that is found is the move that is trimmed, in its place (R98, R100). -/
theorem trimSuccessor_at {i : Nat} {q : List Plan} (found : successorIn f i q = some y) :
    ∃ j k p, TrimmedAt q (trimSuccessor f i t q) j k p y t := by
  cases q with
  | nil => cases found
  | cons p q =>
    rw [successorIn] at found
    rw [trimSuccessor]
    cases here : (p.moves.drop (i + 1)).find? (Move.canFollow f) with
    | some x =>
      obtain rfl : x = y := by simpa [here] using found
      obtain ⟨k, place, changed⟩ := exists_set_of_find? here
      rw [if_pos (any_of_find? here), changed]
      rw [List.getElem?_drop] at place
      refine ⟨0, i + 1 + k, p, rfl, place, ?_⟩
      have inside : i + 1 + k < p.moves.length := (List.getElem?_eq_some_iff.mp place).1
      have moves : p.moves.take (i + 1) ++ (p.moves.drop (i + 1)).set k (x.trim t) = p.moves.set (i + 1 + k) (x.trim t) := by
        conv_rhs => rw [← List.take_append_drop (i + 1) p.moves]
        have taken : (p.moves.take (i + 1)).length = i + 1 := by
          rw [List.length_take]
          omega
        rw [List.set_append_right _ _ (by omega), taken, Nat.add_sub_cancel_left]
      rw [moves]
      rfl
    | none =>
      rw [here, Option.none_or] at found
      obtain ⟨j, k, p', trimmed⟩ := trimPlans_at t found
      rw [if_neg (by simp [any_of_find?_none here])]
      refine ⟨j + 1, k, p', ?_⟩
      have behind := trimmed.append [p]
      rwa [List.length_singleton, Nat.add_comm] at behind

/-! ### The successor after the trim -/

theorem find?_trimFirst {ms : List Move} :
    (updateFirst (Move.canFollow f) (Move.trim t) ms).find? (Move.canFollow f) =
      (ms.find? (Move.canFollow f)).map (Move.trim t) := by
  induction ms with
  | nil => rfl
  | cons x xs ih =>
    rw [updateFirst]
    by_cases follows : x.canFollow f = true
    · have still : (x.trim t).canFollow f = true := follows
      rw [if_pos follows, List.find?_cons_of_pos still, List.find?_cons_of_pos follows]
      rfl
    · rw [if_neg follows, List.find?_cons_of_neg follows, List.find?_cons_of_neg follows, ih]

theorem find?_trimPlans (q : List Plan) : ((trimPlans f t q).flatMap Plan.moves).find? (Move.canFollow f) =
    ((q.flatMap Plan.moves).find? (Move.canFollow f)).map (Move.trim t) := by
  induction q with
  | nil => rfl
  | cons p q ih =>
    rw [trimPlans]
    cases here : p.moves.find? (Move.canFollow f) with
    | some x =>
      rw [if_pos (any_of_find? here), List.flatMap_cons, List.flatMap_cons, List.find?_append, List.find?_append,
        find?_trimFirst, here]
      rfl
    | none =>
      rw [if_neg (by simp [any_of_find?_none here]), List.flatMap_cons, List.flatMap_cons, List.find?_append,
        List.find?_append, here, ih]
      rfl

theorem successorIn_trimSuccessor (i : Nat) (q : List Plan) :
    successorIn f i (trimSuccessor f i t q) = (successorIn f i q).map (Move.trim t) := by
  cases q with
  | nil => rfl
  | cons p q =>
    rw [trimSuccessor]
    cases here : (p.moves.drop (i + 1)).find? (Move.canFollow f) with
    | some x =>
      have some' := any_of_find? here
      have later : i + 1 < p.moves.length := by
        obtain ⟨m, member, -⟩ := List.any_eq_true.mp some'
        have := List.length_pos_of_mem member
        rw [List.length_drop] at this
        omega
      have dropped : (p.moves.take (i + 1) ++ updateFirst (Move.canFollow f) (Move.trim t) (p.moves.drop (i + 1))).drop (i + 1)
          = updateFirst (Move.canFollow f) (Move.trim t) (p.moves.drop (i + 1)) :=
        List.drop_left' (by rw [List.length_take]; omega)
      rw [if_pos some', successorIn, successorIn, dropped, find?_trimFirst, here]
      rfl
    | none =>
      rw [if_neg (by simp [any_of_find?_none here]), successorIn, successorIn, here, Option.none_or, Option.none_or,
        find?_trimPlans]

end

/-- The sending of a move leaves its successor alone. -/
theorem successorIn_sendFmv (f : Fin 4) (i : Nat) (p : Plan) (q : List Plan) (seq : Byte) (chain : Bool) :
    successorIn f i (p.sendFmv i seq chain :: q) = successorIn f i (p :: q) := by
  have dropped : (p.sendFmv i seq chain).moves.drop (i + 1) = p.moves.drop (i + 1) := by
    refine List.ext_getElem? fun j => ?_
    rw [List.getElem?_drop, List.getElem?_drop]
    exact List.getElem?_modify_ne _ _ (by omega)
  rw [successorIn, successorIn, dropped]

/-! ### The low test -/

theorem lowTest_low (s : State) (f : Fin 4) : (s.lowTest f).foil[f].low =
    if s.foil[f].available < (s.webEntry f).low then true else s.foil[f].low := by
  unfold State.lowTest
  by_cases under : s.foil[f].available < (s.webEntry f).low
  · rw [if_pos under]
    cases low : s.foil[f].low with
    | true => rw [if_neg (by simp), low]
    | false =>
      rw [if_pos ⟨under, rfl⟩]
      exact congrArg FoilAccount.low (State.modFoil_foil_same s f fun a => { a with low := true })
  · rw [if_neg under, if_neg fun both => under both.1]

theorem lowTest_attention (s : State) (f : Fin 4) : (s.lowTest f).attention =
    if s.foil[f].available < (s.webEntry f).low ∧ s.foil[f].low = false then
      (s.raise 8 (BitVec.ofNat 32 f.val)).attention else s.attention := by
  unfold State.lowTest
  split <;> rfl

theorem lowTest_saved (s : State) (f : Fin 4) : (s.lowTest f).foil[f].saved = s.foil[f].saved := by
  unfold State.lowTest
  split
  · have changed := congrArg FoilAccount.saved (State.modFoil_foil_same s f fun a => { a with low := true })
    exact changed
  · rfl

theorem lowTest_other (s : State) {f g : Fin 4} (other : f ≠ g) : (s.lowTest f).foil[g] = s.foil[g] := by
  unfold State.lowTest
  split
  · exact modFoil_other s (fun a => { a with low := true }) other
  · rfl

theorem lowTest_rest (s : State) (f : Fin 4) :
    s.lowTest f = { s with foil := (s.lowTest f).foil, attention := (s.lowTest f).attention } := by
  unfold State.lowTest
  split <;> rfl

theorem webEntry_low (s : State) (f : Fin 4) : (s.webEntry f).low = ((s.active.foil[f]).map (·.low)).getD 0 := by
  unfold State.webEntry
  cases s.active.foil[f] <;> rfl

/-! ### The queue after a sending -/

/-- The successor of a move of a queued plan (R98). -/
def State.successor (s : State) (n : Rep) (i : Nat) (f : Fin 4) : Option Move := successorIn f i (plansFrom n s.planner.queue)

theorem trimNext_successor (s : State) (n : Rep) (i : Nat) (m : Move) (c : SendPlan) :
    (s.trimNext n i m c).successor n i m.web = (s.successor n i m.web).map (Move.trim c.trim) := by
  unfold State.trimNext
  by_cases none : c.trim = 0
  · rw [if_pos none, none]
    have same (y : Move) : y.trim 0 = y := by
      have start : y.start + len 0 = y.start := by simp [len]
      rw [Move.trim, start]
      rfl
    rw [funext same, Option.map_id']
  · rw [if_neg none]
    unfold State.successor
    rw [← successorIn_trimSuccessor]
    refine congrArg (successorIn m.web i) ?_
    rw [State.setPlanner_planner, Machine.onPlansFrom]
    unfold Machine.plansFrom
    generalize s.planner.queue = q
    have pass : ∀ y ∈ q.takeWhile (fun p => !p.isRepeat n), (!y.isRepeat n) = true := fun y member =>
      List.mem_takeWhile_imp (p := fun p : Plan => !p.isRepeat n) member
    rw [List.dropWhile_append_of_pos pass]
    cases behind : q.dropWhile (fun p => !p.isRepeat n) with
    | nil => rfl
    | cons p r =>
      obtain ⟨p', r', trimmed, -, number⟩ := trimSuccessor_head m.web i c.trim p r
      have own : (!p.isRepeat n) = false := by
        have := List.head?_dropWhile_not (fun p : Plan => !p.isRepeat n) q
        rw [behind] at this
        simpa using this
      rw [trimmed, List.dropWhile_cons_of_neg]
      rw [Plan.isRepeat, number]
      simpa [Plan.isRepeat] using own

/-- The queue after the trim of a successor: it is changed in its place (R100). -/
theorem trimNext_at {s : State} {n : Rep} {i : Nat} {m : Move} {c : SendPlan} (trims : c.trim ≠ 0) {y : Move}
    (found : s.successor n i m.web = some y) :
    ∃ j k p, TrimmedAt s.planner.queue (s.trimNext n i m c).planner.queue j k p y c.trim := by
  obtain ⟨j, k, p, trimmed⟩ := trimSuccessor_at c.trim found
  have queue : (s.trimNext n i m c).planner.queue = onPlansFrom n (trimSuccessor m.web i c.trim) s.planner.queue :=
    congrArg (fun v : State => v.planner.queue) (if_neg trims)
  have whole := trimmed.append (s.planner.queue.takeWhile fun p => !p.isRepeat n)
  rw [Machine.plansFrom, List.takeWhile_append_dropWhile] at whole
  rw [queue]
  exact ⟨_, k, p, whole⟩

/-- The sent move's successor as the statements spell it out (R98). -/
theorem successor_eq (s : State) (n : Rep) (i : Nat) (f : Fin 4) : s.successor n i f =
    match s.planner.queue.dropWhile fun p => p.repeatNo != n with
    | [] => none
    | p :: behind => (p.moves.drop (i + 1) ++ behind.flatMap (·.moves)).find? fun y =>
        y.web == f && (y.st == .unsent || y.st == .due) := by
  have follows : Move.canFollow f = fun y => y.web == f && (y.st == .unsent || y.st == .due) := by
    funext y
    rw [Move.canFollow]
    cases y.st <;> rfl
  unfold State.successor Machine.plansFrom
  show successorIn f i (s.planner.queue.dropWhile fun p => p.repeatNo != n) = _
  cases s.planner.queue.dropWhile fun p => p.repeatNo != n with
  | nil => rfl
  | cons p behind =>
    rw [successorIn, ← List.find?_append, follows]

/-! ### The statement -/

/-- The chain decision by the gap to the successor (R98 to R100). -/
theorem chainPlan_none (m : Move) (available : Nat) :
    (chainPlan m none available).chain = false ∧ (chainPlan m none available).extra = 0 ∧ (chainPlan m none available).trim = 0 :=
  ⟨rfl, rfl, rfl⟩

theorem chainPlan_some (m y : Move) (available : Nat) :
    let c := chainPlan m (some y) available
    let g := dist m.stop y.start
    (g < 0 → c.chain = true ∧ c.extra = 0 ∧ (c.trim : Int) = min (-g) y.length)
      ∧ (0 ≤ g → g < m.gmin → g ≤ (available : Int) → c.chain = true ∧ (c.extra : Int) = g ∧ c.trim = 0)
      ∧ (0 ≤ g → (available : Int) < g ∨ (m.gmin : Int) ≤ g → c.chain = false ∧ c.extra = 0 ∧ c.trim = 0) := by
  simp only [chainPlan]
  refine ⟨fun overlap => ?_, fun ahead near enough => ?_, fun ahead far => ?_⟩
  · rw [if_pos overlap]
    refine ⟨rfl, rfl, ?_⟩
    simp only [Nat.cast_min]
    omega
  · have covered : (dist m.stop y.start).toNat ≤ available := by omega
    rw [if_neg (by omega), if_pos near, if_pos covered]
    exact ⟨rfl, Int.toNat_of_nonneg ahead, rfl⟩
  · rw [if_neg (by omega)]
    by_cases near : dist m.stop y.start < m.gmin
    · have short : ¬(dist m.stop y.start).toNat ≤ available := by omega
      rw [if_pos near, if_neg short]
      exact ⟨rfl, rfl, rfl⟩
    · rw [if_neg near]
      exact ⟨rfl, rfl, rfl⟩

section
variable (s : State) (n : Rep) (i : Nat) (m : Move) (c : SendPlan)

/-- The blocks when the sent move's foil has been taken, before the low test. -/
def State.drawn : State := (s.trimNext n i m c).modFoil m.web fun a => a.consume m c

theorem trimNext_rest :
    s.trimNext n i m c = { s with planner := { s.planner with queue := (s.trimNext n i m c).planner.queue } } := by
  unfold State.trimNext
  split <;> rfl

theorem drawn_rest : s.drawn n i m c = { s with
    planner := { s.planner with queue := (s.trimNext n i m c).planner.queue }
    foil := s.foil.set m.web (s.foil[m.web].consume m c) } := by
  unfold State.drawn
  rw [trimNext_rest]
  rfl

theorem sendFoil_eq :
    s.sendFoil n i m c = if c.extra = 0 then s.drawn n i m c else (s.drawn n i m c).lowTest m.web := rfl

theorem sendFoil_rest : s.sendFoil n i m c = { s with
    planner := { s.planner with queue := (s.trimNext n i m c).planner.queue }
    foil := (s.sendFoil n i m c).foil
    attention := (s.sendFoil n i m c).attention } := by
  have rest := drawn_rest s n i m c
  rw [sendFoil_eq]
  split
  · rw [rest]
  · rw [lowTest_rest]
    rw [rest]

/-- The account of the web after the sending, but for its flag (R99, R100). -/
theorem sendFoil_account : (s.sendFoil n i m c).foil[m.web].remaining = s.foil[m.web].remaining - (m.length + c.extra)
    ∧ (s.sendFoil n i m c).foil[m.web].reserved = s.foil[m.web].reserved - c.trim - m.reserved
    ∧ (s.sendFoil n i m c).foil[m.web].saved = s.foil[m.web].saved := by
  have account : (s.drawn n i m c).foil[m.web] = s.foil[m.web].consume m c := by
    rw [drawn_rest]
    exact Vector.getElem_set_self _
  rw [sendFoil_eq]
  split
  · rw [account]
    exact ⟨rfl, rfl, rfl⟩
  · obtain ⟨reserved, remaining⟩ := lowTest_foil (s.drawn n i m c) m.web m.web
    rw [reserved, remaining, lowTest_saved, account]
    exact ⟨rfl, rfl, rfl⟩

theorem sendFoil_other {f : Fin 4} (other : f ≠ m.web) : (s.sendFoil n i m c).foil[f] = s.foil[f] := by
  have account : (s.drawn n i m c).foil[f] = s.foil[f] := by
    rw [drawn_rest]
    exact Vector.getElem_set_ne m.web.isLt f.isLt (by simpa [Fin.ext_iff] using other.symm)
  rw [sendFoil_eq]
  split
  · exact account
  · rw [lowTest_other _ other.symm, account]

/-- The low test follows a drawn gap (R96, R99). -/
theorem sendFoil_low :
    let under : Prop := c.extra ≠ 0 ∧ (s.sendFoil n i m c).foil[m.web].remaining
      - (s.sendFoil n i m c).foil[m.web].reserved < ((s.active.foil[m.web]).map (·.low)).getD 0
    (under → (s.sendFoil n i m c).foil[m.web].low = true)
      ∧ (¬under → (s.sendFoil n i m c).foil[m.web].low = s.foil[m.web].low)
      ∧ (under ∧ s.foil[m.web].low = false →
          (s.sendFoil n i m c).attention = (s.raise 8 (BitVec.ofNat 32 m.web.val)).attention)
      ∧ (¬(under ∧ s.foil[m.web].low = false) → (s.sendFoil n i m c).attention = s.attention) := by
  have rest := drawn_rest s n i m c
  have account : (s.drawn n i m c).foil[m.web] = s.foil[m.web].consume m c := by
    rw [rest]
    exact Vector.getElem_set_self _
  have attention : (s.drawn n i m c).attention = s.attention := by rw [rest]
  obtain ⟨remaining, reserved, -⟩ := sendFoil_account s n i m c
  by_cases plain : c.extra = 0
  · have sent : s.sendFoil n i m c = s.drawn n i m c := if_pos plain
    refine ⟨fun under => absurd plain under.1, fun _ => ?_, fun under => absurd plain under.1.1, fun _ => ?_⟩
    · rw [sent, account]
      rfl
    · rw [sent, attention]
  · have sent : s.sendFoil n i m c = (s.drawn n i m c).lowTest m.web := if_neg plain
    have threshold : ((s.drawn n i m c).webEntry m.web).low = ((s.active.foil[m.web]).map (·.low)).getD 0 := by
      rw [webEntry_low, rest]
      rfl
    have available : (s.drawn n i m c).foil[m.web].available = (s.sendFoil n i m c).foil[m.web].remaining
        - (s.sendFoil n i m c).foil[m.web].reserved := by
      rw [remaining, reserved, account]
      rfl
    have low : (s.drawn n i m c).foil[m.web].low = s.foil[m.web].low := by
      rw [account]
      rfl
    have raised : ((s.drawn n i m c).raise 8 (BitVec.ofNat 32 m.web.val)).attention =
        (s.raise 8 (BitVec.ofNat 32 m.web.val)).attention := by
      rw [rest]
      rfl
    have flag := lowTest_low (s.drawn n i m c) m.web
    have event := lowTest_attention (s.drawn n i m c) m.web
    rw [← sent, available, threshold, low] at flag event
    rw [raised, attention] at event
    exact ⟨fun under => flag.trans (if_pos under.2), fun not => flag.trans (if_neg fun low => not ⟨plain, low⟩),
      fun under => event.trans (if_pos ⟨under.1.2, under.2⟩),
      fun not => event.trans (if_neg fun both => not ⟨⟨plain, both.1⟩, both.2⟩)⟩

end

/-- The sending of a move changes it and leaves its successor (R68, R98). -/
theorem modPlan_sendFmv_successor (s : State) (n : Rep) (i : Nat) (f : Fin 4) (seq : Byte) (chain : Bool) :
    (s.modPlan n fun p => p.sendFmv i seq chain).successor n i f = s.successor n i f := by
  cases found : s.findPlan n with
  | none =>
    have same : (s.modPlan n fun p => p.sendFmv i seq chain).planner.queue = s.planner.queue := by
      have absent : s.planner.queue.find? (Plan.isRepeat n) = none := found
      have kept : ∀ q : List Plan, q.find? (Plan.isRepeat n) = none →
          updateFirst (Plan.isRepeat n) (fun p => p.sendFmv i seq chain) q = q := by
        intro q
        induction q with
        | nil => exact fun _ => rfl
        | cons p q ih =>
          intro none
          rw [List.find?_eq_none] at none
          rw [updateFirst, if_neg (none p List.mem_cons_self),
            ih (List.find?_eq_none.mpr fun x member => none x (List.mem_cons_of_mem _ member))]
      exact kept _ absent
    rw [State.successor, same, State.successor]
  | some p =>
    obtain ⟨a, b, split⟩ := QueueSplit.of_findPlan found
    have queue : (s.modPlan n fun p => p.sendFmv i seq chain).planner.queue = a ++ p.sendFmv i seq chain :: b :=
      split.updateFirst _
    have sent : QueueSplit (s.modPlan n fun p => p.sendFmv i seq chain).planner.queue n a (p.sendFmv i seq chain) b :=
      ⟨queue, split.before, split.number⟩
    rw [State.successor, State.successor, sent.plansFrom, split.plansFrom, successorIn_sendFmv]

/-- Settles O26: the chain decision, the account, and the queue at the successor's place and at the sent move's. -/
theorem foilMoveIsSent : Obligations.FoilMoveIsSent := by
  intro s own n i m d x a dest after send trimmed
  let c := s.sendPlan n i m
  let u := s.sendFoil n i m c
  have rest : u = { s with
      planner := { s.planner with queue := (s.trimNext n i m c).planner.queue }
      foil := u.foil
      attention := u.attention } := sendFoil_rest s n i m c
  have same {α : Type} (g : State → α) : g u = g { s with
      planner := { s.planner with queue := (s.trimNext n i m c).planner.queue }
      foil := u.foil
      attention := u.attention } := congrArg g rest
  have form : s.sendDue own (.fmv n i m) = ((u.modPlan n fun p => p.sendFmv i x.next c.chain).modDrive d
      fun y => y.send (.fmv n i)).sendOwn own Frame.fmv (s.driveDest d) 0 (fmvPayload m x.next c.chain) := rfl
  have queue : (s.sendDue own (.fmv n i m)).planner.queue = send x.next c.chain (s.trimNext n i m c).planner.queue := by
    rw [form, modPlan_eq_planChanged, rest]
    rfl
  have afterEq (v : State) : after v = v.successor n i m.web := (successor_eq v n i m.web).symm
  have decision : c = chainPlan m (after s) (a.remaining - a.reserved) := by
    rw [afterEq]
    rfl
  obtain ⟨remaining, reserved, saved⟩ := sendFoil_account s n i m c
  refine ⟨c.chain, c.extra, c.trim, _, form, fun none => ?none, fun y found => ?some, remaining, reserved, saved,
    sendFoil_low s n i m c, fun f other => sendFoil_other s n i m c other, ?port, ?drives, fun p q plan sent k move => ?move,
    ?successor, fun untrimmed => ?untrimmed, fun trims => ?trimmed, same State.jobs, same State.tracker,
    same State.cassettes, same State.answers, same State.report, same fun v => v.planner.st,
    same fun v => v.planner.stamped, same fun v => v.planner.rejected⟩
  case none =>
    rw [decision, none]
    exact chainPlan_none m _
  case some =>
    rw [decision, found]
    exact chainPlan_some m y _
  case port =>
    have port : u.port = s.port := same State.port
    have station : s.driveDest d = dest := driveDest_eq s d
    rw [← station]
    exact congrArg (fun v : Port => { v with
      down := v.down ++ [(ownFrame own Frame.fmv (s.driveDest d) 0 (fmvPayload m x.next c.chain)).bytes] }) port
  case drives =>
    have drives : u.drives = s.drives := same State.drives
    exact congrArg (fun v : Vector Drive 12 => v.set d (v[d].send (.fmv n i))) drives
  case move =>
    obtain ⟨front, behind, split⟩ := QueueSplit.of_findPlan (s := s) plan
    obtain ⟨p', r, split', moves, -⟩ := trimNext_queue split i m c
    have updated := split'.updateFirst fun p => p.sendFmv i x.next c.chain
    rw [updateFirst_eq_atFirst] at updated
    have sentSplit : QueueSplit (send x.next c.chain (s.trimNext n i m c).planner.queue) n front
        (p'.sendFmv i x.next c.chain) r := ⟨updated, split'.before, split'.number⟩
    rw [← form, queue] at sent
    obtain rfl : p'.sendFmv i x.next c.chain = q := Option.some.inj (sentSplit.find.symm.trans sent)
    have place : (p'.sendFmv i x.next c.chain).moves[i]? =
        (p'.moves[i]?).map fun k => { k with st := .sent x.next, chain := c.chain } := List.getElem?_modify_eq ..
    exact place.trans ((congrArg (Option.map _) (moves.trans move)).trans rfl)
  case successor =>
    have sent : (s.sendDue own (.fmv n i m)).successor n i m.web =
        ((s.trimNext n i m c).modPlan n fun p => p.sendFmv i x.next c.chain).successor n i m.web := by
      rw [State.successor, queue, State.successor, modPlan_eq_planChanged]
      rfl
    rw [afterEq, afterEq, ← form, sent, modPlan_sendFmv_successor, trimNext_successor]
    rfl
  case untrimmed =>
    rw [← form, queue]
    exact congrArg (fun v : State => send x.next c.chain v.planner.queue) (if_pos untrimmed)
  case trimmed =>
    rw [← form, queue]
    cases found : after s with
    | none =>
      rw [decision, found] at trims
      exact absurd rfl trims
    | some y =>
      obtain ⟨j, k, p, plan, move, place⟩ := trimNext_at (c := c) trims ((afterEq s).symm.trans found)
      exact ⟨j, k, p, y, rfl, plan, move, congrArg (send x.next c.chain) place⟩

end Sys2Proof.Machine

/-! ## The runs of a foil group (R91 to R93) -/

namespace Sys2Proof.Machine

/-! ### Foil intervals -/

/-- The start of an entry's foil interval (R91). -/
def Entry.foilStart (fm : Nat) (e : Entry) : Pos := e.contact - len fm

/-- The end of an entry's foil interval (R91). -/
def Entry.foilStop (fm : Nat) (e : Entry) : Pos := e.contact + len e.length + len fm

theorem foilInterval_eq (fm : Nat) (e : Entry) :
    foilInterval fm e = { start := e.foilStart fm, stop := e.foilStop fm, lanes := [e.lane] } := rfl

/-- An entry whose foil interval stands near the nip base, its end behind its start. -/
structure FoilNear (fm : Nat) (nip : Pos) (e : Entry) : Prop where
  start : Near nip (e.foilStart fm)
  stop : Near nip (e.foilStop fm)
  ordered : dist nip (e.foilStart fm) ≤ dist nip (e.foilStop fm)

theorem toInt_len {k : Nat} (short : k ≤ 1000000000) : (len k).toInt = k := by
  have small : (len k).toNat = k := by
    rw [len, BitVec.toNat_ofNat]
    omega
  rw [BitVec.toInt_eq_toNat_of_lt (by omega), small]

theorem dist_add_len {base p : Pos} {k : Nat} (low : -1073741824 ≤ dist base p) (high : dist base p ≤ 1073741824)
    (short : k ≤ 1000000000) : dist base (p + len k) = dist base p + k := by
  unfold dist len at *
  have split' : p + BitVec.ofNat 32 k - base = (p - base) + BitVec.ofNat 32 k := by bv_omega
  have small : (BitVec.ofNat 32 k).toInt = k := toInt_len short
  rw [split', BitVec.toInt_add, small, Int.bmod_eq_of_le] <;> omega

theorem dist_sub_len {base p : Pos} {k : Nat} (low : -1073741824 ≤ dist base p) (high : dist base p ≤ 1073741824)
    (short : k ≤ 1000000000) : dist base (p - len k) = dist base p - k := by
  unfold dist len at *
  have split' : p - BitVec.ofNat 32 k - base = (p - base) - BitVec.ofNat 32 k := by bv_omega
  have small : (BitVec.ofNat 32 k).toInt = k := toInt_len short
  rw [split', BitVec.toInt_sub, small, Int.bmod_eq_of_le] <;> omega

theorem eq_of_dist_eq {base a b : Pos} (same : dist base a = dist base b) : a = b := by
  unfold dist at same
  have := BitVec.eq_of_toInt_eq same
  bv_omega

theorem foilNear_of_ranges {fm : Nat} {nip : Pos} {e : Entry} (margin : fm ≤ 2000) (length : e.length ≤ 60000)
    (low : -1000 ≤ dist nip e.contact) (high : dist nip e.contact ≤ 201000) : FoilNear fm nip e := by
  have start : dist nip (e.foilStart fm) = dist nip e.contact - fm := dist_sub_len (by omega) (by omega) (by omega)
  have image : dist nip (e.contact + len e.length) = dist nip e.contact + e.length :=
    dist_add_len (by omega) (by omega) (by omega)
  have stop : dist nip (e.foilStop fm) = dist nip (e.contact + len e.length) + fm :=
    dist_add_len (by omega) (by omega) (by omega)
  refine ⟨?_, ?_, by omega⟩
  · unfold Near
    omega
  · unfold Near
    omega

/-! ### Runs joined -/

theorem insertLane_sorted (l : Fin 8) : ∀ {ls : List (Fin 8)}, ls.Pairwise (· ≤ ·) → (insertLane l ls).Pairwise (· ≤ ·)
  | [], _ => List.pairwise_singleton _ _
  | x :: xs, sorted => by
    rw [List.pairwise_cons] at sorted
    obtain ⟨least, rest⟩ := sorted
    rw [insertLane]
    split
    next before =>
      refine List.pairwise_cons.mpr ⟨fun y member => ?_, List.pairwise_cons.mpr ⟨least, rest⟩⟩
      rcases List.mem_cons.mp member with rfl | behind
      · exact before.le
      · exact before.le.trans (least y behind)
    next after =>
      refine List.pairwise_cons.mpr ⟨fun y member => ?_, insertLane_sorted l rest⟩
      rcases List.mem_cons.mp ((insertLane_perm l xs).subset member) with rfl | behind
      · exact not_lt.mp after
      · exact least y behind

theorem joinRuns_sorted {a b : Run} (sorted : a.lanes.Pairwise (· ≤ ·)) : (joinRuns a b).lanes.Pairwise (· ≤ ·) :=
  foldl_keeps (P := fun ls : List (Fin 8) => ls.Pairwise (· ≤ ·)) (fun _ l h => insertLane_sorted l h) b.lanes a.lanes sorted

/-- A run of some entries: it holds their lanes, begins where one of theirs begins, ends where one of theirs ends, and
covers them all. -/
structure Spans (fm : Nat) (nip : Pos) (es : List Entry) (r : Run) : Prop where
  lanes : r.lanes.Perm (es.map (·.lane))
  sorted : r.lanes.Pairwise (· ≤ ·)
  first : ∃ e ∈ es, r.start = e.foilStart fm
  last : ∃ e ∈ es, r.stop = e.foilStop fm
  covers : ∀ e ∈ es, dist nip r.start ≤ dist nip (e.foilStart fm) ∧ dist nip (e.foilStop fm) ≤ dist nip r.stop

namespace Spans
variable {fm : Nat} {nip : Pos} {es es' : List Entry} {a b : Run}

theorem singleton (fm : Nat) (nip : Pos) (e : Entry) : Spans fm nip [e] (foilInterval fm e) := by
  refine ⟨.refl _, List.pairwise_singleton _ _, ⟨e, List.mem_cons_self, rfl⟩, ⟨e, List.mem_cons_self, rfl⟩, fun x member => ?_⟩
  rw [List.mem_singleton.mp member]
  exact ⟨le_refl _, le_refl _⟩

section
variable (h : Spans fm nip es a) (near : ∀ e ∈ es, FoilNear fm nip e)
include h near

theorem nearStart : Near nip a.start := by
  obtain ⟨e, member, start⟩ := h.first
  exact start ▸ (near e member).start

theorem nearStop : Near nip a.stop := by
  obtain ⟨e, member, stop⟩ := h.last
  exact stop ▸ (near e member).stop

theorem ordered : dist nip a.start ≤ dist nip a.stop := by
  obtain ⟨e, member, -⟩ := h.first
  obtain ⟨start, stop⟩ := h.covers e member
  exact (start.trans (near e member).ordered).trans stop

end

theorem laterEnd_eq {p q : Pos} (nearP : Near nip p) (nearQ : Near nip q) :
    laterEnd p q = if dist nip p < dist nip q then q else p := by
  rw [laterEnd, dist_eq_sub nearP nearQ]
  refine if_congr ?_ rfl rfl
  omega

/-- Two runs joined span the entries of both, when the second does not begin before the first. -/
theorem join (h : Spans fm nip es a) (h' : Spans fm nip es' b) (near : ∀ e ∈ es, FoilNear fm nip e)
    (near' : ∀ e ∈ es', FoilNear fm nip e) (ahead : dist nip a.start ≤ dist nip b.start) :
    Spans fm nip (es ++ es') (joinRuns a b) := by
  have stop : (joinRuns a b).stop = if dist nip a.stop < dist nip b.stop then b.stop else a.stop :=
    laterEnd_eq (h.nearStop near) (h'.nearStop near')
  obtain ⟨e, member, start⟩ := h.first
  refine ⟨?_, joinRuns_sorted h.sorted, ⟨e, List.mem_append_left _ member, start⟩, ?_, fun x among => ?_⟩
  · rw [List.map_append]
    exact (joinRuns_lanes a b).trans (h.lanes.append h'.lanes)
  · obtain ⟨x, inFirst, xStop⟩ := h.last
    obtain ⟨y, inSecond, yStop⟩ := h'.last
    rw [stop]
    split
    · exact ⟨y, List.mem_append_right _ inSecond, yStop⟩
    · exact ⟨x, List.mem_append_left _ inFirst, xStop⟩
  · have startEq : (joinRuns a b).start = a.start := rfl
    have least : dist nip a.stop ≤ dist nip (joinRuns a b).stop ∧ dist nip b.stop ≤ dist nip (joinRuns a b).stop := by
      rw [stop]
      split
      · omega
      · omega
    rw [startEq]
    rcases List.mem_append.mp among with inFirst | inSecond
    · obtain ⟨begins, ends⟩ := h.covers x inFirst
      exact ⟨begins, ends.trans least.1⟩
    · obtain ⟨begins, ends⟩ := h'.covers x inSecond
      exact ⟨ahead.trans begins, ends.trans least.2⟩

end Spans

/-! ### The merge of R92 -/

/-- A merged run: each of its intervals is its first or nearer than Gmin to the end of an earlier one (R92). -/
structure Merged (fm gmin : Nat) (nip : Pos) (es : List Entry) (r : Run) : Prop extends Spans fm nip es r where
  reached : ∀ e ∈ es, e.foilStart fm = r.start ∨ ∃ x ∈ es, dist nip (x.foilStart fm) < dist nip (e.foilStart fm)
    ∧ dist (x.foilStop fm) (e.foilStart fm) < (gmin : Int)

theorem Merged.singleton (fm gmin : Nat) (nip : Pos) (e : Entry) : Merged fm gmin nip [e] (foilInterval fm e) where
  toSpans := .singleton fm nip e
  reached x member := .inl (by rw [List.mem_singleton.mp member]; rfl)

/-- An interval nearer than Gmin joins the open run (R92). -/
theorem Merged.join {fm gmin : Nat} {nip : Pos} {es : List Entry} {r : Run} {y : Entry} (h : Merged fm gmin nip es r)
    (near : ∀ e ∈ es, FoilNear fm nip e) (nearY : FoilNear fm nip y)
    (later : ∀ e ∈ es, dist nip (e.foilStart fm) ≤ dist nip (y.foilStart fm))
    (close : dist r.stop (y.foilStart fm) < (gmin : Int)) : Merged fm gmin nip (es ++ [y]) (joinRuns r (foilInterval fm y)) where
  toSpans := by
    obtain ⟨e, member, start⟩ := h.first
    refine h.toSpans.join (.singleton fm nip y) near (fun x single => ?_) ?_
    · rw [List.mem_singleton.mp single]
      exact nearY
    · rw [start]
      exact later e member
  reached e among := by
    have kept : ∀ e ∈ es, e.foilStart fm = r.start ∨ ∃ x ∈ es ++ [y], dist nip (x.foilStart fm) < dist nip (e.foilStart fm)
        ∧ dist (x.foilStop fm) (e.foilStart fm) < (gmin : Int) := fun e member =>
      (h.reached e member).imp_right fun ⟨x, inRun, before⟩ => ⟨x, List.mem_append_left _ inRun, before⟩
    rcases List.mem_append.mp among with member | single
    · exact kept e member
    · rw [List.mem_singleton.mp single]
      by_cases twin : ∃ x ∈ es, x.foilStart fm = y.foilStart fm
      · obtain ⟨x, inRun, same⟩ := twin
        rw [← same]
        exact kept x inRun
      · obtain ⟨x, inRun, stop⟩ := h.last
        refine .inr ⟨x, List.mem_append_left _ inRun, lt_of_le_of_ne (later x inRun) fun same => ?_, stop ▸ close⟩
        exact twin ⟨x, inRun, eq_of_dist_eq same⟩

/-- Neighbours at least Gmin apart. -/
def Apart (gmin : Nat) (a b : Run) : Prop := (gmin : Int) ≤ runGap a b

/-- What the merge of intervals in order makes: the runs of some parts of the entries, at least Gmin apart. -/
theorem mergeInto_parts {fm gmin : Nat} {nip : Pos} : ∀ {rest es : List Entry} {cur : Run}, Merged fm gmin nip es cur →
    (∀ e ∈ es ++ rest, FoilNear fm nip e) → rest.Pairwise (fun x y => dist nip (x.foilStart fm) ≤ dist nip (y.foilStart fm)) →
    (∀ e ∈ es, ∀ y ∈ rest, dist nip (e.foilStart fm) ≤ dist nip (y.foilStart fm)) →
    ∃ parts, parts.flatten = es ++ rest
      ∧ List.Forall₂ (Merged fm gmin nip) parts (mergeInto gmin cur (rest.map (foilInterval fm)))
      ∧ (mergeInto gmin cur (rest.map (foilInterval fm))).IsChain (Apart gmin)
      ∧ ∀ r ∈ (mergeInto gmin cur (rest.map (foilInterval fm))).head?, r.start = cur.start
  | [], es, cur, merged, _, _, _ => by
    refine ⟨[es], by simp, .cons merged .nil, .singleton _, fun r member => ?_⟩
    rw [← Option.some.inj member]
  | y :: rest, es, cur, merged, near, sorted, later => by
    obtain ⟨least, sorted⟩ := List.pairwise_cons.mp sorted
    rw [List.map_cons, mergeInto]
    split
    next close =>
      have joined : Merged fm gmin nip (es ++ [y]) (joinRuns cur (foilInterval fm y)) :=
        merged.join (fun e member => near e (List.mem_append_left _ member))
          (near y (List.mem_append_right _ List.mem_cons_self)) (fun e member => later e member y List.mem_cons_self) close
      have all : es ++ y :: rest = (es ++ [y]) ++ rest := by simp
      rw [all] at near ⊢
      refine mergeInto_parts joined near sorted fun e member z behind => ?_
      rcases List.mem_append.mp member with old | single
      · exact later e old z (List.mem_cons_of_mem _ behind)
      · rw [List.mem_singleton.mp single]
        exact least z behind
    next far =>
      obtain ⟨parts, flat, runs, chain, head⟩ := mergeInto_parts (Merged.singleton fm gmin nip y)
        (fun e member => near e (List.mem_append_right _ member)) sorted fun e member z behind => by
          rw [List.mem_singleton.mp member]
          exact least z behind
      refine ⟨es :: parts, by rw [List.flatten_cons, flat]; rfl, .cons merged runs, ?_, fun r member => ?_⟩
      · refine List.isChain_cons.mpr ⟨fun r member => ?_, chain⟩
        have start : r.start = y.foilStart fm := head r member
        rw [Apart, runGap, start]
        exact not_lt.mp far
      · rw [← Option.some.inj member]

end Sys2Proof.Machine

/-! ## The runs of a group fitted to their room (R91 to R93) -/

namespace Sys2Proof.Machine

/-! ### The intervals in their order (R91) -/

/-- Entries by the start of their foil intervals. -/
def FoilSorted (fm : Nat) (nip : Pos) (es : List Entry) : Prop :=
  es.Pairwise fun x y => dist nip (x.foilStart fm) ≤ dist nip (y.foilStart fm)

theorem insertRun_sorted (fm : Nat) (nip : Pos) (e : Entry) : ∀ {es : List Entry}, FoilSorted fm nip es →
    ∃ es', es'.Perm (e :: es) ∧ FoilSorted fm nip es'
      ∧ insertRun nip (foilInterval fm e) (es.map (foilInterval fm)) = es'.map (foilInterval fm)
  | [], _ => ⟨[e], .refl _, List.pairwise_singleton _ _, rfl⟩
  | x :: xs, sorted => by
    obtain ⟨least, rest⟩ := List.pairwise_cons.mp sorted
    rw [List.map_cons, insertRun]
    split
    next before =>
      refine ⟨e :: x :: xs, .refl _, List.pairwise_cons.mpr ⟨fun y member => ?_, sorted⟩, rfl⟩
      have first : dist nip (e.foilStart fm) < dist nip (x.foilStart fm) := before
      rcases List.mem_cons.mp member with rfl | behind
      · exact first.le
      · exact first.le.trans (least y behind)
    next after =>
      obtain ⟨es', perm, sorted', placed⟩ := insertRun_sorted fm nip e rest
      refine ⟨x :: es', (perm.cons x).trans (.swap e x xs), List.pairwise_cons.mpr ⟨fun y member => ?_, sorted'⟩, by rw [placed]; rfl⟩
      rcases List.mem_cons.mp (perm.subset member) with rfl | behind
      · exact not_lt.mp after
      · exact least y behind

theorem orderRuns_sorted (fm : Nat) (nip : Pos) (group : List Entry) : ∃ es, es.Perm group ∧ FoilSorted fm nip es
    ∧ orderRuns nip (group.map (foilInterval fm)) = es.map (foilInterval fm) := by
  have fold : ∀ (group es : List Entry), FoilSorted fm nip es → ∃ es', es'.Perm (es ++ group) ∧ FoilSorted fm nip es'
      ∧ (group.map (foilInterval fm)).foldl (fun acc r => insertRun nip r acc) (es.map (foilInterval fm)) =
          es'.map (foilInterval fm) := by
    intro group
    induction group with
    | nil => exact fun es sorted => ⟨es, by simp, sorted, rfl⟩
    | cons e group ih =>
      intro es sorted
      obtain ⟨es', perm, sorted', placed⟩ := insertRun_sorted fm nip e sorted
      obtain ⟨es'', perm', sorted'', rest⟩ := ih es' sorted'
      refine ⟨es'', perm'.trans ((perm.append_right group).trans List.perm_middle.symm), sorted'', ?_⟩
      rw [List.map_cons, List.foldl_cons, placed, rest]
  exact fold group [] .nil

/-- The runs of R92: of parts of the entries, at least Gmin apart. -/
theorem mergeRuns_parts {fm gmin : Nat} {nip : Pos} {group : List Entry} (near : ∀ e ∈ group, FoilNear fm nip e) :
    ∃ parts, parts.flatten.Perm group
      ∧ List.Forall₂ (Merged fm gmin nip) parts (mergeRuns gmin (orderRuns nip (group.map (foilInterval fm))))
      ∧ (mergeRuns gmin (orderRuns nip (group.map (foilInterval fm)))).IsChain (Apart gmin) := by
  obtain ⟨es, perm, sorted, ordered⟩ := orderRuns_sorted fm nip group
  rw [ordered]
  cases es with
  | nil => exact ⟨[], perm, .nil, .nil⟩
  | cons e es =>
    obtain ⟨least, rest⟩ := List.pairwise_cons.mp sorted
    obtain ⟨parts, flat, runs, chain, -⟩ := mergeInto_parts (Merged.singleton fm gmin nip e)
      (fun x member => near x (perm.subset member)) rest fun x member y behind => by
        rw [List.mem_singleton.mp member]
        exact least y behind
    exact ⟨parts, by rw [flat]; exact perm, runs, chain⟩

/-! ### Runs joined at their smallest gap (R93) -/

/-- Runs of parts of a group, at least Gmin apart. -/
structure RunsOf (fm gmin : Nat) (nip : Pos) (group : List Entry) (rs : List Run) : Prop where
  parts : ∃ parts, parts.flatten.Perm group ∧ List.Forall₂ (Spans fm nip) parts rs
  apart : rs.IsChain (Apart gmin)

section
variable {fm gmin : Nat} {nip : Pos}

/-- The end of two neighbours joined is that of the second. -/
theorem joinRuns_stop {es es' : List Entry} {a b : Run} (ha : Spans fm nip es a) (hb : Spans fm nip es' b)
    (near : ∀ e ∈ es, FoilNear fm nip e) (near' : ∀ e ∈ es', FoilNear fm nip e) (apart : Apart gmin a b) :
    (joinRuns a b).stop = b.stop ∧ dist nip a.start ≤ dist nip b.start := by
  have first := ha.ordered near
  have second := hb.ordered near'
  have gap : runGap a b = dist nip b.start - dist nip a.stop := dist_eq_sub (ha.nearStop near) (hb.nearStart near')
  rw [Apart, gap] at apart
  refine ⟨?_, by omega⟩
  have stop : (joinRuns a b).stop = if dist nip a.stop < dist nip b.stop then b.stop else a.stop :=
    Spans.laterEnd_eq (ha.nearStop near) (hb.nearStop near')
  rw [stop]
  split
  · rfl
  · exact eq_of_dist_eq (base := nip) (by omega)

theorem joinAtGap_parts (g : Int) :
    ∀ {rs : List Run} {parts : List (List Entry)}, List.Forall₂ (Spans fm nip) parts rs →
    (∀ e ∈ parts.flatten, FoilNear fm nip e) → rs.IsChain (Apart gmin) →
    (∃ parts', parts'.flatten = parts.flatten ∧ List.Forall₂ (Spans fm nip) parts' (joinAtGap g rs))
      ∧ (joinAtGap g rs).IsChain (Apart gmin) ∧ (joinAtGap g rs).head?.map (·.start) = rs.head?.map (·.start)
  | [], _, spans, _, chain => ⟨⟨_, rfl, spans⟩, chain, rfl⟩
  | [_], _, spans, _, chain => ⟨⟨_, rfl, spans⟩, chain, rfl⟩
  | a :: b :: rs, _, spans, near, chain => by
    obtain ⟨es, behind, ha, later, rfl⟩ := List.forall₂_cons_right_iff.mp spans
    obtain ⟨es', parts, hb, rest, rfl⟩ := List.forall₂_cons_right_iff.mp later
    obtain ⟨apart, chain⟩ := List.isChain_cons_cons.mp chain
    have nearA : ∀ e ∈ es, FoilNear fm nip e := fun e member => near e (by simp [member])
    have nearB : ∀ e ∈ es', FoilNear fm nip e := fun e member => near e (by simp [member])
    obtain ⟨stop, ahead⟩ := joinRuns_stop ha hb nearA nearB apart
    rw [joinAtGap]
    split
    · refine ⟨⟨(es ++ es') :: parts, by simp, .cons (ha.join hb nearA nearB ahead) rest⟩, ?_, rfl⟩
      obtain ⟨next, chain⟩ := List.isChain_cons.mp chain
      refine List.isChain_cons.mpr ⟨fun r member => ?_, chain⟩
      rw [Apart, runGap, stop]
      exact next r member
    · obtain ⟨⟨parts', flat, spans⟩, chain', head⟩ := joinAtGap_parts g (.cons hb rest)
        (fun e member => near e (List.mem_append_right _ member)) chain
      refine ⟨⟨es :: parts', by rw [List.flatten_cons, flat]; rfl, .cons ha spans⟩, ?_, rfl⟩
      refine List.isChain_cons.mpr ⟨fun r member => ?_, chain'⟩
      have start : r.start = b.start := by
        rw [Option.mem_def.mp member] at head
        exact Option.some.inj head
      rw [Apart, runGap, start]
      exact apart

theorem RunsOf.joinAtGap {group : List Entry} {rs : List Run} (near : ∀ e ∈ group, FoilNear fm nip e)
    (h : RunsOf fm gmin nip group rs) (g : Int) : RunsOf fm gmin nip group (joinAtGap g rs) := by
  obtain ⟨⟨parts, flat, spans⟩, apart⟩ := h
  obtain ⟨⟨parts', flat', spans'⟩, apart', -⟩ := joinAtGap_parts g spans (fun e member => near e (flat.subset member)) apart
  exact ⟨⟨parts', by rw [flat']; exact flat, spans'⟩, apart'⟩

theorem RunsOf.fitRoom {group : List Entry} (near : ∀ e ∈ group, FoilNear fm nip e) (room : Nat) :
    ∀ (n : Nat) {rs : List Run},
    RunsOf fm gmin nip group rs → RunsOf fm gmin nip group (fitRoom n room rs)
  | 0, _, h => h
  | n + 1, rs, h => by
    rw [Machine.fitRoom]
    split
    · exact h
    · split
      · exact h
      · exact fitRoom near room n (h.joinAtGap near _)

theorem RunsOf.covered {group : List Entry} {rs : List Run} (h : RunsOf fm gmin nip group rs)
    (near : ∀ e ∈ group, FoilNear fm nip e) : ∀ e ∈ group, ∃ r ∈ rs, e.lane ∈ r.lanes
      ∧ 0 ≤ dist r.start (e.foilStart fm) ∧ 0 ≤ dist (e.foilStop fm) r.stop := by
  obtain ⟨⟨parts, flat, spans⟩, -⟩ := h
  intro e member
  obtain ⟨es, part, inPart⟩ := List.mem_flatten.mp (flat.symm.subset member)
  have partNear : ∀ x ∈ es, FoilNear fm nip x := fun x inside =>
    near x (flat.subset (List.mem_flatten.mpr ⟨es, part, inside⟩))
  obtain ⟨r, run, span⟩ := exists_of_mem_forall₂ (R := flip (Spans fm nip))
    (List.Forall₂.flip (R := flip (Spans fm nip)) spans) part
  obtain ⟨begins, ends⟩ := span.covers e inPart
  have start := dist_eq_sub (span.nearStart partNear) (near e member).start
  have stop := dist_eq_sub (near e member).stop (span.nearStop partNear)
  exact ⟨r, run, span.lanes.symm.subset (List.mem_map_of_mem inPart), by omega, by omega⟩

theorem RunsOf.sorted {group : List Entry} {rs : List Run} (h : RunsOf fm gmin nip group rs) :
    ∀ r ∈ rs, r.lanes.Pairwise (· ≤ ·) := by
  obtain ⟨⟨parts, -, spans⟩, -⟩ := h
  intro r run
  obtain ⟨es, -, span⟩ := exists_of_mem_forall₂ spans run
  exact span.sorted

end

/-! ### One joining more -/

/-- The pair that is joined: the first one with the smallest gap (R93). -/
theorem joinAtGap_split {g : Int} : ∀ {rs : List Run}, smallestGap rs = some g → ∃ front a b back,
    rs = front ++ a :: b :: back ∧ joinAtGap g rs = front ++ joinRuns a b :: back ∧ runGap a b = g
      ∧ rs.IsChain (fun x y => g ≤ runGap x y) ∧ (front ++ [a]).IsChain fun x y => g < runGap x y
  | [], found => by cases found
  | [_], found => by cases found
  | [a, b], found => by
    have gap : runGap a b = g := Option.some.inj found
    refine ⟨[], a, b, [], rfl, if_pos gap, gap, ?_, .singleton _⟩
    exact List.isChain_cons_cons.mpr ⟨gap.ge, .singleton _⟩
  | a :: b :: c :: rs, found => by
    obtain ⟨k, inner⟩ := smallestGap_of_two b c rs
    rw [smallestGap, inner] at found
    have least : min (runGap a b) k = g := Option.some.inj found
    obtain ⟨front, x, y, back, list, joined, gap, all, before⟩ := joinAtGap_split inner
    have atLeast : (b :: c :: rs).IsChain fun x y => g ≤ runGap x y := all.imp fun x y far => by omega
    by_cases here : runGap a b = g
    · refine ⟨[], a, b, c :: rs, rfl, if_pos here, here, ?_, .singleton _⟩
      exact List.isChain_cons_cons.mpr ⟨here.ge, atLeast⟩
    · obtain rfl : k = g := by omega
      have nearer : k < runGap a b := by omega
      refine ⟨a :: front, x, y, back, by rw [list]; rfl, ?_, gap, List.isChain_cons_cons.mpr ⟨nearer.le, atLeast⟩, ?_⟩
      · rw [Machine.joinAtGap, if_neg here, joined]
        rfl
      · refine List.isChain_cons.mpr ⟨fun r member => ?_, before⟩
        have first : r = b := by
          cases front with
          | nil => exact (Option.some.inj member).symm.trans (List.cons.inj list).1.symm
          | cons z front => exact (Option.some.inj member).symm.trans (List.cons.inj list).1.symm
        rw [first]
        exact nearer

theorem fitRoom_of_le {n room : Nat} {rs : List Run} (fits : rs.length ≤ room) : fitRoom n room rs = rs := by
  cases n with
  | zero => rfl
  | succ n => exact if_pos fits

/-- Room for one run less takes one joining more (R93). -/
theorem fitRoom_once {room : Nat} (some' : 1 ≤ room) : ∀ (n : Nat) {rs : List Run}, room < rs.length →
    rs.length ≤ n + room → ∃ g, smallestGap (fitRoom n (room + 1) rs) = some g
      ∧ fitRoom n room rs = joinAtGap g (fitRoom n (room + 1) rs)
  | 0, _, many, few => by omega
  | n + 1, [], many, _ => by simp at many
  | n + 1, [_], many, _ => by simp at many; omega
  | n + 1, a :: b :: rs, many, few => by
    obtain ⟨g, found⟩ := smallestGap_of_two a b rs
    have shorter := length_joinAtGap found
    have step : fitRoom (n + 1) room (a :: b :: rs) = fitRoom n room (joinAtGap g (a :: b :: rs)) := by
      rw [fitRoom, if_neg (by omega), found]
    rw [step]
    by_cases last : (a :: b :: rs).length ≤ room + 1
    · rw [fitRoom_of_le last, fitRoom_of_le (by omega)]
      exact ⟨g, found, rfl⟩
    · have step' : fitRoom (n + 1) (room + 1) (a :: b :: rs) = fitRoom n (room + 1) (joinAtGap g (a :: b :: rs)) := by
        rw [fitRoom, if_neg last, found]
      rw [step']
      exact fitRoom_once some' n (by omega) (by omega)

/-! ### The statement -/

/-- Settles O16: the merge and the joinings keep the parts of the group, their spans and the gaps. -/
theorem foilRunsKeepTheGap : Obligations.FoilRunsKeepTheGap := by
  intro fw nip group margin gapRange ranges begins ends merged
  have near : ∀ e ∈ group, FoilNear fw.fm nip e := fun e member => by
    obtain ⟨length, low, high⟩ := ranges e member
    exact foilNear_of_ranges margin length low high
  obtain ⟨parts, flat, runsMerged, chain⟩ := mergeRuns_parts (gmin := fw.gmin) near
  let first := mergeRuns fw.gmin (orderRuns nip (group.map (foilInterval fw.fm)))
  have start : RunsOf fw.fm fw.gmin nip group first :=
    ⟨⟨parts, flat, runsMerged.imp fun _ _ h => h.toSpans⟩, chain⟩
  have few : first.length ≤ group.length := by
    have nonempty : ∀ es ∈ parts, 1 ≤ es.length := fun es part => by
      obtain ⟨r, -, h⟩ := exists_of_mem_forall₂ (R := flip (Merged fw.fm fw.gmin nip))
        (List.Forall₂.flip (R := flip (Merged fw.fm fw.gmin nip)) runsMerged) part
      obtain ⟨e, member, -⟩ := h.first
      exact List.length_pos_of_mem member
    have count : parts.length ≤ parts.flatten.length := by
      rw [List.length_flatten]
      have sums := List.card_nsmul_le_sum (parts.map List.length) 1 fun k member => by
        obtain ⟨es, part, rfl⟩ := List.mem_map.mp member
        exact nonempty es part
      simpa using sums
    rw [← runsMerged.length_eq, ← flat.length_eq]
    exact count
  have mergedEq : merged = first := fitRoom_of_le few
  rw [mergedEq]
  refine ⟨fun room some' => ?_, parts, flat, runsMerged.imp fun es r h => ?parts⟩
  case parts =>
    obtain ⟨e, member, isFirst⟩ := h.first
    obtain ⟨x, member', isLast⟩ := h.last
    exact ⟨h.lanes, ⟨e, member, isFirst⟩, ⟨x, member', isLast⟩, h.reached⟩
  · intro runs
    have fitted : RunsOf fw.fm fw.gmin nip group runs := RunsOf.fitRoom near room _ start
    refine ⟨length_groupRuns_le fw nip some' group, List.isChain_iff_getElem.mp fitted.apart,
      (groupRuns_hold fw nip room group).1, fitted.sorted, fitted.covered near, fun fits => fitRoom_of_le fits, fun many => ?_⟩
    obtain ⟨g, smallest, joined⟩ := fitRoom_once some' first.length many (by omega)
    obtain ⟨front, a, b, back, list, joinedList, gap, all, before⟩ := joinAtGap_split smallest
    refine ⟨front, back, a, b, joinRuns a b, list, joined.trans joinedList, rfl, rfl, joinRuns_lanes a b, fun i inside => ⟨?_, fun early => ?_⟩⟩
    · have least := List.isChain_iff_getElem.mp all i inside
      exact gap.le.trans least
    · have strict := List.isChain_iff_getElem.mp before i (by simpa using early)
      have place (k : Nat) (short : k ≤ front.length) (h : k < (groupRuns fw nip (room + 1) group).length)
          (h' : k < (front ++ [a]).length) : (groupRuns fw nip (room + 1) group)[k] = (front ++ [a])[k] := by
        have parts : groupRuns fw nip (room + 1) group = (front ++ [a]) ++ b :: back := list.trans (by simp)
        rw [List.getElem_of_eq parts, List.getElem_append_left h']
      have gapHere : dist a.stop b.start = g := gap
      rw [gapHere, place i early.le, place (i + 1) early]
      exact strict

end Sys2Proof.Machine

/-! ## The groups of a draft, web by web (R63, R93 to R97) -/

namespace Sys2Proof.Machine

/-! ### What a draft shows of a web -/

/-- An entry of a web's foil group, whether the group was refused or not (R63, R94). -/
def Entry.groupOf (f : Fin 4) (e : Entry) : Bool :=
  e.web == some f && e.kind.isFoil && (e.outcome.isNone || e.outcome == some (.suppressed .foilOut))

theorem Entry.groupOf_web {f : Fin 4} {e : Entry} (h : e.groupOf f = true) : e.web = some f := by
  simp only [Entry.groupOf, Bool.and_eq_true, beq_iff_eq] at h
  exact h.1.1

namespace Draft
variable (s : State) (nip : Pos) (d : Draft) (f : Fin 4)

/-- The group of a web. -/
def groupAt : List Entry := d.entries.filter (Entry.groupOf f)

/-- The room of a web's group: what the lower webs' moves and the groups of the higher webs leave of four moves (R93). -/
def roomAt : Nat := 4 - (d.moves.filter fun m => decide (m.web < f)).length
  - (webs4.filter fun g => decide (f < g) && !(d.groupAt g).isEmpty).length

/-- The runs of a web's group (R91 to R93). -/
def runsAt : List Run := groupRuns (s.webEntry f) nip (d.roomAt f) (d.groupAt f)

/-- The foil that a web's group needs (R94). -/
def needAt : Nat := needOf (d.runsAt s nip f)

/-- The group is reserved whole (R94). -/
def ReservesAt : Prop := d.groupAt f ≠ [] ∧ d.needAt s nip f ≤ s.foil[f].available

/-- The group is refused whole (R94). -/
def RefusesAt : Prop := d.groupAt f ≠ [] ∧ s.foil[f].available < d.needAt s nip f

/-- The reservation sets the low flag (R96). -/
def LowersAt : Prop := d.ReservesAt s nip f ∧ s.foil[f].low = false
  ∧ s.foil[f].available - d.needAt s nip f < (s.webEntry f).low

/-- A move of the web serves an entry (R95). -/
def ServesAt (e : Entry) : Prop := ∃ (i : Nat) (m : Move), e.move = some i ∧ d.moves[i]? = some m ∧ m.web = f
  ∧ e.lane ∈ m.lanes ∧ m.st = .unsent ∧ m.reserved = m.length ∧ m.chain = false

end Draft

/-- The account of a web whose group was reserved (R94, R96, R97). -/
def FoilAccount.planned (a : FoilAccount) (need low lr : Nat) : FoilAccount :=
  { remaining := a.remaining, reserved := a.reserved + need, low := a.low || decide (a.available - need < low)
    saved := min 4294967295 (a.saved + (lr - need)) }

/-- A web whose group has been built. -/
structure Draft.WebDone (s : State) (nip : Pos) (d : Draft) (f : Fin 4) : Prop where
  reserved : d.ReservesAt s nip f → (∀ e ∈ d.groupAt f, e.outcome = none ∧ d.ServesAt f e)
    ∧ d.moves.filter (·.web == f) = (d.runsAt s nip f).map (Run.toMove f (s.webEntry f))
    ∧ d.s.foil[f] = s.foil[f].planned (d.needAt s nip f) (s.webEntry f).low s.active.job.lr
  refused : d.RefusesAt s nip f → ∀ e ∈ d.groupAt f, e.outcome = some (.suppressed .foilOut)
  untouched : ¬d.ReservesAt s nip f → d.moves.filter (·.web == f) = [] ∧ d.s.foil[f] = s.foil[f]

/-! ### One group built -/

/-- Entries changed one by one in their setpoint, their move and their outcome, those of one web's group alone. -/
structure Regrouped (f : Fin 4) (g : Entry → Entry) : Prop where
  kept : ∀ e, g e = { e with phs := (g e).phs, move := (g e).move, outcome := (g e).outcome }
  apart : ∀ e, e.inGroup f = false → g e = e
  group : ∀ e k, (g e).groupOf k = e.groupOf k

theorem regrouped_id (f : Fin 4) : Regrouped f id := ⟨fun _ => rfl, fun _ _ => rfl, fun _ _ => rfl⟩

theorem refuseGroup_of_inGroup {f : Fin 4} {e : Entry} (inGroup : e.inGroup f = true) :
    refuseGroup f e = e.decide (.suppressed .foilOut) := if_pos inGroup

theorem refuseGroup_apart {f : Fin 4} {e : Entry} (out : e.inGroup f = false) : refuseGroup f e = e := by
  rw [refuseGroup, out]
  rfl

theorem assignMoves_of_inGroup {f : Fin 4} {e : Entry} (inGroup : e.inGroup f = true) (base : Nat) (rs : List Run) :
    assignMoves f base rs e = { e with move := (runIndex rs e.lane).map (base + ·) } := if_pos inGroup

theorem assignMoves_apart {f : Fin 4} {e : Entry} (out : e.inGroup f = false) (base : Nat) (rs : List Run) :
    assignMoves f base rs e = e := by
  rw [assignMoves, out]
  rfl

theorem Entry.outcome_of_inGroup {f : Fin 4} {e : Entry} (inGroup : e.inGroup f = true) : e.outcome = none := by
  simp only [Entry.inGroup, Entry.undecided, Bool.and_eq_true] at inGroup
  exact Option.isNone_iff_eq_none.mp inGroup.1.1

theorem regrouped_refuseGroup (f : Fin 4) : Regrouped f (refuseGroup f) where
  kept e := by
    unfold refuseGroup
    split <;> rfl
  apart _ := refuseGroup_apart
  group e k := by
    cases inGroup : e.inGroup f with
    | false => rw [refuseGroup_apart inGroup]
    | true =>
      rw [refuseGroup_of_inGroup inGroup]
      simp [Entry.groupOf, Entry.decide, Entry.outcome_of_inGroup inGroup]

theorem regrouped_assignMoves (f : Fin 4) (base : Nat) (rs : List Run) : Regrouped f (assignMoves f base rs) where
  kept e := by
    unfold assignMoves
    split <;> rfl
  apart _ out := assignMoves_apart out base rs
  group e k := by
    unfold assignMoves
    split <;> rfl

/-- The building of one web's group. -/
structure GroupStep (f : Fin 4) (d d' : Draft) : Prop where
  entries : ∃ g, Regrouped f g ∧ d'.entries = d.entries.map g
  moves : ∃ ms : List Move, d'.moves = d.moves ++ ms ∧ ∀ m ∈ ms, m.web = f
  foil : ∀ k : Fin 4, k ≠ f → d'.s.foil[k] = d.s.foil[k]
  jobs : d'.s.jobs = d.s.jobs

theorem reserveFoil_other (s : State) {f g : Fin 4} (other : g ≠ f) (need : Nat) :
    (s.reserveFoil f need).foil[g] = s.foil[g] := by
  unfold State.reserveFoil
  rw [modFoil_other _ _ other.symm, lowTest_other _ other.symm, modFoil_other _ _ other.symm]

theorem reserveFoil_jobs (s : State) (f : Fin 4) (need : Nat) : (s.reserveFoil f need).jobs = s.jobs := by
  have low : ((s.modFoil f fun a => a.reserve need).lowTest f).jobs = s.jobs := by
    rw [lowTest_rest]
    rfl
  exact low

theorem group_step (nip : Pos) (f : Fin 4) (later : List (Fin 4)) (d : Draft) :
    GroupStep f d (d.group nip f later) := by
  have noMoves : ∃ ms : List Move, d.moves = d.moves ++ ms ∧ ∀ m ∈ ms, m.web = f :=
    ⟨[], (List.append_nil _).symm, fun _ none => by cases none⟩
  unfold Draft.group
  simp only
  split
  · exact ⟨⟨id, regrouped_id f, (List.map_id _).symm⟩, noMoves, fun _ _ => rfl, rfl⟩
  · split
    · exact ⟨⟨_, regrouped_refuseGroup f, rfl⟩, noMoves, fun _ _ => rfl, rfl⟩
    · refine ⟨⟨_, regrouped_assignMoves f _ _, rfl⟩, ⟨_, rfl, fun m member => ?_⟩, fun k other => reserveFoil_other _ other _,
        reserveFoil_jobs ..⟩
      obtain ⟨r, -, rfl⟩ := List.mem_map.mp member
      rfl

/-! ### What the building of a group leaves of the other webs -/

namespace GroupStep
variable {f k : Fin 4} {d d' : Draft} (h : GroupStep f d d') {s : State} {nip : Pos}
include h

/-- The group of any web after the building of one. -/
theorem groupAt_map : ∃ g, Regrouped f g ∧ d'.entries = d.entries.map g ∧ ∀ k, d'.groupAt k = (d.groupAt k).map g := by
  obtain ⟨g, regrouped, entries⟩ := h.entries
  refine ⟨g, regrouped, entries, fun k => ?_⟩
  have same : Entry.groupOf k ∘ g = Entry.groupOf k := funext fun e => regrouped.group e k
  rw [Draft.groupAt, entries, List.filter_map, same]
  rfl

theorem groupAt_isEmpty (k : Fin 4) : (d'.groupAt k).isEmpty = (d.groupAt k).isEmpty := by
  obtain ⟨g, -, -, groups⟩ := h.groupAt_map
  rw [groups, List.isEmpty_map]

theorem groupAt_other (other : k ≠ f) : d'.groupAt k = d.groupAt k := by
  obtain ⟨g, regrouped, -, groups⟩ := h.groupAt_map
  rw [groups]
  have same : ∀ e ∈ d.groupAt k, g e = e := fun e member => regrouped.apart e <| by
    have web := Entry.groupOf_web (List.mem_filter.mp member).2
    exact Entry.inGroup_other web other.symm
  exact (List.map_congr_left same).trans (List.map_id _)

theorem filter_away {test : Move → Bool} (away : ∀ m : Move, m.web = f → test m = false) :
    d'.moves.filter test = d.moves.filter test := by
  obtain ⟨ms, moves, webs⟩ := h.moves
  have none : ms.filter test = [] := List.filter_eq_nil_iff.mpr fun m member => by simp [away m (webs m member)]
  rw [moves, List.filter_append, none, List.append_nil]

section
variable (lower : k < f)
include lower

theorem roomAt_lower : d'.roomAt k = d.roomAt k := by
  have groups : (fun g : Fin 4 => decide (k < g) && !(d'.groupAt g).isEmpty) =
      fun g => decide (k < g) && !(d.groupAt g).isEmpty := funext fun g => by rw [h.groupAt_isEmpty]
  rw [Draft.roomAt, Draft.roomAt, groups, h.filter_away fun m web => ?_]
  rw [web]
  exact decide_eq_false (not_lt.mpr lower.le)

theorem runsAt_lower : d'.runsAt s nip k = d.runsAt s nip k := by
  rw [Draft.runsAt, Draft.runsAt, h.roomAt_lower lower, h.groupAt_other lower.ne]

theorem needAt_lower : d'.needAt s nip k = d.needAt s nip k := by
  rw [Draft.needAt, Draft.needAt, h.runsAt_lower lower]

theorem reservesAt_lower : d'.ReservesAt s nip k ↔ d.ReservesAt s nip k := by
  rw [Draft.ReservesAt, Draft.ReservesAt, h.groupAt_other lower.ne, h.needAt_lower lower]

theorem refusesAt_lower : d'.RefusesAt s nip k ↔ d.RefusesAt s nip k := by
  rw [Draft.RefusesAt, Draft.RefusesAt, h.groupAt_other lower.ne, h.needAt_lower lower]

theorem lowersAt_lower : d'.LowersAt s nip k ↔ d.LowersAt s nip k := by
  rw [Draft.LowersAt, Draft.LowersAt, h.reservesAt_lower lower, h.needAt_lower lower]

theorem webDone (done : d.WebDone s nip k) : d'.WebDone s nip k := by
  have moves : d'.moves.filter (·.web == k) = d.moves.filter (·.web == k) :=
    h.filter_away fun m web => by simpa [web] using lower.ne'
  refine ⟨fun reserves => ?_, fun refuses => ?_, fun not => ?_⟩
  · obtain ⟨served, filter, foil⟩ := done.reserved ((h.reservesAt_lower lower).mp reserves)
    rw [h.groupAt_other lower.ne, moves, h.runsAt_lower lower, h.needAt_lower lower, h.foil k lower.ne]
    refine ⟨fun e member => ?_, filter, foil⟩
    obtain ⟨undecided, i, m, own, place, rest⟩ := served e member
    obtain ⟨ms, appended, -⟩ := h.moves
    refine ⟨undecided, i, m, own, ?_, rest⟩
    rw [appended, List.getElem?_append_left (List.getElem?_eq_some_iff.mp place).1, place]
  · rw [h.groupAt_other lower.ne]
    exact done.refused ((h.refusesAt_lower lower).mp refuses)
  · rw [moves, h.foil k lower.ne]
    exact done.untouched fun reserves => not ((h.reservesAt_lower lower).mpr reserves)

end

end GroupStep

end Sys2Proof.Machine

/-! ## The draft of a plan: every group built (R63, R93 to R97) -/

namespace Sys2Proof.Machine

/-! ### Events raised along a list -/

/-- An event raised for some members: it is pending with one of them, and stands as it stood where there is none. -/
def ToldOf {n : Nat} (s t : State) (k : Fin 18) (which : Fin n → Prop) : Prop :=
  ((∃ f, which f) → ∃ f, which f ∧ (t.cell k).Shows (BitVec.ofNat 32 f.val)) ∧ ((∀ f, ¬which f) → t.cell k = s.cell k)

namespace ToldOf
variable {n : Nat} {s t u : State} {k : Fin 18} {which which' : Fin n → Prop}

theorem none (s : State) (k : Fin 18) {which : Fin n → Prop} (never : ∀ f, ¬which f) : ToldOf s s k which :=
  ⟨fun ⟨f, some'⟩ => absurd some' (never f), fun _ => rfl⟩

theorem same (h : ToldOf s t k which) (cell : u.cell k = t.cell k) (alike : ∀ f, which' f ↔ which f) :
    ToldOf s u k which' := by
  obtain ⟨told, untold⟩ := h
  rw [ToldOf, cell]
  simp only [alike]
  exact ⟨told, untold⟩

theorem raised {f : Fin n} (own : which f) (shows : (t.cell k).Shows (BitVec.ofNat 32 f.val)) : ToldOf s t k which :=
  ⟨fun _ => ⟨f, own, shows⟩, fun never => absurd own (never f)⟩

end ToldOf

/-! ### A group reserved -/

theorem reserveFoil_account (s : State) (f : Fin 4) (need : Nat) : (s.reserveFoil f need).foil[f] =
    s.foil[f].planned need (s.webEntry f).low s.active.job.lr := by
  have reserved : (s.modFoil f fun a => a.reserve need).foil[f] = s.foil[f].reserve need :=
    State.modFoil_foil_same s f fun a => a.reserve need
  have web : (s.modFoil f fun a => a.reserve need).webEntry f = s.webEntry f := rfl
  have low := lowTest_low (s.modFoil f fun a => a.reserve need) f
  obtain ⟨res, rem⟩ := lowTest_foil (s.modFoil f fun a => a.reserve need) f f
  have saved := lowTest_saved (s.modFoil f fun a => a.reserve need) f
  rw [reserved] at low res rem saved
  rw [web] at low
  have account : (s.reserveFoil f need).foil[f] =
      (((s.modFoil f fun a => a.reserve need).lowTest f).foil[f]).save s.active.job.lr need :=
    State.modFoil_foil_same _ f fun a => a.save s.active.job.lr need
  have available : (s.foil[f].reserve need).available = s.foil[f].available - need := by
    simp only [FoilAccount.available, FoilAccount.reserve]
    omega
  rw [account, FoilAccount.save, FoilAccount.planned, low, res, rem, saved, available]
  have flag : (if s.foil[f].available - need < (s.webEntry f).low then true else (s.foil[f].reserve need).low) =
      (s.foil[f].low || decide (s.foil[f].available - need < (s.webEntry f).low)) := by
    have same : (s.foil[f].reserve need).low = s.foil[f].low := rfl
    rw [same]
    by_cases under : s.foil[f].available - need < (s.webEntry f).low
    · rw [if_pos under, decide_eq_true under, Bool.or_true]
    · rw [if_neg under, decide_eq_false under, Bool.or_false]
  rw [flag]
  rfl

theorem reserveFoil_attention (s : State) (f : Fin 4) (need : Nat) : (s.reserveFoil f need).attention =
    if s.foil[f].available - need < (s.webEntry f).low ∧ s.foil[f].low = false then
      (s.raise 8 (BitVec.ofNat 32 f.val)).attention else s.attention := by
  have reserved : (s.modFoil f fun a => a.reserve need).foil[f] = s.foil[f].reserve need :=
    State.modFoil_foil_same s f fun a => a.reserve need
  have available : (s.foil[f].reserve need).available = s.foil[f].available - need := by
    simp only [FoilAccount.available, FoilAccount.reserve]
    omega
  have tested := lowTest_attention (s.modFoil f fun a => a.reserve need) f
  rw [reserved, available] at tested
  exact tested

/-! ### The draft while groups are still to be built -/

/-- The draft when the webs of a list are still to be built. -/
structure DraftAt (s : State) (nip : Pos) (fs : List (Fin 4)) (d : Draft) : Prop where
  jobs : d.s.jobs = s.jobs
  foil : ∀ g ∈ fs, d.s.foil[g] = s.foil[g]
  fresh : ∀ g ∈ fs, ∀ e ∈ d.entries, e.web = some g → e.outcome ≠ some (.suppressed .foilOut)
  behind : ∀ m ∈ d.moves, m.web ∉ fs
  done : ∀ f ∉ fs, d.WebDone s nip f
  out : ToldOf s d.s 4 fun f => f ∉ fs ∧ d.RefusesAt s nip f
  low : ToldOf s d.s 8 fun f => f ∉ fs ∧ d.LowersAt s nip f

theorem groupAt_fresh {s : State} {nip : Pos} {fs : List (Fin 4)} {d : Draft} (h : DraftAt s nip fs d) {g : Fin 4}
    (toBuild : g ∈ fs) : d.groupAt g = d.entries.filter (Entry.inGroup g) := by
  refine List.filter_congr fun e member => ?_
  by_cases web : e.web = some g
  · have survives := h.fresh g toBuild e member web
    rw [Entry.groupOf, Entry.inGroup, Entry.undecided, beq_eq_false_iff_ne.mpr survives, Bool.or_false]
    cases e.outcome.isNone <;> cases e.kind.isFoil <;> simp
  · have apart : (e.web == some g) = false := beq_eq_false_iff_ne.mpr web
    rw [Entry.groupOf, Entry.inGroup, apart, Bool.false_and, Bool.false_and, Bool.and_false]

theorem not_isEmpty_filter {α : Type} (test : α → Bool) (l : List α) : (!(l.filter test).isEmpty) = l.any test := by
  rw [Bool.eq_iff_iff, Bool.not_eq_true', ← Bool.not_eq_true, List.isEmpty_iff, List.filter_eq_nil_iff, List.any_eq_true]
  simp

/-- The runs of a group do not read what the building of groups changes. -/
theorem groupRuns_map {f : Fin 4} {g : Entry → Entry} (regrouped : Regrouped f g) (fw : FoilWeb) (nip : Pos)
    (room : Nat)
    (es : List Entry) : groupRuns fw nip room (es.map g) = groupRuns fw nip room es := by
  have interval (e : Entry) : foilInterval fw.fm (g e) = foilInterval fw.fm e := by
    rw [regrouped.kept e]
    rfl
  have same : foilInterval fw.fm ∘ g = foilInterval fw.fm := funext interval
  unfold groupRuns
  rw [List.map_map, same]

section
variable {s : State} {nip : Pos} {f : Fin 4} {later : List (Fin 4)} {d : Draft} (h : DraftAt s nip (f :: later) d)
  (higher : later = webs4.filter fun g => decide (f < g))

/-- The room that the building of a group computes (R93). -/
def Draft.roomFor (d : Draft) (later : List (Fin 4)) : Nat := 4 - d.moves.length - laterGroups d.entries later

/-- The runs that the building of a group computes (R91 to R93). -/
def Draft.runsFor (d : Draft) (nip : Pos) (f : Fin 4) (later : List (Fin 4)) : List Run :=
  groupRuns (d.s.webEntry f) nip (d.roomFor later) (d.entries.filter (Entry.inGroup f))

/-- The three ways of a group: there is none, it is refused, it is reserved (R63, R94). -/
theorem group_cases (nip : Pos) (f : Fin 4) (later : List (Fin 4)) (d : Draft) :
    let group := d.entries.filter (Entry.inGroup f)
    let runs := d.runsFor nip f later
    (group = [] ∧ d.group nip f later = d)
      ∨ (group ≠ [] ∧ d.s.foil[f].available < needOf runs ∧ d.group nip f later =
          { d with s := d.s.raise 4 (BitVec.ofNat 32 f.val), entries := d.entries.map (refuseGroup f) })
      ∨ (group ≠ [] ∧ needOf runs ≤ d.s.foil[f].available ∧ d.group nip f later =
          { s := d.s.reserveFoil f (needOf runs), entries := d.entries.map (assignMoves f d.moves.length runs)
            moves := d.moves ++ runs.map (Run.toMove f (d.s.webEntry f)) }) := by
  intro group runs
  unfold Draft.group
  by_cases none : group = []
  · exact .inl ⟨none, if_pos (by rw [List.isEmpty_iff]; exact none)⟩
  · have some' : ¬group.isEmpty = true := by rwa [List.isEmpty_iff]
    by_cases short : d.s.foil[f].available < needOf runs
    · exact .inr (.inl ⟨none, short, (if_neg some').trans (if_pos short)⟩)
    · exact .inr (.inr ⟨none, not_lt.mp short, (if_neg some').trans (if_neg short)⟩)

include higher

theorem mem_later {g : Fin 4} : g ∈ later ↔ f < g := by
  have all : ∀ g : Fin 4, g ∈ webs4 := by decide
  simp [higher, all]

theorem built_iff {g : Fin 4} : g ∉ f :: later ↔ g < f := by
  rw [List.mem_cons, mem_later higher, not_or]
  omega

include h

/-- What the draft shows of a web whose group has been built is what the building computed. -/
theorem runsAt_built : (d.group nip f later).runsAt s nip f = d.runsFor nip f later := by
  have step := group_step nip f later d
  obtain ⟨g, regrouped, -, groups⟩ := step.groupAt_map
  have room : (d.group nip f later).roomAt f = d.roomFor later := by
    have lower : (d.group nip f later).moves.filter (fun m => decide (m.web < f)) = d.moves := by
      rw [step.filter_away fun m web => decide_eq_false (by rw [web]; exact lt_irrefl f)]
      exact List.filter_eq_self.mpr fun m member => decide_eq_true ((built_iff higher).mp (h.behind m member))
    have counts : (webs4.filter fun g => decide (f < g) && !((d.group nip f later).groupAt g).isEmpty).length =
        laterGroups d.entries later := by
      have both : (webs4.filter fun g => decide (f < g) && !((d.group nip f later).groupAt g).isEmpty) =
          later.filter fun g => !((d.group nip f later).groupAt g).isEmpty := by
        rw [higher, List.filter_filter]
        exact List.filter_congr fun g _ => Bool.and_comm ..
      rw [both, laterGroups]
      refine congrArg List.length (List.filter_congr fun k member => ?_)
      rw [step.groupAt_isEmpty, groupAt_fresh h (List.mem_cons_of_mem _ member)]
      exact not_isEmpty_filter ..
    rw [Draft.roomAt, Draft.roomFor, lower, counts]
  have web : d.s.webEntry f = s.webEntry f := by
    unfold State.webEntry State.active
    rw [h.jobs]
  rw [Draft.runsAt, Draft.runsFor, room, groups, groupRuns_map regrouped, groupAt_fresh h List.mem_cons_self, web]

theorem needAt_built : (d.group nip f later).needAt s nip f = needOf (d.runsFor nip f later) := by
  rw [Draft.needAt, runsAt_built h higher]

omit higher in
theorem groupAt_built_ne_nil : (d.group nip f later).groupAt f ≠ [] ↔ d.entries.filter (Entry.inGroup f) ≠ [] := by
  have same := (group_step nip f later d).groupAt_isEmpty f
  rw [groupAt_fresh h List.mem_cons_self] at same
  rw [ne_eq, ne_eq, ← List.isEmpty_iff, ← List.isEmpty_iff, same]

theorem reservesAt_built : (d.group nip f later).ReservesAt s nip f ↔
    d.entries.filter (Entry.inGroup f) ≠ [] ∧ needOf (d.runsFor nip f later) ≤ d.s.foil[f].available := by
  rw [Draft.ReservesAt, groupAt_built_ne_nil h, needAt_built h higher, h.foil f List.mem_cons_self]

theorem refusesAt_built : (d.group nip f later).RefusesAt s nip f ↔
    d.entries.filter (Entry.inGroup f) ≠ [] ∧ d.s.foil[f].available < needOf (d.runsFor nip f later) := by
  rw [Draft.RefusesAt, groupAt_built_ne_nil h, needAt_built h higher, h.foil f List.mem_cons_self]

omit higher in
theorem noMoves_before : d.moves.filter (·.web == f) = [] :=
  List.filter_eq_nil_iff.mpr fun m member => by
    simpa using fun same : m.web = f => h.behind m member (same ▸ List.mem_cons_self)

omit higher in
/-- An entry of a group that has been built, as it stood before. -/
theorem mem_groupAt_built {g : Entry → Entry} (regrouped : Regrouped f g)
    (entries : (d.group nip f later).entries = d.entries.map g) {e : Entry} (member : e ∈ (d.group nip f later).groupAt f) :
    ∃ x ∈ d.entries, x.inGroup f = true ∧ e = g x := by
  rw [Draft.groupAt, entries] at member
  obtain ⟨mapped, inGroup⟩ := List.mem_filter.mp member
  obtain ⟨x, old, rfl⟩ := List.mem_map.mp mapped
  rw [regrouped.group] at inGroup
  have among : x ∈ d.groupAt f := List.mem_filter.mpr ⟨old, inGroup⟩
  rw [groupAt_fresh h List.mem_cons_self] at among
  exact ⟨x, old, (List.mem_filter.mp among).2, rfl⟩

theorem webDone_built : (d.group nip f later).WebDone s nip f := by
  have foil := h.foil f List.mem_cons_self
  have noMoves := noMoves_before h
  have active : d.s.active = s.active := by rw [State.active, h.jobs, State.active]
  have web : d.s.webEntry f = s.webEntry f := by rw [State.webEntry, active, State.webEntry]
  rcases group_cases nip f later d with ⟨none, stays⟩ | ⟨some', short, refused⟩ | ⟨some', enough, reserved⟩
  · have never := mt (reservesAt_built h higher).mp fun both => both.1 none
    refine ⟨fun reserves => absurd reserves never, fun refuses => ?_, fun _ => ?_⟩
    · exact absurd none ((refusesAt_built h higher).mp refuses).1
    · rw [stays]
      exact ⟨noMoves, foil⟩
  · have never := mt (reservesAt_built h higher).mp fun both => absurd short (not_lt.mpr both.2)
    refine ⟨fun reserves => absurd reserves never, fun _ e member => ?_, fun _ => ?_⟩
    · obtain ⟨x, -, inGroup, rfl⟩ := mem_groupAt_built h (regrouped_refuseGroup f) (congrArg Draft.entries refused) member
      rw [refuseGroup_of_inGroup inGroup]
      rfl
    · rw [refused]
      exact ⟨noMoves, foil⟩
  · have reserves := (reservesAt_built h higher).mpr ⟨some', enough⟩
    have moves : (d.group nip f later).moves = d.moves ++ (d.runsFor nip f later).map (Run.toMove f (s.webEntry f)) := by
      rw [reserved, web]
    refine ⟨fun _ => ⟨fun e member => ?_, ?_, ?_⟩, fun refuses => ?_, fun not => absurd reserves not⟩
    · obtain ⟨x, old, inGroup, rfl⟩ := mem_groupAt_built h (regrouped_assignMoves f _ _) (congrArg Draft.entries reserved) member
      rw [assignMoves_of_inGroup inGroup]
      have lanes := (groupRuns_hold (d.s.webEntry f) nip (d.roomFor later) (d.entries.filter (Entry.inGroup f))).1
      have held : x.lane ∈ (d.runsFor nip f later).flatMap (·.lanes) :=
        lanes.symm.subset (List.mem_map_of_mem (List.mem_filter.mpr ⟨old, inGroup⟩))
      obtain ⟨r, run, own⟩ := List.mem_flatMap.mp held
      obtain ⟨i, index⟩ : ∃ i, runIndex (d.runsFor nip f later) x.lane = some i :=
        Option.isSome_iff_exists.mp (by
          rw [runIndex, List.findIdx?_isSome, List.any_eq_true]
          exact ⟨r, run, by simpa using own⟩)
      obtain ⟨inside, holds, -⟩ := List.findIdx?_eq_some_iff_getElem.mp index
      refine ⟨Entry.outcome_of_inGroup inGroup, d.moves.length + i, (d.runsFor nip f later)[i].toMove f (s.webEntry f),
        by rw [index]; rfl, ?_, rfl, ?_, rfl, rfl, rfl⟩
      · rw [moves, List.getElem?_append_right (Nat.le_add_right ..), Nat.add_sub_cancel_left, List.getElem?_map,
          List.getElem?_eq_getElem inside]
        rfl
      · have inRun : x.lane ∈ (d.runsFor nip f later)[i].lanes := by simpa using holds
        exact inRun
    · rw [moves, List.filter_append, noMoves, runsAt_built h higher, List.nil_append]
      refine List.filter_eq_self.mpr fun m member => ?_
      obtain ⟨r, -, rfl⟩ := List.mem_map.mp member
      exact beq_self_eq_true f
    · rw [needAt_built h higher, ← foil, ← web, ← active, ← reserveFoil_account]
      rw [reserved]
    · exact absurd enough (not_le.mpr ((refusesAt_built h higher).mp refuses).2)

/-- One group more is built (R63, R94). -/
theorem DraftAt.group : DraftAt s nip later (d.group nip f later) := by
  have step := group_step nip f later d
  have built : f ∉ later := fun member => absurd ((mem_later higher).mp member) (lt_irrefl f)
  have passed {g : Fin 4} (away : g ∉ later) : g = f ∨ g < f := by
    rw [mem_later higher] at away
    omega
  have before {g : Fin 4} (lower : g < f) : g ∉ f :: later := (built_iff higher).mpr lower
  have active : d.s.active = s.active := by rw [State.active, h.jobs, State.active]
  have web : d.s.webEntry f = s.webEntry f := by rw [State.webEntry, active, State.webEntry]
  have foil := h.foil f List.mem_cons_self
  refine ⟨step.jobs.trans h.jobs, fun g toBuild => ?foil, fun g toBuild e member own => ?fresh, fun m member => ?behind,
    fun g away => ?done, ?out, ?low⟩
  case foil =>
    have other : g ≠ f := fun same => built (same ▸ toBuild)
    exact (step.foil g other).trans (h.foil g (List.mem_cons_of_mem _ toBuild))
  case fresh =>
    have other : g ≠ f := fun same => built (same ▸ toBuild)
    obtain ⟨φ, regrouped, entries⟩ := step.entries
    rw [entries] at member
    obtain ⟨x, old, rfl⟩ := List.mem_map.mp member
    rw [regrouped.kept x] at own
    have same : φ x = x := regrouped.apart x (Entry.inGroup_other own other.symm)
    rw [same]
    exact h.fresh g (List.mem_cons_of_mem _ toBuild) x old own
  case behind =>
    obtain ⟨ms, moves, webs⟩ := step.moves
    rw [moves] at member
    rcases List.mem_append.mp member with old | new
    · exact fun there => h.behind m old (List.mem_cons_of_mem _ there)
    · rw [webs m new]
      exact built
  case done =>
    rcases passed away with rfl | lower
    · exact webDone_built h higher
    · exact step.webDone lower (h.done g (before lower))
  case out =>
    have lower {g : Fin 4} (here : g < f) : (d.group nip f later).RefusesAt s nip g ↔ d.RefusesAt s nip g :=
      step.refusesAt_lower here
    have unrefused (never : ¬(d.group nip f later).RefusesAt s nip f) (cell : (d.group nip f later).s.cell 4 = d.s.cell 4) :
        ToldOf s (d.group nip f later).s 4 fun g => g ∉ later ∧ (d.group nip f later).RefusesAt s nip g := by
      refine h.out.same cell fun g => ⟨fun ⟨away, refuses⟩ => ?_, fun ⟨away, refuses⟩ => ?_⟩
      · rcases passed away with rfl | here
        · exact absurd refuses never
        · exact ⟨before here, (lower here).mp refuses⟩
      · have here := (built_iff higher).mp away
        exact ⟨fun there => away (List.mem_cons_of_mem _ there), (lower here).mpr refuses⟩
    rcases group_cases nip f later d with ⟨none, stays⟩ | ⟨some', short, refused⟩ | ⟨some', enough, reserved⟩
    · refine unrefused (fun refuses => ((refusesAt_built h higher).mp refuses).1 none) ?_
      rw [stays]
    · refine .raised (f := f) ⟨built, (refusesAt_built h higher).mpr ⟨some', short⟩⟩ ?_
      rw [refused]
      exact raise_cell_self ..
    · refine unrefused (fun refuses => absurd enough (not_le.mpr ((refusesAt_built h higher).mp refuses).2)) ?_
      rw [reserved, State.cell, State.cell, reserveFoil_attention]
      split
      · exact raise_cell_ne d.s _ (by decide)
      · rfl
  case low =>
    have lower {g : Fin 4} (here : g < f) : (d.group nip f later).LowersAt s nip g ↔ d.LowersAt s nip g :=
      step.lowersAt_lower here
    have kept (never : ¬(d.group nip f later).LowersAt s nip f) (cell : (d.group nip f later).s.cell 8 = d.s.cell 8) :
        ToldOf s (d.group nip f later).s 8 fun g => g ∉ later ∧ (d.group nip f later).LowersAt s nip g := by
      refine h.low.same cell fun g => ⟨fun ⟨away, lowers⟩ => ?_, fun ⟨away, lowers⟩ => ?_⟩
      · rcases passed away with rfl | here
        · exact absurd lowers never
        · exact ⟨before here, (lower here).mp lowers⟩
      · have here := (built_iff higher).mp away
        exact ⟨fun there => away (List.mem_cons_of_mem _ there), (lower here).mpr lowers⟩
    have lowers_iff : (d.group nip f later).LowersAt s nip f ↔ (d.group nip f later).ReservesAt s nip f
        ∧ d.s.foil[f].available - needOf (d.runsFor nip f later) < (d.s.webEntry f).low ∧ d.s.foil[f].low = false := by
      rw [Draft.LowersAt, needAt_built h higher, foil, web]
      exact and_congr_right fun _ => and_comm
    rcases group_cases nip f later d with ⟨none, stays⟩ | ⟨some', short, refused⟩ | ⟨some', enough, reserved⟩
    · refine kept (fun lowers => ((reservesAt_built h higher).mp lowers.1).1 none) ?_
      rw [stays]
    · refine kept (fun lowers => absurd short (not_lt.mpr ((reservesAt_built h higher).mp lowers.1).2)) ?_
      rw [refused]
      exact raise_cell_ne d.s _ (by decide)
    · have reserves := (reservesAt_built h higher).mpr ⟨some', enough⟩
      by_cases under : d.s.foil[f].available - needOf (d.runsFor nip f later) < (d.s.webEntry f).low ∧ d.s.foil[f].low = false
      · refine .raised (f := f) ⟨built, lowers_iff.mpr ⟨reserves, under⟩⟩ ?_
        rw [reserved, State.cell, reserveFoil_attention, if_pos under]
        exact raise_cell_self d.s 8 _
      · refine kept (fun lowers => under (lowers_iff.mp lowers).2) ?_
        rw [reserved, State.cell, reserveFoil_attention, if_neg under, State.cell]

end

/-! ### The entries of a repeat (R58, R61, R62) -/

theorem laneEntry_eq_some_iff {s : State} {h : HandOver} {nip : Pos} {l : Fin 8} {e : Entry} :
    s.laneEntry h nip l = some e ↔ ∃ (c : Fin 64) (r : Design), s.active.choice s.active.lanes[l] = some c
      ∧ s.active.designs[c] = some r ∧ e = s.mkEntry h nip l c r := by
  unfold State.laneEntry
  simp only [Option.bind_eq_some_iff, Option.map_eq_some_iff]
  constructor
  · rintro ⟨c, choice, r, design, rfl⟩
    exact ⟨c, r, choice, design, rfl⟩
  · rintro ⟨c, r, choice, design, rfl⟩
    exact ⟨c, choice, r, design, rfl⟩

theorem suppression_ne_foilOut {s : State} {h : HandOver} {l : Fin 8} {r : Design} :
    s.suppression h l r ≠ some .foilOut := by
  unfold State.suppression
  split_ifs <;> simp

/-- Every group is built (R63). -/
theorem draft_at (s : State) (h : HandOver) : DraftAt s (h.mt + len s.jobs.cfg.d) [] (s.draft h) := by
  have start : DraftAt s (h.mt + len s.jobs.cfg.d) webs4 (s.firstDraft h) := by
    have all : ∀ f : Fin 4, f ∈ webs4 := by decide
    refine ⟨rfl, fun _ _ => rfl, fun _ _ e member _ => ?_, fun _ member => (by cases member),
      fun f away => absurd (all f) away, .none s 4 fun f both => both.1 (all f), .none s 8 fun f both => both.1 (all f)⟩
    obtain ⟨l, -, made⟩ := List.mem_filterMap.mp member
    obtain ⟨c, r, -, -, rfl⟩ := laneEntry_eq_some_iff.mp made
    exact fun refused => suppression_ne_foilOut (Option.map_injective (fun _ _ => Decision.suppressed.inj) refused)
  rw [draft_eq_groups]
  exact (((start.group (by decide)).group (by decide)).group (by decide)).group (by decide)

end Sys2Proof.Machine

/-! ## A drafted plan joins (R64, R65) -/

namespace Sys2Proof.Machine

/-! ### The progress of the lanes (R64) -/

/-- Jobs with other lanes in the active bank. -/
def Jobs.withLanes (j : Jobs) (v : Vector Lane 8) : Jobs := j.setActiveBank { j.activeBank with lanes := v }

theorem Jobs.withLanes_activeBank (j : Jobs) (v : Vector Lane 8) :
    (j.withLanes v).activeBank = { j.activeBank with lanes := v } :=
  Vector.getElem_set_self _

theorem Jobs.withLanes_withLanes (j : Jobs) (v w : Vector Lane 8) : (j.withLanes v).withLanes w = j.withLanes w := by
  have bank := j.withLanes_activeBank v
  rw [Jobs.withLanes, bank]
  simp only [Jobs.withLanes, Jobs.setActiveBank, Vector.set_set]

theorem Jobs.withLanes_self (j : Jobs) : j.withLanes j.activeBank.lanes = j := by
  have banks : j.banks.set j.active j.activeBank = j.banks := Vector.set_getElem_self _
  exact congrArg (fun v => { j with banks := v }) banks

/-- A state with other lanes in its active bank. -/
def State.withLanes (s : State) (v : Vector Lane 8) : State := s.setJobs (s.jobs.withLanes v)

theorem withLanes_lanes (s : State) (v : Vector Lane 8) : (s.withLanes v).active.lanes = v :=
  congrArg Bank.lanes (s.jobs.withLanes_activeBank v)

/-- The rotation of some lanes has been moved on. -/
structure Advanced (ls : List (Fin 8)) (s t : State) : Prop where
  others : t = { s with jobs := s.jobs.withLanes t.active.lanes, attention := t.attention }
  lanes : ∀ l : Fin 8, t.active.lanes[l] = if l ∈ ls then s.active.lanes[l].advance else s.active.lanes[l]
  wraps : ToldOf s t 13 fun l : Fin 8 => l ∈ ls ∧ s.active.lanes[l].wraps = true
  cells : ∀ k : Fin 18, k ≠ 13 → t.cell k = s.cell k

theorem modLane_eq (s : State) (l : Fin 8) : s.setActive (s.active.modLane l Lane.advance) =
    s.withLanes (s.active.lanes.set l s.active.lanes[l].advance) := rfl

theorem advanced_lane (s : State) (l : Fin 8) : Advanced [l] s (s.advanceLane l) := by
  have lanes : (s.advanceLane l).active.lanes = s.active.lanes.set l s.active.lanes[l].advance := by
    unfold State.advanceLane
    simp only
    rw [modLane_eq]
    split
    · exact withLanes_lanes ..
    · exact withLanes_lanes ..
  have state : s.advanceLane l = if s.active.lanes[l].wraps then
      (s.withLanes (s.active.lanes.set l s.active.lanes[l].advance)).raise 13 (BitVec.ofNat 32 l.val)
    else s.withLanes (s.active.lanes.set l s.active.lanes[l].advance) := rfl
  refine ⟨?_, fun k => ?_, ?_, fun k other => ?_⟩
  · rw [lanes, state]
    split <;> rfl
  · rw [lanes]
    by_cases own : l = k
    · subst own
      rw [if_pos List.mem_cons_self]
      exact Vector.getElem_set_self _
    · rw [if_neg (by simpa using Ne.symm own)]
      exact Vector.getElem_set_ne l.isLt k.isLt (by simpa [Fin.ext_iff] using own)
  · rw [state]
    by_cases wraps : s.active.lanes[l].wraps = true
    · rw [if_pos wraps]
      exact .raised ⟨List.mem_cons_self, wraps⟩ (raise_cell_self ..)
    · rw [if_neg wraps]
      refine ToldOf.same (.none s 13 (which := fun _ : Fin 8 => False) fun _ h => h) rfl fun k => ⟨fun ⟨single, own⟩ => ?_, False.elim⟩
      rw [List.mem_singleton.mp single] at own
      exact wraps own
  · rw [state]
    split
    · exact raise_cell_ne _ _ other
    · rfl

theorem Advanced.cons {l : Fin 8} {ls : List (Fin 8)} {s t u : State} (first : Advanced [l] s t)
    (rest : Advanced ls t u)
    (new : l ∉ ls) : Advanced (l :: ls) s u := by
  have own (k : Fin 8) : t.active.lanes[k] = if k = l then s.active.lanes[k].advance else s.active.lanes[k] := by
    rw [first.lanes]
    simp only [List.mem_singleton]
  have apart (k : Fin 8) (behind : k ∈ ls) : t.active.lanes[k] = s.active.lanes[k] := by
    have other : k ≠ l := fun same => new (same ▸ behind)
    rw [own, if_neg other]
  refine ⟨?_, fun k => ?_, ?_, fun k other => (rest.cells k other).trans (first.cells k other)⟩
  · calc
      u = { t with jobs := t.jobs.withLanes u.active.lanes, attention := u.attention } := rest.others
      _ = { s with jobs := (s.jobs.withLanes t.active.lanes).withLanes u.active.lanes, attention := u.attention } :=
        congrArg (fun v : State => { v with jobs := v.jobs.withLanes u.active.lanes, attention := u.attention }) first.others
      _ = { s with jobs := s.jobs.withLanes u.active.lanes, attention := u.attention } := by rw [Jobs.withLanes_withLanes]
  · rw [rest.lanes, own]
    by_cases same : k = l
    · subst same
      simp [new]
    · simp [same]
  · by_cases later : ∃ k, k ∈ ls ∧ t.active.lanes[k].wraps = true
    · obtain ⟨k, ⟨behind, wraps⟩, shows⟩ := rest.wraps.1 later
      rw [apart k behind] at wraps
      exact .raised (f := k) ⟨List.mem_cons_of_mem _ behind, wraps⟩ shows
    · have never : ∀ k, ¬(k ∈ ls ∧ t.active.lanes[k].wraps = true) := fun k both => later ⟨k, both⟩
      refine first.wraps.same (rest.wraps.2 never) fun k => ⟨fun ⟨member, wraps⟩ => ⟨?_, wraps⟩, fun ⟨member, wraps⟩ => ⟨?_, wraps⟩⟩
      · rcases List.mem_cons.mp member with rfl | behind
        · exact List.mem_cons_self
        · exact absurd ⟨behind, apart k behind ▸ wraps⟩ (never k)
      · rw [List.mem_singleton.mp member]
        exact List.mem_cons_self

theorem advanced_lanes : ∀ {ls : List (Fin 8)} (s : State), ls.Nodup → Advanced ls s (ls.foldl State.advanceLane s)
  | [], s, _ => by
    refine ⟨?_, fun _ => rfl, .none s 13 fun _ both => List.not_mem_nil both.1, fun _ _ => rfl⟩
    exact congrArg (fun v => { s with jobs := v }) s.jobs.withLanes_self.symm
  | l :: ls, s, distinct => by
    obtain ⟨new, distinct⟩ := List.nodup_cons.mp distinct
    exact (advanced_lane s l).cons (advanced_lanes _ distinct) new

theorem advanceLanes_advanced (s : State) {es : List Entry} (lanes : (es.map (·.lane)).Nodup) :
    Advanced ((es.filter Entry.advances).map (·.lane)) s (s.advanceLanes es) := by
  have distinct : ((es.filter Entry.advances).map (·.lane)).Nodup := lanes.sublist (List.filter_sublist.map _)
  have folded := advanced_lanes s distinct
  rw [List.foldl_map] at folded
  exact folded

/-! ### The records of the entries decided at planning (R65) -/

theorem ReportFrame.eq {s t : State} (frame : ReportFrame s t) :
    t = { s with report := t.report, attention := t.attention } := by
  obtain ⟨pending, port, tracker, jobs, planner, foil, cassettes, drives, answers, cycDue, freeCount⟩ := frame
  cases t
  simp only [State.mk.injEq]
  exact ⟨pending, port, tracker, jobs, planner, foil, cassettes, drives, answers, trivial, trivial, cycDue, freeCount⟩

/-- Some records have been written. -/
structure Wrote (ds : List LogRecord) (s t : State) : Prop where
  others : t = { s with report := t.report, attention := t.attention }
  log : s.report.log.length ≤ 256 → s.report.LogTook t.report ds
  silent : t.report.ringSilent = s.report.ringSilent
  rpts : t.report.rpts = s.report.rpts
  cells : ∀ k : Fin 18, k ≠ 14 → k ≠ 15 → k ≠ 16 → t.cell k = s.cell k

theorem wrote_nil (s : State) : Wrote [] s s := ⟨rfl, fun bounded => .nil bounded, rfl, rfl, fun _ _ _ _ => rfl⟩

theorem wrote_one (s : State) (r : LogRecord) : Wrote [r] s (s.writeLog r) := by
  have report := writeLog_report s r
  refine ⟨?_, fun bounded => ?_, by rw [report]; rfl, by rw [report]; rfl, fun k => writeLog_cell_ne s r⟩
  · exact (writeLog_frame s r).eq
  · rw [report]
    exact Report.logTook_write bounded r

theorem Wrote.trans {ds es : List LogRecord} {s t u : State} (a : Wrote ds s t) (b : Wrote es t u) :
    Wrote (ds ++ es) s u := by
  refine ⟨?_, fun bounded => ?_, b.silent.trans a.silent, b.rpts.trans a.rpts, fun k half overwrite watch =>
    (b.cells k half overwrite watch).trans (a.cells k half overwrite watch)⟩
  · exact b.others.trans (congrArg (fun v : State => { v with report := u.report, attention := u.attention }) a.others)
  · have took := a.log bounded
    have stillBounded : t.report.log.length ≤ 256 := by
      rw [took.length]
      omega
    exact took.trans bounded (b.log stillBounded)

theorem logPlanned_wrote (s : State) (p : Plan) :
    Wrote (p.entries.filterMap fun e => e.outcome.map fun d => p.told e d) s (s.logPlanned p) := by
  have fold : ∀ (es : List Entry) (s : State), Wrote (es.filterMap fun e => e.outcome.map fun d => p.told e d) s
      (es.foldl (fun s e => match e.outcome with | none => s | some d => s.writeLog (p.record e d)) s) := by
    intro es
    induction es with
    | nil => exact wrote_nil
    | cons e es ih =>
      intro s
      rw [List.foldl_cons, List.filterMap_cons]
      cases e.outcome with
      | none => exact ih s
      | some d => exact (wrote_one s (p.record e d)).trans (ih _)
  exact fold p.entries s

/-! ### Joining or closing (R65, R80 to R82) -/

theorem done_eq (p : Plan) : p.done = !p.entries.any (·.outcome.isNone) := by
  rw [Plan.done, List.not_any_eq_all_not]
  rfl

/-- A plan with an undecided entry joins the tail. -/
theorem joinOrClose_joins (s : State) {p : Plan} (undone : p.done = false) :
    s.joinOrClose p = s.setPlanner { s.planner with queue := s.planner.queue ++ [p] } := by
  rw [State.joinOrClose, undone]
  rfl

/-- A plan whose entries are all decided closes at once. -/
theorem joinOrClose_closes (s : State) {p : Plan} (done : p.done = true) :
    s.joinOrClose p = (s.countPlan p).handReport p.report := by
  rw [State.joinOrClose, done]
  rfl

theorem outcomeOf_isSome {es : List Entry} (decided : ∀ e ∈ es, e.outcome ≠ none) (k : Fin 8) :
    (outcomeOf es k).isSome = true ↔ k ∈ es.map (·.lane) := by
  unfold outcomeOf
  cases found : es.find? (·.lane == k) with
  | none =>
    refine iff_of_false Bool.false_ne_true fun member => ?_
    obtain ⟨e, inside, own⟩ := List.mem_map.mp member
    exact List.find?_eq_none.mp found e inside (by simpa using own)
  | some e =>
    have inside := List.mem_of_find?_eq_some found
    have own : e.lane = k := by simpa using List.find?_some found
    exact iff_of_true (Option.isSome_iff_ne_none.mpr (decided e inside)) (List.mem_map.mpr ⟨e, inside, own⟩)

/-- A plan of suppressed entries counts each of its lanes as rejected, when it closes (R81). -/
theorem joinOrClose_counts (s : State) {p : Plan} (lanes : (p.entries.map (·.lane)).Nodup)
    (suppressed : ∀ e ∈ p.entries, e.outcome ≠ some .stamped) :
    (s.joinOrClose p).planner.st = s.planner.st ∧ (s.joinOrClose p).planner.stamped = s.planner.stamped
      ∧ ∀ k : Fin 8, (s.joinOrClose p).planner.rejected[k] =
        if p.entries.any (·.outcome.isNone) = false ∧ k ∈ p.entries.map (·.lane) then countLabel s.planner.rejected[k]
        else s.planner.rejected[k] := by
  have any := done_eq p
  cases done : p.done with
  | false =>
    rw [done, eq_comm, Bool.not_eq_false'] at any
    rw [joinOrClose_joins s done, any]
    exact ⟨rfl, rfl, fun k => (if_neg fun both => by cases both.1).symm⟩
  | true =>
    rw [done, eq_comm, Bool.not_eq_true'] at any
    have decided : ∀ e ∈ p.entries, e.outcome ≠ none := fun e member none =>
      absurd (List.any_eq_false.mp any e member) (by simp [none])
    have never (k : Fin 8) : outcomeOf p.entries k ≠ some .stamped := by
      unfold outcomeOf
      intro stamped
      obtain ⟨e, found, outcome⟩ := Option.bind_eq_some_iff.mp stamped
      exact suppressed e (List.mem_of_find?_eq_some found) outcome
    rw [joinOrClose_closes s done, any]
    refine ⟨countPlan_st s p, ?_, fun k => ?_⟩
    · refine Vector.ext fun k inside => ?_
      exact ((countEntries_lane lanes s.planner ⟨k, inside⟩).1).trans (if_neg (never ⟨k, inside⟩))
    · refine ((countEntries_lane lanes s.planner k).2).trans ?_
      refine if_congr ?_ rfl rfl
      rw [outcomeOf_isSome decided]
      exact ⟨fun both => ⟨rfl, both.1⟩, fun both => ⟨both.2, never k⟩⟩

theorem joinOrClose_rest (s : State) (p : Plan) :
    s.joinOrClose p = { s with planner := (s.joinOrClose p).planner, report := (s.joinOrClose p).report }
      ∧ (s.joinOrClose p).report.log = s.report.log ∧ (s.joinOrClose p).report.nextLog = s.report.nextLog
      ∧ (s.joinOrClose p).report.ringSilent = s.report.ringSilent
      ∧ (s.joinOrClose p).report.rpts = (if p.entries.any (·.outcome.isNone) = true ∨ s.report.ringSilent = true
          then s.report.rpts else reportJoined s.report.rpts p.report) := by
  have any := done_eq p
  cases done : p.done with
  | false =>
    rw [done, eq_comm, Bool.not_eq_false'] at any
    rw [joinOrClose_joins s done, any]
    exact ⟨rfl, rfl, rfl, rfl, (if_pos (.inl rfl)).symm⟩
  | true =>
    rw [done, eq_comm, Bool.not_eq_true'] at any
    rw [joinOrClose_closes s done, any]
    refine ⟨rfl, Report.handReport_log .., Report.handReport_nextLog .., Report.handReport_ringSilent ..,
      (Report.handReport_rpts ..).trans ?_⟩
    have flag : (s.countPlan p).report = s.report := rfl
    rw [flag]
    cases s.report.ringSilent <;> simp

end Sys2Proof.Machine

/-! ## What the groups leave of a repeat's entries and of the state (R58, R61 to R63, R95) -/

namespace Sys2Proof.Machine

/-! ### An entry while the groups are built -/

/-- What the building of groups may do to an entry: nothing to a decided one; an undecided one may get a move or be
refused, a foil entry alone. -/
structure Drafted (e e' : Entry) : Prop where
  kept : e' = { e with phs := e'.phs, move := e'.move, outcome := e'.outcome }
  settled : e.outcome ≠ none → e'.outcome = e.outcome
  fate : e.outcome = none → (e'.outcome = none ∧ e'.phs = e.phs ∧ (e.kind.isFoil = false → e'.move = e.move))
    ∨ (e.kind.isFoil = true ∧ e'.outcome = some (.suppressed .foilOut))

theorem Drafted.refl (e : Entry) : Drafted e e := ⟨rfl, fun _ => rfl, fun none => .inl ⟨none, rfl, fun _ => rfl⟩⟩

theorem Drafted.trans {a b c : Entry} (first : Drafted a b) (next : Drafted b c) : Drafted a c := by
  have kind : b.kind = a.kind := by rw [first.kept]
  refine ⟨?_, fun decided => ?_, fun none => ?_⟩
  · exact next.kept.trans
      (congrArg (fun e : Entry => { e with phs := c.phs, move := c.move, outcome := c.outcome }) first.kept)
  · have same := first.settled decided
    exact (next.settled (same ▸ decided)).trans same
  · rcases first.fate none with ⟨still, phs, move⟩ | ⟨foil, refused⟩
    · rw [← kind, ← phs]
      rcases next.fate still with ⟨open', phs', move'⟩ | refused
      · exact .inl ⟨open', phs', fun other => (move' other).trans (move (kind ▸ other))⟩
      · exact .inr refused
    · refine .inr ⟨foil, (next.settled ?_).trans refused⟩
      rw [refused]
      exact Option.some_ne_none _

theorem Entry.isFoil_of_inGroup {f : Fin 4} {e : Entry} (inGroup : e.inGroup f = true) : e.kind.isFoil = true := by
  simp only [Entry.inGroup, Bool.and_eq_true] at inGroup
  exact inGroup.1.2

theorem drafted_refuseGroup (f : Fin 4) (e : Entry) : Drafted e (refuseGroup f e) := by
  cases inGroup : e.inGroup f with
  | false =>
    rw [refuseGroup_apart inGroup]
    exact .refl e
  | true =>
    have none := Entry.outcome_of_inGroup inGroup
    rw [refuseGroup_of_inGroup inGroup]
    exact ⟨rfl, fun decided => absurd none decided, fun _ => .inr ⟨Entry.isFoil_of_inGroup inGroup, rfl⟩⟩

theorem drafted_assignMoves (f : Fin 4) (base : Nat) (rs : List Run) (e : Entry) :
    Drafted e (assignMoves f base rs e) := by
  cases inGroup : e.inGroup f with
  | false =>
    rw [assignMoves_apart inGroup]
    exact .refl e
  | true =>
    rw [assignMoves_of_inGroup inGroup]
    refine ⟨rfl, fun _ => rfl, fun none => .inl ⟨none, rfl, fun other => ?_⟩⟩
    rw [Entry.isFoil_of_inGroup inGroup] at other
    cases other

/-! ### The draft while the groups are built -/

/-- What the building of groups changes: the entries one by one, the foil accounts and two watch entries. -/
structure Grown (d d' : Draft) : Prop where
  entries : ∃ g : Entry → Entry, (∀ e, Drafted e (g e)) ∧ d'.entries = d.entries.map g
  others : d'.s = { d.s with foil := d'.s.foil, attention := d'.s.attention }
  cells : ∀ k : Fin 18, k ≠ 4 → k ≠ 8 → d'.s.cell k = d.s.cell k

theorem Grown.refl (d : Draft) : Grown d d := ⟨⟨id, Drafted.refl, (List.map_id _).symm⟩, rfl, fun _ _ _ => rfl⟩

theorem Grown.trans {a b c : Draft} (first : Grown a b) (next : Grown b c) : Grown a c := by
  obtain ⟨g, drafted, entries⟩ := first.entries
  obtain ⟨g', drafted', entries'⟩ := next.entries
  refine ⟨⟨g' ∘ g, fun e => (drafted e).trans (drafted' (g e)), ?_⟩, ?_, fun k out low => ?_⟩
  · rw [entries', entries, List.map_map]
  · exact next.others.trans
      (congrArg (fun s : State => { s with foil := c.s.foil, attention := c.s.attention }) first.others)
  · exact (next.cells k out low).trans (first.cells k out low)

theorem reserveFoil_rest (s : State) (f : Fin 4) (need : Nat) : s.reserveFoil f need =
    { s with foil := (s.reserveFoil f need).foil, attention := (s.reserveFoil f need).attention } := by
  have low := lowTest_rest (s.modFoil f fun a => a.reserve need) f
  exact congrArg (fun t : State => t.modFoil f fun a => a.save s.active.job.lr need) low

theorem grown_group (nip : Pos) (f : Fin 4) (later : List (Fin 4)) (d : Draft) : Grown d (d.group nip f later) := by
  rcases group_cases nip f later d with ⟨-, stays⟩ | ⟨-, -, refused⟩ | ⟨-, -, reserved⟩
  · rw [stays]
    exact .refl d
  · rw [refused]
    exact ⟨⟨_, drafted_refuseGroup f, rfl⟩, rfl, fun k out _ => raise_cell_ne d.s _ out⟩
  · rw [reserved]
    refine ⟨⟨_, drafted_assignMoves f _ _, rfl⟩, reserveFoil_rest .., fun k _ low => ?_⟩
    rw [State.cell, State.cell, reserveFoil_attention]
    split
    · exact raise_cell_ne d.s _ low
    · rfl

theorem grown_groups (nip : Pos) : ∀ (fs : List (Fin 4)) (d : Draft), Grown d (Draft.groups nip fs d)
  | [], d => .refl d
  | f :: later, d => (grown_group nip f later d).trans (grown_groups nip later _)

theorem draft_grown (s : State) (h : HandOver) : Grown (s.firstDraft h) (s.draft h) := grown_groups _ webs4 _

/-! ### The entries of a drafted plan -/

/-- An entry of a draft stands for its lane's design, as the checks judged it, and has been through the groups. -/
theorem exists_mkEntry {s : State} {h : HandOver} {e : Entry} (member : e ∈ (s.draft h).entries) :
    ∃ r : Design, s.active.choice s.active.lanes[e.lane] = some e.design ∧ s.active.designs[e.design] = some r
      ∧ Drafted (s.mkEntry h (h.mt + len s.jobs.cfg.d) e.lane e.design r) e := by
  obtain ⟨g, drafted, entries⟩ := (draft_grown s h).entries
  rw [entries] at member
  obtain ⟨e0, first, rfl⟩ := List.mem_map.mp member
  obtain ⟨l, -, made⟩ := List.mem_filterMap.mp first
  obtain ⟨c, r, choice, design, rfl⟩ := laneEntry_eq_some_iff.mp made
  have own := drafted (s.mkEntry h (h.mt + len s.jobs.cfg.d) l c r)
  generalize g (s.mkEntry h (h.mt + len s.jobs.cfg.d) l c r) = e at own
  obtain rfl : e.lane = l := by
    rw [own.kept]
    rfl
  obtain rfl : e.design = c := by
    rw [own.kept]
    rfl
  exact ⟨r, choice, design, own⟩

theorem map_filterMap_of_some {α β : Type} {f : α → Option β} {g : β → α} (back : ∀ a b, f a = some b → g b = a) :
    ∀ l : List α, (l.filterMap f).map g = l.filter fun a => (f a).isSome
  | [] => rfl
  | a :: l => by
    rw [List.filterMap_cons, List.filter_cons]
    cases made : f a with
    | none => exact map_filterMap_of_some back l
    | some b =>
      rw [Option.isSome_some, if_pos rfl, List.map_cons, back a b made, map_filterMap_of_some back l]

theorem firstDraft_lanes (s : State) (h : HandOver) : (s.firstDraft h).entries.map (·.lane) = lanes8.filter fun l =>
    ((s.active.choice s.active.lanes[l]).bind fun d => s.active.designs[d]).isSome := by
  refine (map_filterMap_of_some (fun _ _ => laneEntry_lane) lanes8).trans (List.filter_congr fun l _ => ?_)
  unfold State.laneEntry
  cases s.active.choice s.active.lanes[l] with
  | none => rfl
  | some d => exact Option.isSome_map

theorem draft_roomy (s : State) (h : HandOver) : (s.draft h).Roomy ((s.firstDraft h).entries.map (·.lane)) [] :=
  Draft.Roomy.groups _ webs4 (firstDraft_roomy s h)

/-- A foil design that passes the checks has a web (R62). -/
theorem web_of_suppression {s : State} {h : HandOver} {l : Fin 8} {r : Design} (passes : s.suppression h l r = none)
    (foil : r.kind.isFoil = true) : ∃ f : Fin 4, r.web = some f := by
  have drive : s.foilDriveOk r = true := by
    unfold State.suppression at passes
    split_ifs at passes with _ _ _ _ _ _ _ bad
    exact Bool.not_eq_false _ ▸ bad
  cases web : r.web with
  | none =>
    rw [State.foilDriveOk, foil, web] at drive
    cases drive
  | some f => exact ⟨f, rfl⟩

/-- A foil entry that stays undecided has a move of its web (R63, R94, R95). -/
theorem servesAt_of_undecided {s : State} {h : HandOver} {e : Entry} (member : e ∈ (s.draft h).entries) {f : Fin 4}
    (web : e.web = some f) (foil : e.kind.isFoil = true) (undecided : e.outcome = none) : (s.draft h).ServesAt f e := by
  have done := (draft_at s h).done f List.not_mem_nil
  have inGroup : e ∈ (s.draft h).groupAt f := List.mem_filter.mpr ⟨member, by simp [Entry.groupOf, web, foil, undecided]⟩
  have some' : (s.draft h).groupAt f ≠ [] := List.ne_nil_of_mem inGroup
  rcases Nat.lt_or_ge s.foil[f].available ((s.draft h).needAt s (h.mt + len s.jobs.cfg.d) f) with short | enough
  · have refused := done.refused ⟨some', short⟩ e inGroup
    rw [undecided] at refused
    cases refused
  · exact ((done.reserved ⟨some', enough⟩).1 e inGroup).2

/-! ### The progress of a lane (R28, R64) -/

theorem Entry.advances_iff (e : Entry) :
    e.advances = true ↔ e.outcome = none ∨ e.outcome = some (.suppressed .inhibited) := by
  unfold Entry.advances
  cases e.outcome with
  | none => simp
  | some o => simp

theorem Lane.wraps_iff (x : Lane) : x.wraps = true ↔ x.mode = .sequence ∧ x.seqLen ≤ x.index + 1 := by
  simp [Lane.wraps]

theorem Lane.advance_eq (x : Lane) : x.advance = { x with
    onB := if x.mode = .alternate then !x.onB else x.onB
    index := if x.mode = .sequence then (if x.seqLen ≤ x.index + 1 then 0 else x.index + 1) else x.index } := by
  obtain ⟨mode⟩ := x
  cases mode <;> rfl

end Sys2Proof.Machine

/-! ## The planning of a repeat (R57 to R65, R93 to R97) -/

namespace Sys2Proof.Machine

/-! ### The plan of a repeat -/

theorem ToldOf.of_start {n : Nat} {s s' t : State} {k : Fin 18} {which : Fin n → Prop} (told : ToldOf s t k which)
    (cell : s.cell k = s'.cell k) : ToldOf s' t k which := by
  rw [ToldOf, ← cell]
  exact told

theorem ToldOf.spelled {n : Nat} {s t : State} {k : Fin 18} {which : Fin n → Prop} (told : ToldOf s t k which) :
    ((∃ f, which f) → t.attention.kinds[k].pending = true
        ∧ ∃ f, which f ∧ t.attention.kinds[k].detail = BitVec.ofNat 32 f.val)
      ∧ ((∀ f, ¬which f) → t.attention.kinds[k] = s.attention.kinds[k]) := by
  obtain ⟨some', never⟩ := told
  refine ⟨fun holds => ?_, never⟩
  obtain ⟨f, own, pending, detail⟩ := some' holds
  exact ⟨pending, f, own, detail⟩

theorem FoilAccount.planned_fields {a b : FoilAccount} {need low lr : Nat} (account : b = a.planned need low lr) :
    b.remaining = a.remaining ∧ b.reserved = a.reserved + need
      ∧ b.low = (a.low || decide (a.remaining - a.reserved - need < low))
      ∧ b.saved = min 4294967295 (a.saved + (lr - need)) := by
  subst account
  exact ⟨rfl, rfl, rfl, rfl⟩

/-- The entries that a plan holds, against the lanes and the designs they stand for (R57, R58, R61 to R63, R95). -/
theorem newPlan_entry {s : State} {h : HandOver} {first : Bool} {e : Entry} (member : e ∈ (s.newPlan h first).entries) :
    s.active.choice s.active.lanes[e.lane] = some e.design
      ∧ ∃ r : Design, s.active.designs[e.design] = some r ∧ e.kind = r.kind ∧ e.segment = r.segment ∧ e.web = r.web
        ∧ e.length = r.length ∧ e.pressure = r.pressure
        ∧ e.contact = (s.newPlan h first).nip + len r.offset + BitVec.ofInt 32 s.active.lanes[e.lane].trim
        ∧ e.release = e.contact - len s.jobs.cfg.lc ∧ e.late = e.contact - len s.jobs.cfg.lmin
        ∧ (∀ why : Reason, s.suppression h e.lane r = some why → e.outcome = some (.suppressed why))
        ∧ (s.suppression h e.lane r = none →
            e.outcome = none ∨ (r.kind.isFoil = true ∧ e.outcome = some (.suppressed .foilOut)))
        ∧ (e.outcome = none → e.phs = .unsent ∧ (r.kind.isFoil = false → e.move = none)
            ∧ (r.kind.isFoil = true → ∃ (i : Nat) (m : Move), e.move = some i ∧ (s.newPlan h first).moves[i]? = some m
                ∧ some m.web = r.web ∧ e.lane ∈ m.lanes ∧ m.st = .unsent ∧ m.reserved = m.length ∧ m.chain = false)) := by
  obtain ⟨r, choice, design, drafted⟩ := exists_mkEntry (s := s) (h := h) member
  have kept := drafted.kept
  have kind : e.kind = r.kind := by rw [kept]; rfl
  have web : e.web = r.web := by rw [kept]; rfl
  have contact : e.contact = (s.newPlan h first).nip + len r.offset + BitVec.ofInt 32 s.active.lanes[e.lane].trim :=
    congrArg Entry.contact kept
  have judged : (s.mkEntry h (h.mt + len s.jobs.cfg.d) e.lane e.design r).outcome =
      (s.suppression h e.lane r).map .suppressed := rfl
  refine ⟨choice, r, design, kind, congrArg Entry.segment kept, web, congrArg Entry.length kept,
    congrArg Entry.pressure kept, contact, ?_, ?_, fun why fails => ?_, fun passes => ?_, fun undecided => ?_⟩
  · rw [contact]
    exact congrArg Entry.release kept
  · rw [contact]
    exact congrArg Entry.late kept
  · rw [fails] at judged
    rw [drafted.settled (by rw [judged]; exact Option.some_ne_none _), judged]
    rfl
  · rw [passes] at judged
    exact (drafted.fate judged).imp And.left id
  · cases passes : s.suppression h e.lane r with
    | some why =>
      rw [passes] at judged
      have settled := drafted.settled (by rw [judged]; exact Option.some_ne_none _)
      rw [undecided, judged] at settled
      cases settled
    | none =>
      rw [passes] at judged
      rcases drafted.fate judged with ⟨-, phs, move⟩ | ⟨-, refused⟩
      · refine ⟨phs.trans ?_, move, fun foil => ?_⟩
        · exact congrArg plannedPhs passes
        · obtain ⟨f, ofWeb⟩ := web_of_suppression passes foil
          obtain ⟨i, m, own, place, moveWeb, rest⟩ :=
            servesAt_of_undecided member (web.trans ofWeb) (kind ▸ foil) undecided
          exact ⟨i, m, own, place, by rw [moveWeb, ofWeb], rest⟩
      · rw [undecided] at refused
        cases refused

theorem newPlan_nodup (s : State) (h : HandOver) (first : Bool) : ((s.newPlan h first).entries.map (·.lane)).Nodup := by
  have lanes : (s.newPlan h first).entries.map (·.lane) = (s.firstDraft h).entries.map (·.lane) := (draft_roomy s h).lanes
  rw [lanes]
  exact (pairwise_laneEntries s h _).imp fun before => before.ne

/-- No entry is decided STAMPED at planning. -/
theorem newPlan_suppressed {s : State} {h : HandOver} {first : Bool} {e : Entry}
    (member : e ∈ (s.newPlan h first).entries) : e.outcome ≠ some .stamped := by
  obtain ⟨-, r, -, -, -, -, -, -, -, -, -, fails, passes, -⟩ := newPlan_entry member
  cases judged : s.suppression h e.lane r with
  | some why =>
    rw [fails why judged]
    simp
  | none =>
    rcases passes judged with none | ⟨-, refused⟩
    · simp [none]
    · simp [refused]

/-! ### The stages of the planning -/

/-- The stages of a planning pass, each by what it changes, together. -/
theorem others_of_stages {s d a w t : State} (drafted : d = { s with foil := d.foil, attention := d.attention })
    (advanced : a = { d with jobs := d.jobs.withLanes a.active.lanes, attention := a.attention })
    (wrote : w = { a with report := w.report, attention := w.attention })
    (joined : t = { w with planner := t.planner, report := t.report }) :
    t = { s with
      planner := t.planner, foil := t.foil, report := t.report, attention := t.attention
      jobs := (s.setActive { s.active with lanes := t.active.lanes }).jobs } := by
  have jobs : t.jobs = a.jobs := by rw [joined, wrote]
  have lanes : t.active.lanes = a.active.lanes := by rw [State.active, jobs, State.active]
  have foil : t.foil = d.foil := by rw [joined, wrote, advanced]
  have attention : t.attention = w.attention := by rw [joined]
  rw [lanes, foil, attention]
  calc
    t = { w with planner := t.planner, report := t.report } := joined
    _ = { a with planner := t.planner, report := t.report, attention := w.attention } :=
      congrArg (fun v : State => { v with planner := t.planner, report := t.report }) wrote
    _ = { d with
        planner := t.planner, report := t.report, attention := w.attention, jobs := d.jobs.withLanes a.active.lanes } :=
      congrArg (fun v : State => { v with planner := t.planner, report := t.report, attention := w.attention }) advanced
    _ = _ := congrArg (fun v : State => { v with
        planner := t.planner, report := t.report, attention := w.attention
        jobs := v.jobs.withLanes a.active.lanes }) drafted

section
variable (s : State) (h : HandOver) (first : Bool)

/-- The state once the groups are built and the lanes have moved on (R63, R64). -/
def State.lanesMoved : State := (s.draft h).s.advanceLanes (s.newPlan h first).entries

/-- The state once the entries decided at planning have their records (R65). -/
def State.plannedLogged : State := (s.lanesMoved h first).logPlanned (s.newPlan h first)

theorem planEntries_eq : s.planEntries h first = (s.plannedLogged h first).joinOrClose (s.newPlan h first) := rfl

theorem lanesMoved_advanced : Advanced (((s.newPlan h first).entries.filter Entry.advances).map (·.lane)) (s.draft h).s
    (s.lanesMoved h first) := advanceLanes_advanced _ (newPlan_nodup s h first)

theorem plannedLogged_wrote :
    Wrote ((s.newPlan h first).entries.filterMap fun e => e.outcome.map fun d => (s.newPlan h first).told e d)
      (s.lanesMoved h first) (s.plannedLogged h first) := logPlanned_wrote ..

theorem planEntries_joined : s.planEntries h first = { s.plannedLogged h first with
    planner := (s.planEntries h first).planner, report := (s.planEntries h first).report } := (joinOrClose_rest ..).1

theorem draft_active : (s.draft h).s.active = s.active := by
  rw [State.active, (draft_at s h).jobs, State.active]

/-! ### The watch entries -/

theorem planEntries_cell_logged (k : Fin 18) : (s.planEntries h first).cell k = (s.plannedLogged h first).cell k := by
  have joined : (s.planEntries h first).attention = (s.plannedLogged h first).attention := by rw [planEntries_joined]
  exact cell_of_attention joined k

/-- What happens once the groups are built leaves the watch entries of the foil as they are. -/
theorem planEntries_cell {k : Fin 18} (wrap : k ≠ 13) (half : k ≠ 14) (overwrite : k ≠ 15) (watch : k ≠ 16) :
    (s.planEntries h first).cell k = (s.draft h).s.cell k :=
  (planEntries_cell_logged s h first k).trans
    (((plannedLogged_wrote s h first).cells k half overwrite watch).trans ((lanesMoved_advanced s h first).cells k wrap))

theorem mem_advancing {es : List Entry} {l : Fin 8} : l ∈ (es.filter Entry.advances).map (·.lane) ↔
    ∃ e ∈ es, e.lane = l ∧ (e.outcome = none ∨ e.outcome = some (.suppressed .inhibited)) := by
  simp only [List.mem_map, List.mem_filter, Entry.advances_iff]
  exact exists_congr fun e => ⟨fun ⟨⟨member, why⟩, own⟩ => ⟨member, own, why⟩,
    fun ⟨member, own, why⟩ => ⟨⟨member, why⟩, own⟩⟩

theorem planEntries_wraps : ToldOf s (s.planEntries h first) 13 fun l : Fin 8 =>
    (∃ e ∈ (s.newPlan h first).entries, e.lane = l ∧ (e.outcome = none ∨ e.outcome = some (.suppressed .inhibited)))
      ∧ s.active.lanes[l].mode = .sequence ∧ s.active.lanes[l].seqLen ≤ s.active.lanes[l].index + 1 := by
  have told := (lanesMoved_advanced s h first).wraps.of_start ((draft_grown s h).cells 13 (by decide) (by decide))
  have written := (plannedLogged_wrote s h first).cells 13 (by decide) (by decide) (by decide)
  refine told.same ((planEntries_cell_logged s h first 13).trans written) fun l => ?_
  rw [mem_advancing, draft_active, Lane.wraps_iff]

/-! ### The lanes -/

theorem planEntries_jobs : (s.planEntries h first).jobs = (s.lanesMoved h first).jobs := by
  rw [planEntries_joined, (plannedLogged_wrote s h first).others]

theorem planEntries_lane (l : Fin 8) : (s.planEntries h first).active.lanes[l] =
    if l ∈ ((s.newPlan h first).entries.filter Entry.advances).map (·.lane) then s.active.lanes[l].advance
    else s.active.lanes[l] := by
  have lane := (lanesMoved_advanced s h first).lanes l
  rw [draft_active] at lane
  rw [State.active, planEntries_jobs]
  exact lane

/-! ### The records and the report -/

/-- The report unit before the records are written. -/
theorem lanesMoved_report : (s.lanesMoved h first).report = s.report := by
  rw [(lanesMoved_advanced s h first).others, (draft_grown s h).others]
  rfl

theorem planEntries_log (bounded : s.report.log.length ≤ 256) : s.report.LogTook (s.planEntries h first).report
    ((s.newPlan h first).entries.filterMap fun e => e.outcome.map fun d => (s.newPlan h first).told e d) := by
  have wrote := (plannedLogged_wrote s h first).log
  rw [lanesMoved_report] at wrote
  obtain ⟨-, log, next, -⟩ := joinOrClose_rest (s.plannedLogged h first) (s.newPlan h first)
  unfold Report.LogTook at wrote ⊢
  rw [planEntries_eq, log, next]
  exact wrote bounded

theorem planEntries_ringSilent : (s.planEntries h first).report.ringSilent = s.report.ringSilent := by
  obtain ⟨-, -, -, silent, -⟩ := joinOrClose_rest (s.plannedLogged h first) (s.newPlan h first)
  rw [planEntries_eq, silent, (plannedLogged_wrote s h first).silent, lanesMoved_report]

theorem planEntries_rpts : (s.planEntries h first).report.rpts =
    if (s.newPlan h first).entries.any (·.outcome.isNone) = true ∨ s.report.ringSilent = true then s.report.rpts
    else reportJoined s.report.rpts (s.newPlan h first).report := by
  obtain ⟨-, -, -, -, rpts⟩ := joinOrClose_rest (s.plannedLogged h first) (s.newPlan h first)
  have wrote := plannedLogged_wrote s h first
  rw [planEntries_eq, rpts, wrote.silent, wrote.rpts, lanesMoved_report]

/-! ### The queue and the counts -/

theorem planEntries_queue_any : (s.planEntries h first).planner.queue =
    if (s.newPlan h first).entries.any (·.outcome.isNone) then s.planner.queue ++ [s.newPlan h first]
    else s.planner.queue := by
  rw [planEntries_queue, done_eq]
  cases (s.newPlan h first).entries.any (·.outcome.isNone) with
  | true => rfl
  | false => exact List.append_nil _

theorem planEntries_counts : (s.planEntries h first).planner.st = s.planner.st
    ∧ (s.planEntries h first).planner.stamped = s.planner.stamped
    ∧ ∀ l : Fin 8, (s.planEntries h first).planner.rejected[l] =
      if (s.newPlan h first).entries.any (·.outcome.isNone) = false ∧ l ∈ (s.newPlan h first).entries.map (·.lane)
      then countLabel s.planner.rejected[l] else s.planner.rejected[l] := by
  have counts := joinOrClose_counts (s.plannedLogged h first) (newPlan_nodup s h first) fun _ => newPlan_suppressed
  rw [State.plannedLogged, logPlanned_planner, State.lanesMoved, advanceLanes_planner, draft_planner] at counts
  exact counts

theorem planEntries_others : s.planEntries h first =
    { s with
      planner := (s.planEntries h first).planner, foil := (s.planEntries h first).foil
      report := (s.planEntries h first).report, attention := (s.planEntries h first).attention
      jobs := (s.setActive { s.active with lanes := (s.planEntries h first).active.lanes }).jobs } :=
  others_of_stages (draft_grown s h).others (lanesMoved_advanced s h first).others (plannedLogged_wrote s h first).others
    (planEntries_joined s h first)

end

/-- Settles O14: the draft is followed group by group (`DraftAt`, `Grown`), and what the later acts change apart from it
is put beside it. -/
theorem repeatIsPlanned : Obligations.RepeatIsPlanned := by
  intro s h first chosen
  have choice (l : Fin 8) : chosen l = s.active.choice s.active.lanes[l] := by
    cases mode : s.active.lanes[l].mode <;> simp only [chosen, Bank.choice, mode, Bank.sequenceAt_eq]
  have lanes : (s.newPlan h first).entries.map (·.lane) =
      lanes8.filter fun l => ((chosen l).bind fun d => s.active.designs[d]).isSome := by
    simp only [choice]
    exact (draft_roomy s h).lanes.trans (firstDraft_lanes s h)
  have done := draft_at s h
  have foil := planEntries_foil s h first
  obtain ⟨st, stamped, rejected⟩ := planEntries_counts s h first
  have out := (done.out.same (planEntries_cell s h first (k := 4) (by decide) (by decide) (by decide) (by decide))
    (fun f => (and_iff_right List.not_mem_nil).symm)).spelled
  have low := (done.low.same (planEntries_cell s h first (k := 8) (by decide) (by decide) (by decide) (by decide))
    (fun f => (and_iff_right List.not_mem_nil).symm)).spelled
  have wraps := (planEntries_wraps s h first).spelled
  refine ⟨s.planEntries h first, s.newPlan h first, rfl, rfl, rfl, rfl, rfl, rfl, rfl, rfl, lanes, (draft_roomy s h).room,
    fun e member => ?entry, ⟨fun f => ?web, out.1, out.2, low.1, low.2⟩, ⟨fun l => ?lane, wraps.1, wraps.2⟩,
    planEntries_log s h first, planEntries_queue_any s h first, st, stamped, rejected, planEntries_rpts s h first,
    planEntries_ringSilent s h first, planEntries_others s h first⟩
  case entry =>
    rw [choice]
    exact newPlan_entry member
  case web =>
    obtain ⟨reserved, refused, untouched⟩ := done.done f List.not_mem_nil
    rw [foil]
    refine ⟨fun reserves => ?_, refused, untouched⟩
    obtain ⟨served, moves, account⟩ := reserved reserves
    exact ⟨fun e member => (served e member).1, moves, FoilAccount.planned_fields account⟩
  case lane =>
    have lane := planEntries_lane s h first l
    refine ⟨fun stays => lane.trans (if_neg (mt mem_advancing.mp stays)), fun advances => ?_⟩
    exact (lane.trans (if_pos (mem_advancing.mpr advances))).trans (Lane.advance_eq _)

end Sys2Proof.Machine
